-- ==== Sys2Proof/Word.lean ====
section
/-! DEFINITION. The words of the KW46: bytes of a frame, 16-bit and 32-bit quantities. -/

namespace Sys2Proof

/-- One byte of a frame (R172). -/
abbrev Byte := BitVec 8

/-- A 16-bit quantity: a notice's reference field (Table 12-7). -/
abbrev Half := BitVec 16

/-- A 32-bit count modulo 2^32: the run clock (R1), the flow counter (R4), a target (R3), a timestamp. -/
abbrev Word := BitVec 32

/-- An analog code, 0..1023 (Table 0-3). -/
abbrev Code := BitVec 10

end Sys2Proof
end

