-- ==== Sys2Proof/Syntax.lean ====
section
/-! DEFINITION. The commands the part takes: one constructor of `Instr` per row of spec/opcode_table.json, with its operands. -/

namespace Sys2Proof.Machine

/-- The three SPI target ports (R154). -/
inductive Port where
  | a | b | c
deriving DecidableEq, Repr

/-- The two lanes of the Step Engine (R65): WATER is lane 0, DOSE is lane 1. -/
inductive Lane where
  | water | dose
deriving DecidableEq, Repr

/-- The six filtered inputs (Table 2-1). -/
inductive Input where
  | door | levelLow | levelHigh | float | saltLow | rodHome
deriving DecidableEq, Repr

/-- The six raw sense lines (R20). -/
inductive SenseLine where
  | inletSn | heaterSn | drainSn | circSn | doseDSn | doseRSn
deriving DecidableEq, Repr

/-- The four outputs with sense checks (section 3.3). -/
inductive Checked where
  | inlet | heater | drain | circ
deriving DecidableEq, Repr

/-- The counter an action's target lies on (R52). -/
inductive CounterRef where
  | time | flow
deriving DecidableEq, Repr

/-- A block that receives an event which the spec delivers to several blocks in no defined order (R14, R19, R26). -/
inductive Receiver where
  | guard | engine | softener | door | ports | cycle
deriving DecidableEq, Repr

/-- The two edges of RESET_N that a RESET_LINE reset spans (R171): low holds the part, the rise ends the reset.  `busy` names the ports
whose CS is low at the edge: an exchange is in progress there (R164). -/
inductive ResetEdge where
  | falls (busy : List Port)
  | rises (busy : List Port)
deriving DecidableEq, Repr

/-- The levels of the input pins that hold a level (Table 0-3); true is high. -/
structure Pins where
  door : Bool
  levelLow : Bool
  levelHigh : Bool
  float : Bool
  saltLow : Bool
  rodHome : Bool
  rodOc : Bool
  railOk : Bool
  inletSn : Bool
  heaterSn : Bool
  drainSn : Bool
  circSn : Bool
  doseDSn : Bool
  doseRSn : Bool
deriving DecidableEq, Repr

/-- What a POWER_ON finds: the levels of the input pins, and the ports whose CS is low (R164). -/
structure PowerPins where
  levels : Pins
  busy : List Port
deriving DecidableEq, Repr

/-- A request as an exchange brings it to the part (R155): the port, the tag and the payload bytes; the code is the
constructor of `Instr` that carries it. -/
structure Request where
  port : Port
  tag : Byte
  payload : List Byte
deriving DecidableEq, Repr

/-- A RESET PART as an exchange brings it, with the other ports that have an exchange in progress as it is taken (R164). -/
structure ResetRequest extends Request where
  busy : List Port
deriving DecidableEq, Repr

end Sys2Proof.Machine

namespace Sys2Proof

open Machine

/-- The commands of spec/opcode_table.json.  Where the spec defines no order among the receivers of an event, `order` gives the
order in which they take it (log 5). -/
inductive Instr where
  -- Resets (R171)
  | powerOn (pins : PowerPins)
  | resetLine (edge : ResetEdge)
  | resetPart (q : ResetRequest)
  -- Time Base (Chapter 1)
  | runClockTick
  | flowEdge (rising : Bool)
  | zeroCrossEdge
  | lossWindowExpiry (order : List Receiver)
  | railOkRise
  | railOkFall (order : List Receiver)
  | supplySettleExpiry (order : List Receiver)
  | readTimeBase (q : Request)
  -- Inputs, sensing and samples (Chapter 2)
  | filteredPinChange (i : Input) (level : Bool)
  | debounceTimerExpiry (i : Input) (order : List Receiver)
  | rodOcChange (level : Bool)
  | senseLineChange (l : SenseLine) (level : Bool)
  | readInputs (q : Request)
  | tempSampleTimerExpiry (code : Code) (order : List Receiver)
  | ledTimerExpiry (code : Code)
  | sampleNow (q : Request)
  | readSamples (q : Request)
  -- Output Guard (Chapter 3)
  | stuckOnWindowExpiry (o : Checked)
  | stuckOffWindowExpiry (o : Checked)
  | cleanCountReached
  | clearFault (q : Request)
  | latchDrainExpiry
  | floodClearTimerExpiry
  | testOutput (q : Request)
  | testTimerExpiry
  | readOutputs (q : Request)
  -- Action Table (Chapter 4)
  | postAction (q : Request)
  | actionDueSet (r : CounterRef)
  | cancelAction (q : Request)
  | readActions (q : Request)
  -- Lanes and step queues (Chapter 5)
  | claimLane (q : Request)
  | releaseLane (q : Request)
  | takeLane (q : Request)
  | postStep (q : Request)
  | startAttempt (l : Lane)
  | timeLimitExpiry (l : Lane)
  | retryTimerExpiry (l : Lane)
  | pauseSettleExpiry (l : Lane)
  | skipStep (q : Request)
  | retryStep (q : Request)
  | flushLane (q : Request)
  | holdLane (q : Request)
  | resumeLane (q : Request)
  | readLane (q : Request)
  | readStep (q : Request)
  -- Water lane steps (Chapter 6)
  | fillNoFlowExpiry
  | drainRunOnComplete
  | circulateComplete
  | waterDryWindowExpiry
  | pauseStepComplete
  -- Softener Unit (Chapter 7)
  | soakComplete
  | regenNoFlowExpiry
  | resetResin (q : Request)
  | readSoftener (q : Request)
  -- Dosing Unit (Chapter 8)
  | doseOnTimerExpiry
  | doseOffTimerExpiry
  | doseDryWindowExpiry
  | refill (q : Request)
  | setStock (q : Request)
  | readDosing (q : Request)
  -- Door Unit (Chapter 9)
  | extendTimerExpiry
  | holdTimerExpiry
  | deadTimeExpiry
  | retractTimerExpiry
  | clearRodFault (q : Request)
  | readDoor (q : Request)
  -- Client ports (Chapter 10)
  | badFrame (p : Port) (bytes : List Byte)
  | unknownRequest (p : Port) (code : Byte) (tag : Byte) (payload : List Byte)
  | null (q : Request)
  | subscribe (q : Request)
  | takeNotices (q : Request)
  | readPort (q : Request)
  -- Profile, settings, accounts and cycle record (Chapter 11)
  | profileField (q : Request)
  | profileLock (q : Request)
  | writeSetting (q : Request)
  | loadAccounts (q : Request)
  | beginCycle (q : Request)
  | endCycle (q : Request)
  | readCycle (q : Request)
  | readProfile (q : Request)
  | readSettings (q : Request)
deriving DecidableEq, Repr

end Sys2Proof
end

