-- ==== Sys2Proof/Decode.lean ====
section
/-! DEFINITION. Reading a command: the table's words (it gives none any bits) and the frames of bytes by which a master spells a
request (Chapters 10 and 12); after it the writing of frames. -/

namespace Sys2Proof

open Machine

/-- The command a word spells by the table's bits: no row of spec/opcode_table.json gives bits, so no word spells one (log 2). -/
def decodeTableWord (_nbits _w : Nat) : Option Instr :=
  none

/-! ### CRC-8 (R155) -/

/-- One bit of CRC-8, polynomial 07H, most significant bit first (R155). -/
def crcBit (c : Byte) : Byte :=
  if c.msb then (c <<< 1) ^^^ 0x07#8 else c <<< 1

/-- One byte of the CRC. -/
def crcByte (c b : Byte) : Byte :=
  crcBit (crcBit (crcBit (crcBit (crcBit (crcBit (crcBit (crcBit (c ^^^ b))))))))

/-- CRC-8 with initial value FFH, no reflection, no final inversion (R155). -/
def crc8 (bytes : List Byte) : Byte :=
  bytes.foldl crcByte 0xFF#8

/-! ### Frames (R155, Table 12-1) -/

/-- A frame: a code (or status) byte, a tag, the length, the payload and the CRC over all of them. -/
def frameBytes (head tag : Byte) (payload : List Byte) : List Byte :=
  let body := head :: tag :: BitVec.ofNat 8 payload.length :: payload
  body ++ [crc8 body]

/-- What the frame check of R155 makes of the received bytes. -/
inductive FrameCheck where
  /-- no whole byte was received: no request is taken and no reply is formed (R154) -/
  | noByte
  /-- a bad frame, with the tag its reply carries -/
  | bad (tag : Byte)
  /-- a frame that is taken: code, tag and payload -/
  | taken (code tag : Byte) (payload : List Byte)
deriving DecidableEq, Repr

/-- The frame check of R155: short frame, bad length, short frame, bad CRC; bytes after the CRC byte are ignored. -/
def checkFrame (bytes : List Byte) : FrameCheck :=
  match bytes with
  | [] => .noByte
  | [_] => .bad 0
  | [_, tag] => .bad tag
  | code :: tag :: len :: rest =>
    let n := len.toNat
    if 28 < n then .bad tag
    else if rest.length < n + 1 then .bad tag
    else if (rest.drop n).head? = some (crc8 (code :: tag :: len :: rest.take n)) then .taken code tag (rest.take n)
    else .bad tag

/-- Table 12-2: the request codes. -/
def requestTable : List (Nat × (Request → Instr)) :=
  [(0x00, .null), (0x01, .readPort), (0x02, .subscribe), (0x03, .takeNotices),
   (0x04, .readTimeBase), (0x05, .readInputs), (0x06, .readSamples), (0x07, .readOutputs), (0x08, .readActions),
   (0x09, .readLane), (0x0A, .readStep),
   (0x0B, .readSoftener), (0x0C, .readDosing), (0x0D, .readDoor), (0x0E, .readProfile), (0x0F, .readSettings), (0x10, .readCycle),
   (0x20, .sampleNow), (0x21, .postAction), (0x22, .cancelAction)]
  ++ [(0x30, .claimLane), (0x31, .releaseLane), (0x32, .takeLane), (0x33, .postStep),
   (0x34, .skipStep), (0x35, .retryStep), (0x36, .flushLane), (0x37, .holdLane), (0x38, .resumeLane),
   (0x39, .beginCycle), (0x3A, .endCycle), (0x40, .writeSetting), (0x48, .refill), (0x50, .setStock),
   (0x51, .loadAccounts), (0x52, .resetResin), (0x58, .clearFault), (0x59, .testOutput), (0x5A, .clearRodFault),
   (0x60, .profileField), (0x61, .profileLock), (0x62, fun q => .resetPart { q with busy := [] })]

/-- The request of Table 12-2 with this code. -/
def requestOf (code : Byte) (q : Request) : Option Instr :=
  (requestTable.lookup code.toNat).map (fun mk => mk q)

/-- The command with the ports named whose exchanges are in progress as it is taken, which only RESET PART meets (R164). -/
def Instr.amid (i : Instr) (busy : List Port) : Instr :=
  match i with
  | .resetPart q => .resetPart { q with busy := busy }
  | i => i

/-- The ports whose exchanges a RESET PART cuts; none for every other command (R164). -/
def Instr.cuts : Instr → List Port
  | .resetPart q => q.busy
  | _ => []

/-- The command that the end of an exchange with these received bytes is on port `p` (R154 to R156), other exchanges being in progress on
the ports `busy`.  The end of an exchange with no whole byte is a BAD_FRAME of no bytes, which takes no request and leaves the reply slot
(R154) but ends the wait of a port whose exchange a reset has cut (R164); that this row of the table carries it is the model's choice
(log 30). -/
def commandOfExchange (p : Port) (busy : List Port) (bytes : List Byte) : Option Instr :=
  match checkFrame bytes with
  | .noByte => some (.badFrame p [])
  | .bad _ => some (.badFrame p bytes)
  | .taken code tag payload =>
    match requestOf code { port := p, tag := tag, payload := payload } with
    | some i => some (i.amid busy)
    | none => some (.unknownRequest p code tag payload)

/-! ### Bytes on the wire (R154) -/

/-- R154: a byte's bits, the most significant first. -/
def bitsOf (b : Byte) : List Bool :=
  [b.getLsbD 7, b.getLsbD 6, b.getLsbD 5, b.getLsbD 4, b.getLsbD 3, b.getLsbD 2, b.getLsbD 1, b.getLsbD 0]

/-- R154: the whole bytes that the bits on MOSI make, the most significant bit of each first; a byte left incomplete is discarded. -/
def wholeBytes : List Bool → List Byte
  | b7 :: b6 :: b5 :: b4 :: b3 :: b2 :: b1 :: b0 :: rest =>
    BitVec.ofNat 8 ([b7, b6, b5, b4, b3, b2, b1, b0].foldl (fun acc b => 2 * acc + b.toNat) 0) :: wholeBytes rest
  | _ => []

/-- The command that the bits received in an exchange spell (R154 to R156). -/
def commandOfBits (p : Port) (busy : List Port) (bits : List Bool) : Option Instr :=
  commandOfExchange p busy (wholeBytes bits)

/-! ### Writing frames -/

/-- The code and the request of a command that is a request of Table 12-2; none for every other command. -/
def codeOf : Instr → Option (Byte × Request)
  | .null q => some (0x00#8, q)
  | .readPort q => some (0x01#8, q)
  | .subscribe q => some (0x02#8, q)
  | .takeNotices q => some (0x03#8, q)
  | .readTimeBase q => some (0x04#8, q)
  | .readInputs q => some (0x05#8, q)
  | .readSamples q => some (0x06#8, q)
  | .readOutputs q => some (0x07#8, q)
  | .readActions q => some (0x08#8, q)
  | .readLane q => some (0x09#8, q)
  | .readStep q => some (0x0A#8, q)
  | .readSoftener q => some (0x0B#8, q)
  | .readDosing q => some (0x0C#8, q)
  | .readDoor q => some (0x0D#8, q)
  | .readProfile q => some (0x0E#8, q)
  | .readSettings q => some (0x0F#8, q)
  | .readCycle q => some (0x10#8, q)
  | .sampleNow q => some (0x20#8, q)
  | .postAction q => some (0x21#8, q)
  | .cancelAction q => some (0x22#8, q)
  | .claimLane q => some (0x30#8, q)
  | .releaseLane q => some (0x31#8, q)
  | .takeLane q => some (0x32#8, q)
  | .postStep q => some (0x33#8, q)
  | .skipStep q => some (0x34#8, q)
  | .retryStep q => some (0x35#8, q)
  | .flushLane q => some (0x36#8, q)
  | .holdLane q => some (0x37#8, q)
  | .resumeLane q => some (0x38#8, q)
  | .beginCycle q => some (0x39#8, q)
  | .endCycle q => some (0x3A#8, q)
  | .writeSetting q => some (0x40#8, q)
  | .refill q => some (0x48#8, q)
  | .setStock q => some (0x50#8, q)
  | .loadAccounts q => some (0x51#8, q)
  | .resetResin q => some (0x52#8, q)
  | .clearFault q => some (0x58#8, q)
  | .testOutput q => some (0x59#8, q)
  | .clearRodFault q => some (0x5A#8, q)
  | .profileField q => some (0x60#8, q)
  | .profileLock q => some (0x61#8, q)
  | .resetPart q => some (0x62#8, q.toRequest)
  | .powerOn _ | .resetLine _ | .runClockTick | .flowEdge _ | .zeroCrossEdge | .lossWindowExpiry _ | .railOkRise
  | .railOkFall _ | .supplySettleExpiry _ | .filteredPinChange _ _ | .debounceTimerExpiry _ _ | .rodOcChange _
  | .senseLineChange _ _ | .tempSampleTimerExpiry _ _ | .ledTimerExpiry _ | .stuckOnWindowExpiry _
  | .stuckOffWindowExpiry _ | .cleanCountReached | .latchDrainExpiry | .floodClearTimerExpiry | .testTimerExpiry
  | .actionDueSet _ | .startAttempt _ | .timeLimitExpiry _ | .retryTimerExpiry _ | .pauseSettleExpiry _
  | .fillNoFlowExpiry | .drainRunOnComplete | .circulateComplete | .waterDryWindowExpiry | .pauseStepComplete
  | .soakComplete | .regenNoFlowExpiry | .doseOnTimerExpiry | .doseOffTimerExpiry | .doseDryWindowExpiry
  | .extendTimerExpiry | .holdTimerExpiry | .deadTimeExpiry | .retractTimerExpiry
  | .badFrame _ _ | .unknownRequest _ _ _ _ => none

/-- The port and the bytes of an exchange that brings this command; none where the command comes by no exchange. -/
def exchangeOf : Instr → Option (Port × List Byte)
  | .badFrame p bytes => some (p, bytes)
  | .unknownRequest p code tag payload => some (p, frameBytes code tag payload)
  | i => (codeOf i).map (fun cq => (cq.2.port, frameBytes cq.1 cq.2.tag cq.2.payload))

end Sys2Proof
end

