-- ==== Sys2Proof/Config.lean ====
section
/-! DEFINITION. The free values: what the spec leaves open, as constants without a body.  A statement that holds of the
model holds whatever they are. -/

namespace Sys2Proof

/-- FREE VALUE, log 12.  What a 4-byte quantity (R172) reads as when the exact quantity is 2^32 or more; no rule states it. -/
opaque Config.beyond32 : Nat → Word

/-- FREE VALUE, log 13.  Whether the reply to a LOAD ACCOUNTS whose stock load is held (R138, R168) reckons the stroke in ON
as counted, for the request taken at this run-clock time; no rule states it. -/
opaque Config.heldLoadCountsStroke : Word → Bool

/-- FREE VALUE, log 14.  Whether, at this run-clock time, a retract that begins with ROD_OC asserted and ROD_HOME closed takes
the overcurrent (R142) before the home switch (R147); no rule states it. -/
opaque Config.rodOcBeforeHome : Word → Bool

end Sys2Proof
end

