-- ==== Sys2Proof/Machine/Receivers.lean ====
section
/-! DEFINITION. Which blocks receive an event that the spec delivers to several of them in no defined order. -/

namespace Sys2Proof.Machine

/-- The blocks that a change of the supply state is delivered to (R14). -/
def Receiver.ofSupply : List Receiver := [.guard, .engine, .door, .ports]

/-- The blocks that an event of this input is delivered to (Table 2-2). -/
def Receiver.ofInput : Input → List Receiver
  | .door => [.guard, .engine, .door, .ports]
  | .levelLow => [.guard, .engine, .door, .ports]
  | .levelHigh => [.engine, .softener, .ports]
  | .float => [.guard, .ports]
  | .saltLow => [.softener, .ports]
  | .rodHome => [.door, .ports]

/-- The blocks that a temperature sample is delivered to (R26), with the Port Interface, which takes its notice (R25). -/
def Receiver.ofSample : List Receiver := [.guard, .engine, .cycle, .ports]

end Sys2Proof.Machine
end

