-- ==== Sys2Proof/Machine/State.lean ====
section
/-! DEFINITION. The state of the KW46: every piece the spec gives the part, as plain data, and its values after reset. -/

namespace Sys2Proof.Machine

/-- A run-clock timer (R2): the run-clock value it expires at, or none while it is stopped. -/
abbrev Timer := Option Word

/-! ### Tables with one entry per name -/

/-- One value for each filtered input (Table 2-1). -/
structure PerInput (α : Type) where
  door : α
  levelLow : α
  levelHigh : α
  float : α
  saltLow : α
  rodHome : α
deriving DecidableEq, Repr

/-- One value for each port (R154). -/
structure PerPort (α : Type) where
  a : α
  b : α
  c : α
deriving DecidableEq, Repr

/-- One value for each lane (R65). -/
structure PerLane (α : Type) where
  water : α
  dose : α
deriving DecidableEq, Repr

/-- One value for each output with sense checks (section 3.3). -/
structure PerChecked (α : Type) where
  inlet : α
  heater : α
  drain : α
  circ : α
deriving DecidableEq, Repr

/-- The outputs of Table 3-1 other than DIVERTER. -/
inductive Output where
  | mainsRelay | inlet | regen | heater | drain | circ | doseD | doseR | aux
deriving DecidableEq, Repr

/-- One value for each output of Table 3-1 other than DIVERTER. -/
structure PerOutput (α : Type) where
  mainsRelay : α
  inlet : α
  regen : α
  heater : α
  drain : α
  circ : α
  doseD : α
  doseR : α
  aux : α
deriving DecidableEq, Repr

/-- The two dosed chemicals (Table 8-1): DETERGENT is agent 0, RINSE is agent 1. -/
inductive Agent where
  | detergent | rinse
deriving DecidableEq, Repr

/-- One value for each agent (Table 8-1). -/
structure PerAgent (α : Type) where
  detergent : α
  rinse : α
deriving DecidableEq, Repr

/-! ### Time Base (Chapter 1) -/

/-- The edge mode of the flow counter (R5). -/
inductive EdgeMode where
  | rising | both
deriving DecidableEq, Repr

/-- The states of the stray-flow detector (R9). -/
inductive StrayState where
  | disarmed | watching | reported | passive
deriving DecidableEq, Repr

/-- The supply state (section 1.6.1). -/
inductive Supply where
  | ready | lost
deriving DecidableEq, Repr

/-- The cause of a supply loss (R13). -/
inductive LossCause where
  | zeroCross | railOk
deriving DecidableEq, Repr

/-- The Time Base: run clock, flow counter, closing mark, stray-flow detector, supply monitor (Chapter 1). -/
structure TimeBase where
  clock : Word
  flow : Word
  edgeMode : EdgeMode
  mark : Word
  stray : StrayState
  strayCount : Nat
  strayThreshold : Option Nat
  supply : Supply
  zcPresent : Bool
  lossWindow : Timer
  settle : Timer
  lossCause : Option LossCause
deriving DecidableEq, Repr

/-! ### Input Filter and Sampler (Chapter 2) -/

/-- A filtered input (R17); `accepted` none is UNSETTLED, and true is the level of the "value 1" column of Table 2-1. -/
structure FilteredInput where
  accepted : Option Bool
  candidate : Option Bool
  debounce : Timer
  lastEvent : Option Word
deriving DecidableEq, Repr

/-- The validity of the temperature reading, with the reason when it is INVALID (section 2.5). -/
inductive TempStatus where
  | valid | noneYet | noTable | sensorFault
deriving DecidableEq, Repr

/-- The temperature reading (section 2.5). -/
structure TempReading where
  value : Option Int
  status : TempStatus
  code : Option Code
  sampleTime : Option Word
  validTime : Option Word
deriving DecidableEq, Repr

/-- The Sampler's turbidity state (section 2.6); `lit` is LIT and the level of TURB_LED. -/
structure Turbidity where
  lit : Bool
  ledTimer : Timer
  portReq : PerPort Bool
  doseReq : Bool
  code : Option Code
  codeTime : Option Word
  soilClass : Nat
  sampled : Bool
deriving DecidableEq, Repr

/-- The Sampler: temperature reading, its sample timer, turbidity state (Chapter 2). -/
structure Sampler where
  temp : TempReading
  tempTimer : Timer
  turb : Turbidity
deriving DecidableEq, Repr

/-! ### Output Guard (Chapter 3) -/

/-- The demand sources that a demand set can hold (Table 3-2). -/
inductive Source where
  | water | dose | softener | action | test | forced
deriving DecidableEq, Repr

/-- A demand set: each source at most once (R34). -/
structure DemandSet where
  water : Bool
  dose : Bool
  softener : Bool
  action : Bool
  test : Bool
  forced : Bool
deriving DecidableEq, Repr

/-- An output: its demand set and whether it is energised (R34). -/
structure OutputRec where
  demands : DemandSet
  energised : Bool
deriving DecidableEq, Repr

/-- The sense checks of one output: windows and episode marks (R41, R42). -/
structure CheckRec where
  stuckOn : Timer
  stuckOff : Timer
  onMark : Bool
  offMark : Bool
deriving DecidableEq, Repr

/-- The diverter position (R40). -/
inductive Diverter where
  | lower | upper
deriving DecidableEq, Repr

/-- The outputs whose stuck-on fault latches (R43). -/
inductive LatchOutput where
  | inlet | heater
deriving DecidableEq, Repr

/-- The fault record when it is not empty (section 3.4); its fault kind is always STUCK_ON. -/
structure FaultRecord where
  output : LatchOutput
  time : Word
  further : Bool
deriving DecidableEq, Repr

/-- The Output Guard (Chapter 3). -/
structure Guard where
  outs : PerOutput OutputRec
  checks : PerChecked CheckRec
  diverter : Diverter
  flood : Bool
  floodStart : Option Word
  floodClear : Timer
  latched : Bool
  record : Option FaultRecord
  cleanCount : Nat
  latchDrain : Timer
  drainAtReady : Bool
  test : Option Output
  testTimer : Timer
deriving DecidableEq, Repr

/-! ### Action Table (Chapter 4) -/

/-- The actions of Table 4-1. -/
inductive Action where
  | drainOn | drainOff | circOn | circOff | auxOn | auxOff | diverterSet | sampleTurbidity | resumeLane | notify
deriving DecidableEq, Repr

/-- An entry of the Action Table; its slot number is its place in the table (R52). -/
structure ActionEntry where
  owner : Port
  ref : CounterRef
  target : Word
  action : Action
  arg : Byte
  notify : Bool
deriving DecidableEq, Repr

/-! ### Step Engine (Chapters 5 and 6) -/

/-- The lane states in the order of Table 5-1. -/
inductive LaneState where
  | idle | ready | running | waiting | retryWait | paused | held | stalled | halted
deriving DecidableEq, Repr

/-- The wait causes (R65). -/
inductive WaitCause where
  | supply | exclusion | start
deriving DecidableEq, Repr

/-- The status of a step (R66). -/
inductive StepStatus where
  | queued | active | done | failed
deriving DecidableEq, Repr

/-- The result codes in the order of Table 12-6. -/
inductive StepResult where
  | none | ok | noFlow | timeout | noWater | notDrained | outputFault | pumpFault | blocked | flood | fault | sensor
  | rodFault | noSupply | flushed
deriving DecidableEq, Repr

/-- A step's kind with the parameters of its kind (R66, Table 12-4): volumes in mL, run-on in s, durations in 100 ms units,
target temperature in 0.1 degrees C, base in uL. -/
inductive Work where
  | fill (target : Nat) (levelStop : Bool)
  | drain (runOn : Nat)
  | circulate (duration : Nat) (position : Diverter)
  | heat (target : Nat) (position : Diverter)
  | pause (duration : Nat)
  | regenerate (force : Bool)
  | autoOpen
  | dose (base : Nat) (agent : Agent)
deriving DecidableEq, Repr

/-- The result flags of a step (R66). -/
structure ResultFlags where
  short : Bool
  notNeeded : Bool
  alreadyOpen : Bool
  disabled : Bool
  shortSupply : Bool
  weak : Bool
deriving DecidableEq, Repr

/-- A step record (R66), with the quantities a kind keeps in its step (Table 6-1): `count` and `countTarget` of a FILL (R91),
`progress` of a CIRCULATE (circulated time, R99) or a PAUSE (elapsed time, R104), `runOn` of a DRAIN (R97), `lastTemp` of a
HEAT (R101), `autoOpenOn` of an AUTO_OPEN (R107). -/
structure StepRec where
  id : Nat
  work : Work
  tries : Nat
  hold : Bool
  notify : Bool
  limit : Nat
  status : StepStatus
  started : Bool
  triesUsed : Nat
  result : StepResult
  actual : Nat
  flags : ResultFlags
  endTime : Option Word
  count : Nat
  countTarget : Nat
  progress : Nat
  runOn : Nat
  lastTemp : Option Int
  autoOpenOn : Bool
deriving DecidableEq, Repr

/-- The manner in which a step ended (R66). -/
inductive Manner where
  | done | failed | skipped | flushed
deriving DecidableEq, Repr

/-- The last-result record when it is not empty (R66). -/
structure LastResult where
  step : StepRec
  manner : Manner
deriving DecidableEq, Repr

/-- A lane record (R65).  `pausedFromWait` records whether a pause left WAITING (R80); `attemptDue` that the run clock has
increased since the lane entered READY (R72). -/
structure LaneRec where
  state : LaneState
  holder : Option Port
  queue : List StepRec
  waitCause : Option WaitCause
  pauseDoor : Bool
  pauseSupply : Bool
  pausedFromWait : Bool
  holdAfter : Bool
  nextId : Nat
  last : Option LastResult
  retry : Timer
  laneSettle : Timer
  running : Nat
  attemptDue : Bool
deriving DecidableEq, Repr

/-- The Step Engine: both lanes, the reference volume (R86), the no-flow window of a FILL (R95) and the dry window of a
CIRCULATE or HEAT (R100, R103). -/
structure Engine where
  lanes : PerLane LaneRec
  refVolume : Option Nat
  fillNoFlow : Timer
  waterDry : Timer
deriving DecidableEq, Repr

/-! ### Softener Unit (Chapter 7) -/

/-- The regeneration phases (R109). -/
inductive RegenPhase where
  | none | brine | soak | rinse
deriving DecidableEq, Repr

/-- The Softener Unit: the resin account and the regeneration (R109, R114, R119). -/
structure Softener where
  valid : Bool
  remaining : Nat
  pendingFlag : Bool
  phase : RegenPhase
  tally : Nat
  exempt : Nat
  brine : Nat
  soak : Nat
  rinse : Nat
  brineTarget : Nat
  rinseTarget : Nat
  noFlow : Timer
deriving DecidableEq, Repr

/-! ### Dosing Unit (Chapter 8) -/

/-- The level of a stock account (R124). -/
inductive StockLevel where
  | ok | low | empty
deriving DecidableEq, Repr

/-- A write of a stock account that waits for the judgment of a stroke (R138): a SET STOCK with its stored value, or a load
with the value of the request. -/
inductive HeldWrite where
  | set (stored : Nat)
  | load (value : Nat)
deriving DecidableEq, Repr

/-- A stock account (R124). -/
structure StockAccount where
  valid : Bool
  stock : Nat
  level : StockLevel
  tally : Nat
  held : Option HeldWrite
deriving DecidableEq, Repr

/-- The settings a DOSE step latches at its first start (R127). -/
structure DoseSettings where
  detergentBase : Nat
  rinseBase : Nat
  slope : Nat
  f0 : Nat
  f1 : Nat
  f2 : Nat
  f3 : Nat
  doseMin : Nat
  doseMax : Nat
deriving DecidableEq, Repr

/-- The phase of a stroke (R126). -/
inductive StrokePhase where
  | idle | on | off
deriving DecidableEq, Repr

/-- The dose record (R126).  `computed` is COMPUTED against AWAITING_CLASS; `hr` is none for RINSE, which reads no hardness;
`pumpOn` and `pumpCut` are the two energising marks; `issuedInTry` says that a stroke has been issued in this try (R131). -/
structure DoseRec where
  agent : Agent
  stepId : Nat
  computed : Bool
  base : Nat
  latched : DoseSettings
  vr : Nat
  hr : Option Nat
  soilClass : Option Nat
  fv : Nat
  fh : Nat
  fs : Nat
  d1 : Nat
  d2 : Nat
  d3 : Nat
  dose : Nat
  strokes : Nat
  delivered : Nat
  tryTarget : Nat
  phase : StrokePhase
  feedback : Bool
  pumpOn : Bool
  pumpCut : Bool
  issuedInTry : Bool
  onTimer : Timer
  offTimer : Timer
  dry : Timer
deriving DecidableEq, Repr

/-- The Dosing Unit (Chapter 8). -/
structure Dosing where
  accounts : PerAgent StockAccount
  record : Option DoseRec
deriving DecidableEq, Repr

/-! ### Door Unit (Chapter 9) -/

/-- The rod states with the numbers of Table 9-1. -/
inductive RodState where
  | unknown | home | extending | holding | retracting | braking | jammed
deriving DecidableEq, Repr

/-- The drive conditions of the bridge (R140). -/
inductive Drive where
  | extend | retract | brake | coast
deriving DecidableEq, Repr

/-- The errands of the rod (R140). -/
inductive Errand where
  | none | opening | homing
deriving DecidableEq, Repr

/-- The causes of a HOMING errand (R140). -/
inductive HomingCause where
  | profileLock | clearFault | homeLost | tryEnd
deriving DecidableEq, Repr

/-- The move that follows the current brake (R140). -/
inductive NextMove where
  | none | retract | extend
deriving DecidableEq, Repr

/-- What a retract that reaches home will settle for an OPENING errand (R140). -/
inductive RodReport where
  | none | success | blocked | restart
deriving DecidableEq, Repr

/-- The jam causes (R140). -/
inductive JamCause where
  | none | retractLimit | overcurrent
deriving DecidableEq, Repr

/-- The Door Unit (R140); `position` none is UNSETTLED and true is CLOSED; `ajar` is the door mode AJAR; `extendBegan` is the
run-clock time at which the extension began (R144). -/
structure DoorUnit where
  position : Option Bool
  ajar : Bool
  rod : RodState
  drive : Drive
  errand : Errand
  cause : Option HomingCause
  nextMove : NextMove
  report : RodReport
  opened : Bool
  extendTime : Nat
  extendBegan : Word
  supplyHold : Bool
  extendTimer : Timer
  holdTimer : Timer
  retractTimer : Timer
  deadTimer : Timer
  jam : JamCause
deriving DecidableEq, Repr

/-! ### Port Interface (Chapter 10) -/

/-- The status codes in the order of Table 12-10. -/
inductive Status where
  | ok | clamped | badFrame | unknownRequest | badField | notPermitted | notReady | notHolder | heldByOther | laneBusy
  | queueFull | tableFull | notFound | notOwner | locked | tooEarly | wrongState
deriving DecidableEq, Repr

/-- A reply as its slot holds it: the frame without length and CRC, which follow from it (R155). -/
structure Reply where
  status : Status
  tag : Byte
  payload : List Byte
deriving DecidableEq, Repr

/-- The notice kinds (Table 12-8). -/
inductive NoticeKind where
  | stepDone | stepFailed | laneHalted | inputChanged | strayFlow | tempFault | tempOk | doorMode | rodState
  | turbidityDone | actionDue | actionDropped | regenPending | regenDone | stock | supplyReady | supplyLost | flood
  | floodEnd | faultLatched | outputFault | settingChanged
deriving DecidableEq, Repr

/-- A notice (Table 12-7). -/
structure Notice where
  kind : NoticeKind
  subject : Byte
  reference : Half
  value : Word
  time : Word
deriving DecidableEq, Repr

/-- The rights classes (Table 10-4). -/
inductive RightsClass where
  | query | profile | lane | action | settings | refill | accounts | service
deriving DecidableEq, Repr

/-- The rights classes in force at a port (R157). -/
structure Rights where
  query : Bool
  profile : Bool
  lane : Bool
  action : Bool
  settings : Bool
  refill : Bool
  accounts : Bool
  service : Bool
deriving DecidableEq, Repr

/-- A port: its reply slot, notice queue, held-urgent set, routing and rights (R154, R157, R159, R160).  `classes` has bits 0 to 5
for STEP, INPUT, ACTION, ACCOUNT, SAFETY, SETTING; `inputMask` has bit i-1 for input number i (Table 12-2).  `waitCs` says that a
reset found an exchange in progress: the port waits for CS to be deasserted and takes no request from that exchange (R164). -/
structure PortRec where
  reply : Reply
  queue : List Notice
  lost : Bool
  held : List Notice
  classes : BitVec 6
  inputMask : BitVec 6
  threshold : Nat
  rights : Rights
  waitCs : Bool
deriving DecidableEq, Repr

/-! ### Profile and Settings store (Chapter 11) -/

/-- The states of the cycle record (R169). -/
inductive CycleState where
  | none | open | closed | interrupted
deriving DecidableEq, Repr

/-- The cycle record (R169). -/
structure CycleRec where
  number : Nat
  state : CycleState
  start : Option Word
  endTime : Option Word
  water : Nat
  detergent : Nat
  rinse : Nat
  heaterMs : Nat
  full : Nat
  weak : Nat
  peak : Option Int
  fault : Bool
deriving DecidableEq, Repr

/-- The reset kinds (section 0.12). -/
inductive ResetKind where
  | powerOn | resetLine | resetRequest
deriving DecidableEq, Repr

/-- The Profile and Settings store: part state, the 38 profile fields (none is unwritten), the index the last refused lock named,
the 18 settings, the cycle record and the reset cause record (R165, R167, R169, R171). -/
structure Store where
  configured : Bool
  profile : List (Option Int)
  lastRefused : Nat
  settings : List Nat
  cycle : CycleRec
  resetKind : ResetKind
  warmCount : Nat
deriving DecidableEq, Repr

/-! ### The whole state -/

/-- The state of the KW46.  `resetHeld` says that RESET_N is held low (R171); `pending` is the model's own queue of commands that
wait, first in first out (log 1). -/
structure State where
  resetHeld : Bool
  pins : Pins
  time : TimeBase
  inputs : PerInput FilteredInput
  sampler : Sampler
  guard : Guard
  actions : List (Option ActionEntry)
  engine : Engine
  softener : Softener
  dosing : Dosing
  door : DoorUnit
  ports : PerPort PortRec
  store : Store
  pending : List Instr
deriving DecidableEq, Repr

/-- Nothing in the spec stops the part: every event and request has an outcome, if only a status code in a reply, so no fault
exists and nothing raises one. -/
inductive Fault where
deriving DecidableEq, Repr

/-- Why a command has no meaning. -/
inductive Refusal where
  /-- Raised by an arm of `exec` for a row that has no meaning yet; safe, as the step stops.  No arm raises it now. -/
  | notModelled (mnemonic : String)
deriving DecidableEq, Repr

/-! ### Values after reset -/

/-- All pins low: DESIGN CHOICE, log 8, for `State.reset`; a reset command reads the pins of the state it is taken in. -/
def Pins.low : Pins :=
  { door := false, levelLow := false, levelHigh := false, float := false, saltLow := false, rodHome := false, rodOc := false,
    railOk := false, inletSn := false, heaterSn := false, drainSn := false, circSn := false, doseDSn := false,
    doseRSn := false }

/-- Table 1-8. -/
def TimeBase.reset : TimeBase :=
  { clock := 0, flow := 0, edgeMode := .rising, mark := 0, stray := .disarmed, strayCount := 0, strayThreshold := none,
    supply := .lost, zcPresent := false, lossWindow := none, settle := none, lossCause := none }

/-- R21: UNSETTLED, with the pin level at the reset as the candidate and the debounce timer started at run clock 0. -/
def FilteredInput.reset (level : Bool) (debounceMs : Word) : FilteredInput :=
  { accepted := none, candidate := some level, debounce := some debounceMs, lastEvent := none }

/-- R21 with the debounce times of Table 2-1. -/
def FilteredInput.resetAll (pins : Pins) : PerInput FilteredInput :=
  { door := .reset pins.door 50, levelLow := .reset pins.levelLow 300, levelHigh := .reset pins.levelHigh 300,
    float := .reset pins.float 500, saltLow := .reset pins.saltLow 2000, rodHome := .reset pins.rodHome 20 }

/-- Table 2-8. -/
def Sampler.reset : Sampler :=
  { temp := { value := none, status := .noneYet, code := none, sampleTime := none, validTime := none },
    tempTimer := some 500,
    turb := { lit := false, ledTimer := none, portReq := { a := false, b := false, c := false }, doseReq := false,
              code := none, codeTime := none, soilClass := 1, sampled := false } }

/-- The empty demand set. -/
def DemandSet.empty : DemandSet :=
  { water := false, dose := false, softener := false, action := false, test := false, forced := false }

/-- R51: de-energised, with an empty demand set. -/
def OutputRec.reset : OutputRec :=
  { demands := .empty, energised := false }

/-- R51: windows stopped and episode marks clear, but a sense line that reads on at the reset starts its stuck-on window at run
clock 0. -/
def CheckRec.reset (sense : Bool) : CheckRec :=
  { stuckOn := if sense then some 200 else none, stuckOff := none, onMark := false, offMark := false }

/-- R51 for the four checked outputs. -/
def CheckRec.resetAll (pins : Pins) : PerChecked CheckRec :=
  { inlet := .reset pins.inletSn, heater := .reset pins.heaterSn, drain := .reset pins.drainSn, circ := .reset pins.circSn }

/-- Table 3-7, POWER_ON. -/
def Guard.reset (pins : Pins) : Guard :=
  { outs := { mainsRelay := .reset, inlet := .reset, regen := .reset, heater := .reset, drain := .reset, circ := .reset,
              doseD := .reset, doseR := .reset, aux := .reset },
    checks := CheckRec.resetAll pins, diverter := .lower, flood := false, floodStart := none, floodClear := none,
    latched := false, record := none, cleanCount := 0, latchDrain := none, drainAtReady := false, test := none,
    testTimer := none }

/-- R64: 16 empty slots. -/
def ActionEntry.resetAll : List (Option ActionEntry) :=
  List.replicate 16 none

/-- R88. -/
def LaneRec.reset : LaneRec :=
  { state := .idle, holder := none, queue := [], waitCause := none, pauseDoor := false, pauseSupply := false,
    pausedFromWait := false, holdAfter := false, nextId := 1, last := none, retry := none, laneSettle := none, running := 0,
    attemptDue := false }

/-- R88. -/
def Engine.reset : Engine :=
  { lanes := { water := .reset, dose := .reset }, refVolume := none, fillNoFlow := none, waterDry := none }

/-- Table 7-8, POWER_ON. -/
def Softener.reset : Softener :=
  { valid := false, remaining := 0, pendingFlag := false, phase := .none, tally := 0, exempt := 0, brine := 0, soak := 0,
    rinse := 0, brineTarget := 0, rinseTarget := 0, noFlow := none }

/-- Table 8-6, POWER_ON. -/
def StockAccount.reset : StockAccount :=
  { valid := false, stock := 0, level := .ok, tally := 0, held := none }

/-- Table 8-6, POWER_ON. -/
def Dosing.reset : Dosing :=
  { accounts := { detergent := .reset, rinse := .reset }, record := none }

/-- Table 9-2; the errand, NONE, has no cause (DESIGN CHOICE, log 40). -/
def DoorUnit.reset : DoorUnit :=
  { position := none, ajar := false, rod := .unknown, drive := .brake, errand := .none, cause := none, nextMove := .none,
    report := .none, opened := false, extendTime := 0, extendBegan := 0, supplyHold := false, extendTimer := none,
    holdTimer := none, retractTimer := none, deadTimer := none, jam := .none }

/-- The NULL-OK reply (R164). -/
def Reply.nullOk : Reply :=
  { status := .ok, tag := 0, payload := [] }

/-- R164 with a row of Table 10-6 and the default rights of Table 10-4; `busy` says that an exchange is in progress. -/
def PortRec.reset (classes inputMask : BitVec 6) (rights : Rights) (busy : Bool) : PortRec :=
  { reply := .nullOk, queue := [], lost := false, held := [], classes := classes, inputMask := inputMask, threshold := 1,
    rights := rights, waitCs := busy }

/-- Table 10-4 and Table 10-6, at a reset that finds these ports with an exchange in progress. -/
def PortRec.resetAll (busy : List Port) : PerPort PortRec :=
  { a := .reset 0b111111#6 0b111111#6
      { query := true, profile := true, lane := true, action := true, settings := true, refill := true, accounts := true,
        service := true } (decide (Port.a ∈ busy)),
    b := .reset 0b111010#6 0b000001#6
      { query := true, profile := false, lane := false, action := false, settings := true, refill := true, accounts := false,
        service := false } (decide (Port.b ∈ busy)),
    c := .reset 0b111000#6 0b111111#6
      { query := true, profile := false, lane := true, action := true, settings := true, refill := true, accounts := true,
        service := true } (decide (Port.c ∈ busy)) }

/-- The defaults of Table 11-2, index 1 first. -/
def Store.defaultSettings : List Nat :=
  [250, 60, 200, 450, 700, 900, 1000, 1150, 1300, 20000, 3000, 5000, 40000, 60000, 20000, 3000, 1, 750]

/-- R170, POWER_ON. -/
def CycleRec.reset : CycleRec :=
  { number := 0, state := .none, start := none, endTime := none, water := 0, detergent := 0, rinse := 0, heaterMs := 0,
    full := 0, weak := 0, peak := none, fault := false }

/-- R165, R167, R170 and R171, POWER_ON. -/
def Store.reset : Store :=
  { configured := false, profile := List.replicate 38 none, lastRefused := 0, settings := Store.defaultSettings,
    cycle := .reset, resetKind := .powerOn, warmCount := 0 }

/-- The part right after a POWER_ON reset that found these pin levels and these ports with an exchange in progress. -/
def State.afterPowerOn (pins : Pins) (busy : List Port) (pending : List Instr) : State :=
  { resetHeld := false, pins := pins, time := .reset, inputs := FilteredInput.resetAll pins, sampler := .reset,
    guard := .reset pins, actions := ActionEntry.resetAll, engine := .reset, softener := .reset, dosing := .reset,
    door := .reset, ports := PortRec.resetAll busy, store := .reset, pending := pending }

/-- The part right after a POWER_ON reset, no command waiting; its pins are all low and no exchange is in progress
(DESIGN CHOICE, log 8). -/
def State.reset : State :=
  State.afterPowerOn Pins.low [] []

end Sys2Proof.Machine
end

