-- ==== Sys2Proof/Machine/Ops.lean ====
section
/-! DEFINITION. The operations all blocks share: state updates, timers, the two conversions, the readings of profile, settings and
inputs, the routing of notices, the cycle record, and the frame of every request. -/

namespace Sys2Proof.Machine

/-- What a command's meaning answers. -/
abbrev Result := Host.Outcome State Fault Refusal

/-! ### Entries of the per-name tables -/

/-- The entry of an input. -/
def PerInput.get {α : Type} (t : PerInput α) : Input → α
  | .door => t.door
  | .levelLow => t.levelLow
  | .levelHigh => t.levelHigh
  | .float => t.float
  | .saltLow => t.saltLow
  | .rodHome => t.rodHome

/-- The table with another entry for an input. -/
def PerInput.set {α : Type} (t : PerInput α) (i : Input) (v : α) : PerInput α :=
  match i with
  | .door => { t with door := v }
  | .levelLow => { t with levelLow := v }
  | .levelHigh => { t with levelHigh := v }
  | .float => { t with float := v }
  | .saltLow => { t with saltLow := v }
  | .rodHome => { t with rodHome := v }

/-- The entry of a port. -/
def PerPort.get {α : Type} (t : PerPort α) : Port → α
  | .a => t.a
  | .b => t.b
  | .c => t.c

/-- The table with another entry for a port. -/
def PerPort.set {α : Type} (t : PerPort α) (p : Port) (v : α) : PerPort α :=
  match p with
  | .a => { t with a := v }
  | .b => { t with b := v }
  | .c => { t with c := v }

/-- The entry of a lane. -/
def PerLane.get {α : Type} (t : PerLane α) : Lane → α
  | .water => t.water
  | .dose => t.dose

/-- The table with another entry for a lane. -/
def PerLane.set {α : Type} (t : PerLane α) (l : Lane) (v : α) : PerLane α :=
  match l with
  | .water => { t with water := v }
  | .dose => { t with dose := v }

/-- The entry of a checked output. -/
def PerChecked.get {α : Type} (t : PerChecked α) : Checked → α
  | .inlet => t.inlet
  | .heater => t.heater
  | .drain => t.drain
  | .circ => t.circ

/-- The table with another entry for a checked output. -/
def PerChecked.set {α : Type} (t : PerChecked α) (o : Checked) (v : α) : PerChecked α :=
  match o with
  | .inlet => { t with inlet := v }
  | .heater => { t with heater := v }
  | .drain => { t with drain := v }
  | .circ => { t with circ := v }

/-- The entry of an output. -/
def PerOutput.get {α : Type} (t : PerOutput α) : Output → α
  | .mainsRelay => t.mainsRelay
  | .inlet => t.inlet
  | .regen => t.regen
  | .heater => t.heater
  | .drain => t.drain
  | .circ => t.circ
  | .doseD => t.doseD
  | .doseR => t.doseR
  | .aux => t.aux

/-- The table with another entry for an output. -/
def PerOutput.set {α : Type} (t : PerOutput α) (o : Output) (v : α) : PerOutput α :=
  match o with
  | .mainsRelay => { t with mainsRelay := v }
  | .inlet => { t with inlet := v }
  | .regen => { t with regen := v }
  | .heater => { t with heater := v }
  | .drain => { t with drain := v }
  | .circ => { t with circ := v }
  | .doseD => { t with doseD := v }
  | .doseR => { t with doseR := v }
  | .aux => { t with aux := v }

/-- The entry of an agent. -/
def PerAgent.get {α : Type} (t : PerAgent α) : Agent → α
  | .detergent => t.detergent
  | .rinse => t.rinse

/-- The table with another entry for an agent. -/
def PerAgent.set {α : Type} (t : PerAgent α) (a : Agent) (v : α) : PerAgent α :=
  match a with
  | .detergent => { t with detergent := v }
  | .rinse => { t with rinse := v }

/-- The level of an input's pin. -/
def Pins.level (p : Pins) : Input → Bool
  | .door => p.door
  | .levelLow => p.levelLow
  | .levelHigh => p.levelHigh
  | .float => p.float
  | .saltLow => p.saltLow
  | .rodHome => p.rodHome

/-- The pins with another level on an input's pin. -/
def Pins.withLevel (p : Pins) (i : Input) (v : Bool) : Pins :=
  match i with
  | .door => { p with door := v }
  | .levelLow => { p with levelLow := v }
  | .levelHigh => { p with levelHigh := v }
  | .float => { p with float := v }
  | .saltLow => { p with saltLow := v }
  | .rodHome => { p with rodHome := v }

/-- The level of a sense line; true reads on (R20). -/
def Pins.sense (p : Pins) : SenseLine → Bool
  | .inletSn => p.inletSn
  | .heaterSn => p.heaterSn
  | .drainSn => p.drainSn
  | .circSn => p.circSn
  | .doseDSn => p.doseDSn
  | .doseRSn => p.doseRSn

/-- The pins with another level on a sense line. -/
def Pins.withSense (p : Pins) (l : SenseLine) (v : Bool) : Pins :=
  match l with
  | .inletSn => { p with inletSn := v }
  | .heaterSn => { p with heaterSn := v }
  | .drainSn => { p with drainSn := v }
  | .circSn => { p with circSn := v }
  | .doseDSn => { p with doseDSn := v }
  | .doseRSn => { p with doseRSn := v }

/-- The sense line of a checked output. -/
def Checked.line : Checked → SenseLine
  | .inlet => .inletSn
  | .heater => .heaterSn
  | .drain => .drainSn
  | .circ => .circSn

/-- A checked output as an output. -/
def Checked.output : Checked → Output
  | .inlet => .inlet
  | .heater => .heater
  | .drain => .drain
  | .circ => .circ

/-! ### Updates of the state, one per block -/

/-- The state with RESET_N held low or not. -/
def State.withResetHeld (s : State) (v : Bool) : State := { s with resetHeld := v }
/-- The state with other pin levels. -/
def State.withPins (s : State) (v : Pins) : State := { s with pins := v }
/-- The state with another Time Base. -/
def State.withTime (s : State) (v : TimeBase) : State := { s with time := v }
/-- The state with another Input Filter. -/
def State.withInputs (s : State) (v : PerInput FilteredInput) : State := { s with inputs := v }
/-- The state with another Sampler. -/
def State.withSampler (s : State) (v : Sampler) : State := { s with sampler := v }
/-- The state with another Output Guard. -/
def State.withGuard (s : State) (v : Guard) : State := { s with guard := v }
/-- The state with another Action Table. -/
def State.withActions (s : State) (v : List (Option ActionEntry)) : State := { s with actions := v }
/-- The state with another Step Engine. -/
def State.withEngine (s : State) (v : Engine) : State := { s with engine := v }
/-- The state with another Softener Unit. -/
def State.withSoftener (s : State) (v : Softener) : State := { s with softener := v }
/-- The state with another Dosing Unit. -/
def State.withDosing (s : State) (v : Dosing) : State := { s with dosing := v }
/-- The state with another Door Unit. -/
def State.withDoor (s : State) (v : DoorUnit) : State := { s with door := v }
/-- The state with other ports. -/
def State.withPorts (s : State) (v : PerPort PortRec) : State := { s with ports := v }
/-- The state with another Profile and Settings store. -/
def State.withStore (s : State) (v : Store) : State := { s with store := v }
/-- The state with another queue of waiting commands. -/
def State.withPending (s : State) (v : List Instr) : State := { s with pending := v }

/-- A lane's record. -/
def State.lane (s : State) (l : Lane) : LaneRec := s.engine.lanes.get l
/-- The state with another record of a lane. -/
def State.withLane (s : State) (l : Lane) (v : LaneRec) : State :=
  s.withEngine { s.engine with lanes := s.engine.lanes.set l v }
/-- An output's record. -/
def State.out (s : State) (o : Output) : OutputRec := s.guard.outs.get o
/-- The state with another record of an output. -/
def State.withOut (s : State) (o : Output) (v : OutputRec) : State :=
  s.withGuard { s.guard with outs := s.guard.outs.set o v }
/-- Whether an output is energised. -/
def State.energised (s : State) (o : Output) : Bool := (s.out o).energised
/-- A port's record. -/
def State.port (s : State) (p : Port) : PortRec := s.ports.get p
/-- The state with another record of a port. -/
def State.withPort (s : State) (p : Port) (v : PortRec) : State := s.withPorts (s.ports.set p v)
/-- A stock account. -/
def State.account (s : State) (a : Agent) : StockAccount := s.dosing.accounts.get a
/-- The state with another stock account. -/
def State.withAccount (s : State) (a : Agent) (v : StockAccount) : State :=
  s.withDosing { s.dosing with accounts := s.dosing.accounts.set a v }
/-- The state with another dose record. -/
def State.withDose (s : State) (v : Option DoseRec) : State := s.withDosing { s.dosing with record := v }
/-- The state with another turbidity state. -/
def State.withTurb (s : State) (v : Turbidity) : State := s.withSampler { s.sampler with turb := v }
/-- The state with another cycle record. -/
def State.withCycle (s : State) (v : CycleRec) : State := s.withStore { s.store with cycle := v }

/-! ### Reaching and timers (R2, R3) -/

/-- R3: a target is reached by a counter value when their difference modulo 2^32 is less than 2^31.  A target exactly 2^31 counts ahead is
not reached by this formula, against R3's words on a target more than 2^31 - 1 counts ahead (DESIGN CHOICE, log 34). -/
def reached (n target : Word) : Bool :=
  decide ((n - target).toNat < 2147483648)

/-- R2: a timer started at `now` for an interval in ms. -/
def timerFor (now : Word) (ms : Nat) : Timer :=
  some (now + BitVec.ofNat 32 ms)

/-- R2: a running timer whose target is reached; a stopped timer does not expire. -/
def timerDue (now : Word) (t : Timer) : Bool :=
  match t with
  | none => false
  | some target => reached now target

/-- The run-clock time. -/
def State.now (s : State) : Word := s.time.clock

/-- A timer started now. -/
def State.timer (s : State) (ms : Nat) : Timer := timerFor s.now ms

/-- Whether a timer expires now. -/
def State.due (s : State) (t : Timer) : Bool := timerDue s.now t

/-! ### Widths -/

/-- A quantity in a 4-byte field (R172); beyond it a free value (log 12). -/
def fit32 (n : Nat) : Nat :=
  if n < 4294967296 then n else (Config.beyond32 n).toNat

/-- A quantity that stops at 4,294,967,295 (R111, R132, R169). -/
def sat32 (n : Nat) : Nat := min n 4294967295

/-- A quantity that stops at 65535 (R169). -/
def sat16 (n : Nat) : Nat := min n 65535

/-- Section 0.9: clamping to [lo, hi]. -/
def clampNat (lo hi n : Nat) : Nat :=
  if n < lo then lo else if hi < n then hi else n

/-- Section 0.9: ceil(a / b). -/
def ceilDiv (a b : Nat) : Nat := (a + b - 1) / b

/-- Section 0.9: a / 1000 rounded to nearest, an exact half going to the greater integer. -/
def roundPerMille (a : Nat) : Nat := (a + 500) / 1000

/-! ### Profile and settings (Tables 11-1 and 11-2) -/

/-- The value of a profile field by its index; 0 while unwritten. -/
def State.field (s : State) (index : Nat) : Int :=
  match s.store.profile[index - 1]? with
  | some (some v) => v
  | _ => 0

/-- The value of a profile field that cannot be negative. -/
def State.fieldNat (s : State) (index : Nat) : Nat := (s.field index).toNat

/-- K, counts per litre. -/
def State.kCounts (s : State) : Nat := s.fieldNat 1
/-- Vref, mL. -/
def State.vref (s : State) : Nat := s.fieldNat 3
/-- Tub maximum, mL. -/
def State.tubMax (s : State) : Nat := s.fieldNat 4
/-- S, the stroke volume of an agent, uL. -/
def State.strokeVolume (s : State) : Agent → Nat
  | .detergent => s.fieldNat 6
  | .rinse => s.fieldNat 7
/-- P, the stroke period, ms. -/
def State.strokePeriod (s : State) : Nat := s.fieldNat 8
/-- An agent's reservoir capacity, uL. -/
def State.capacity (s : State) : Agent → Nat
  | .detergent => s.fieldNat 9
  | .rinse => s.fieldNat 10
/-- C_full, umol. -/
def State.cFull (s : State) : Nat := s.fieldNat 11
/-- The leak knee, bp. -/
def State.knee (s : State) : Nat := s.fieldNat 12

/-- A setting by its index. -/
def State.setting (s : State) (index : Nat) : Nat := s.store.settings.getD (index - 1) 0

/-- H_in, inlet hardness. -/
def State.inletHardness (s : State) : Nat := s.setting 1
/-- An agent's low mark. -/
def State.lowMark (s : State) : Agent → Nat
  | .detergent => s.setting 14
  | .rinse => s.setting 15
/-- The regeneration threshold, bp. -/
def State.regenThreshold (s : State) : Nat := s.setting 16
/-- The auto-open setting. -/
def State.autoOpenSetting (s : State) : Bool := s.setting 17 != 0
/-- The heater cutoff, 0.1 degrees C. -/
def State.heaterCutoff (s : State) : Nat := s.setting 18

/-- Whether the profile's present-output mask marks an output absent (R36); before PROFILE LOCK none is (log 21). -/
def State.absent (s : State) (bit : Nat) : Bool :=
  s.store.configured && !(s.fieldNat 5).testBit bit

/-- Whether an output is fitted (R36): bits 0, 2, 3, 4 of the mask are REGEN, DOSE_D, DOSE_R, AUX; the others are always fitted. -/
def State.fitted (s : State) : Output → Bool
  | .regen => !s.absent 0
  | .doseD => !s.absent 2
  | .doseR => !s.absent 3
  | .aux => !s.absent 4
  | .mainsRelay | .inlet | .heater | .drain | .circ => true

/-- Whether DIVERTER is fitted (bit 1 of the mask). -/
def State.diverterFitted (s : State) : Bool := !s.absent 1

/-! ### Conversions (R6, R7) -/

/-- R6: flow counts to mL. -/
def State.toMl (s : State) (counts : Nat) : Nat := counts * 1000 / s.kCounts

/-- R7: mL to a count target. -/
def State.toCounts (s : State) (ml : Nat) : Nat := ceilDiv (ml * s.kCounts) 1000

/-! ### Filtered inputs (R17, R21) -/

/-- Table 2-4: the level an input is read at while UNSETTLED. -/
def Input.unsettledLevel : Input → Bool
  | .door => false
  | .levelLow => false
  | .levelHigh => true
  | .float => false
  | .saltLow => false
  | .rodHome => true

/-- The accepted level of an input, or none while UNSETTLED. -/
def State.accepted (s : State) (i : Input) : Option Bool := (s.inputs.get i).accepted

/-- The level a block reads an input at (R21). -/
def State.reads (s : State) (i : Input) : Bool := (s.accepted i).getD i.unsettledLevel

/-- DOOR reads CLOSED. -/
def State.doorClosed (s : State) : Bool := s.reads .door
/-- LEVEL_LOW reads WET. -/
def State.levelWet (s : State) : Bool := s.reads .levelLow
/-- LEVEL_HIGH reads REACHED. -/
def State.highReached (s : State) : Bool := s.reads .levelHigh
/-- FLOAT reads CLEAR. -/
def State.floatClear (s : State) : Bool := s.reads .float
/-- SALT_LOW reads CLEAR. -/
def State.saltClear (s : State) : Bool := s.reads .saltLow
/-- ROD_HOME reads CLOSED (the pin low, Table 2-1). -/
def State.homeClosed (s : State) : Bool := !s.reads .rodHome

/-- The supply state is READY. -/
def State.supplyReady (s : State) : Bool := decide (s.time.supply = .ready)

/-! ### Notices (R158, R159) -/

/-- The ports of a set given by a test. -/
def portsWhere (f : Port → Bool) : List Port := [Port.a, .b, .c].filter f

/-- The subscription class of a kind as its bit in the classes byte (Tables 10-5 and 12-2). -/
def NoticeKind.classBit : NoticeKind → Nat
  | .stepDone | .stepFailed => 0
  | .inputChanged | .strayFlow | .tempFault | .tempOk | .doorMode | .rodState => 1
  | .turbidityDone | .actionDue | .actionDropped => 2
  | .regenPending | .regenDone | .stock => 3
  | .laneHalted | .supplyReady | .supplyLost | .flood | .floodEnd | .faultLatched | .outputFault => 4
  | .settingChanged => 5

/-- Whether a kind is urgent (Table 10-5). -/
def NoticeKind.urgent : NoticeKind → Bool
  | .laneHalted | .supplyLost | .outputFault | .faultLatched | .flood => true
  | .stepDone | .stepFailed | .inputChanged | .strayFlow | .tempFault | .tempOk | .doorMode | .rodState | .turbidityDone
  | .actionDue | .actionDropped | .regenPending | .regenDone | .stock | .supplyReady | .floodEnd | .settingChanged => false

/-- A notice raised now. -/
def State.notice (s : State) (kind : NoticeKind) (subject reference value : Nat) : Notice :=
  { kind := kind, subject := BitVec.ofNat 8 subject, reference := BitVec.ofNat 16 reference,
    value := BitVec.ofNat 32 value, time := s.now }

/-- R159: the place a notice takes at one port. -/
def PortRec.enter (p : PortRec) (n : Notice) : PortRec :=
  if p.queue.length < 16 then { p with queue := p.queue ++ [n] }
  else if !n.kind.urgent then { p with lost := true }
  else if p.held.any (fun h => decide (h.kind = n.kind)) then
    { p with held := p.held.map (fun h => if h.kind = n.kind then n else h), lost := true }
  else { p with held := p.held ++ [n] }

/-- R158: a notice is entered once for each port of its set. -/
def State.enterFor (s : State) (set : List Port) (n : Notice) : State :=
  s.withPorts
    { a := if Port.a ∈ set then s.ports.a.enter n else s.ports.a,
      b := if Port.b ∈ set then s.ports.b.enter n else s.ports.b,
      c := if Port.c ∈ set then s.ports.c.enter n else s.ports.c }

/-- The ports subscribed to a class. -/
def State.subscribers (s : State) (bit : Nat) : List Port :=
  portsWhere (fun p => (s.port p).classes.getLsbD bit)

/-- R158: a notice by class. -/
def State.raiseByClass (s : State) (n : Notice) : State :=
  s.enterFor (s.subscribers n.kind.classBit) n

/-- R158: a notice to every port. -/
def State.raiseToAll (s : State) (n : Notice) : State :=
  s.enterFor [.a, .b, .c] n

/-- R158: a STEP notice, for the lane's holder and the other ports subscribed to STEP; a lane with no holder sends it to no port
(R69). -/
def State.raiseStep (s : State) (l : Lane) (n : Notice) : State :=
  match (s.lane l).holder with
  | none => s
  | some p => s.enterFor (p :: s.subscribers 0) n

/-- R158: LANE_HALTED, for the holder if there is one and the other ports subscribed to SAFETY. -/
def State.raiseHalted (s : State) (l : Lane) (n : Notice) : State :=
  s.enterFor ((s.lane l).holder.toList ++ s.subscribers 4) n

/-! ### The cycle record (R170) -/

/-- R170: the record takes an event only while it is OPEN. -/
def State.cycleEvent (s : State) (f : CycleRec → CycleRec) : State :=
  if s.store.cycle.state = .open then s.withCycle (f s.store.cycle) else s

/-- R170: an inlet closing adds its water. -/
def State.cycleWater (s : State) (ml : Nat) : State :=
  s.cycleEvent (fun c => { c with water := sat32 (c.water + ml) })

/-- R170: a counted stroke adds its volume. -/
def State.cycleStroke (s : State) (a : Agent) (volume : Nat) : State :=
  s.cycleEvent (fun c =>
    match a with
    | .detergent => { c with detergent := sat32 (c.detergent + volume) }
    | .rinse => { c with rinse := sat32 (c.rinse + volume) })

/-- R170: a regeneration event, full or weak. -/
def State.cycleRegen (s : State) (full : Bool) : State :=
  s.cycleEvent (fun c => if full then { c with full := sat16 (c.full + 1) } else { c with weak := sat16 (c.weak + 1) })

/-- R170: a flood start, latching, further fault or OUTPUT_FAULT sets the fault flag. -/
def State.cycleFault (s : State) : State :=
  s.cycleEvent (fun c => { c with fault := true })

/-- R170: a VALID sample above the peak, or the first while the peak is none. -/
def State.cyclePeak (s : State) (t : Int) : State :=
  s.cycleEvent (fun c =>
    match c.peak with
    | none => { c with peak := some t }
    | some p => if p < t then { c with peak := some t } else c)

/-! ### Requests (R156) -/

/-- While RESET_N is held low no event and no exchange is taken (R171). -/
def unlessHeld (s : State) (k : State → State) : Result :=
  .next (if s.resetHeld then s else k s)

/-- R164: the exchange that a reset cut has ended, and the port takes the next one. -/
def State.endWait (s : State) (p : Port) : State :=
  s.withPort p { s.port p with waitCs := false }

/-- R154 and R164: the end of an exchange on a port, which takes no request while RESET_N is held low, and none from an exchange that
a reset cut. -/
def takeExchange (p : Port) (s : State) (k : State → State) : Result :=
  unlessHeld s (fun s => if (s.port p).waitCs then s.endWait p else k s)

/-- What a block answers to a request handed to it: the state, the status and the payload. -/
structure Answer where
  state : State
  status : Status
  payload : List Byte

/-- A refusal, or any other answer that changes no state. -/
def State.say (s : State) (status : Status) (payload : List Byte := []) : Answer :=
  { state := s, status := status, payload := payload }

/-- OK with no payload. -/
def State.done (s : State) : Answer := s.say .ok

/-- The state with another reply in a port's slot (R156). -/
def State.setReply (s : State) (p : Port) (r : Reply) : State :=
  s.withPort p { s.port p with reply := r }

/-- Whether a class is in force at a port (R157). -/
def Rights.has (r : Rights) : RightsClass → Bool
  | .query => r.query
  | .profile => r.profile
  | .lane => r.lane
  | .action => r.action
  | .settings => r.settings
  | .refill => r.refill
  | .accounts => r.accounts
  | .service => r.service

/-- R156: the port answers NOT_PERMITTED or BAD_FIELD (length) itself, and otherwise hands the request to its block. -/
def portAnswer (cls : RightsClass) (len : Nat) (q : Request) (h : State → Answer) (s : State) : Answer :=
  if !((s.port q.port).rights.has cls) then s.say .notPermitted
  else if q.payload.length ≠ len then s.say .badField
  else h s

/-- R156: a request in whole: its answer, and the reply that echoes its tag in the port's slot. -/
def serve (cls : RightsClass) (len : Nat) (q : Request) (h : State → Answer) (s : State) : Result :=
  takeExchange q.port s (fun s =>
    let a := portAnswer cls len q h s
    a.state.setReply q.port { status := a.status, tag := q.tag, payload := a.payload })

/-! ### Delivery to several receivers (R14, R19, R26; log 5) -/

/-- Delivers one event to the receivers of `left`, each once: first in the order given, then those the order does not name. -/
def deliver (act : Receiver → State → State) : List Receiver → List Receiver → State → State
  | [], left, s => left.foldl (fun s r => act r s) s
  | r :: rest, left, s =>
    if r ∈ left then deliver act rest (left.erase r) (act r s) else deliver act rest left s

end Sys2Proof.Machine
end

