-- ==== Sys2Proof/Machine/Operands.lean ====
section
/-! DEFINITION. The operands a request's payload spells (Chapter 12): bytes, big-endian fields, lanes, agents, outputs, steps. -/

namespace Sys2Proof.Machine

/-- A byte of a payload as a number. -/
def byteAt (payload : List Byte) (i : Nat) : Nat := (payload.getD i 0).toNat

/-- R172: bytes, the most significant first, as a number. -/
def beValue (bytes : List Byte) : Nat :=
  bytes.foldl (fun acc b => acc * 256 + b.toNat) 0

/-- The field of `width` bytes that begins at byte `i`. -/
def fieldAt (payload : List Byte) (i width : Nat) : Nat := beValue ((payload.drop i).take width)

/-- R172: a 4-byte field in two's complement. -/
def signed32 (n : Nat) : Int := (BitVec.ofNat 32 n).toInt

/-- The lane values 0 WATER and 1 DOSE. -/
def laneOf : Nat → Option Lane
  | 0 => some .water
  | 1 => some .dose
  | _ => none

/-- A lane's number. -/
def Lane.number : Lane → Nat
  | .water => 0
  | .dose => 1

/-- The other lane. -/
def Lane.other : Lane → Lane
  | .water => .dose
  | .dose => .water

/-- The agent numbers of Table 8-1. -/
def agentOf : Nat → Option Agent
  | 0 => some .detergent
  | 1 => some .rinse
  | _ => none

/-- An agent's number. -/
def Agent.number : Agent → Nat
  | .detergent => 0
  | .rinse => 1

/-- A port's number where a field names a port (Table 12-9, R167). -/
def Port.number : Port → Nat
  | .a => 0
  | .b => 1
  | .c => 2

/-- The diverter positions 0 LOWER and 1 UPPER. -/
def diverterOf : Nat → Option Diverter
  | 0 => some .lower
  | 1 => some .upper
  | _ => none

/-- A diverter position's number. -/
def Diverter.number : Diverter → Nat
  | .lower => 0
  | .upper => 1

/-- The output numbers of Table 3-1 that have a demand set (7 is DIVERTER). -/
def outputOf : Nat → Option Output
  | 1 => some .mainsRelay
  | 2 => some .inlet
  | 3 => some .regen
  | 4 => some .heater
  | 5 => some .drain
  | 6 => some .circ
  | 8 => some .doseD
  | 9 => some .doseR
  | 10 => some .aux
  | _ => none

/-- An output's number in Table 3-1. -/
def Output.number : Output → Nat
  | .mainsRelay => 1
  | .inlet => 2
  | .regen => 3
  | .heater => 4
  | .drain => 5
  | .circ => 6
  | .doseD => 8
  | .doseR => 9
  | .aux => 10

/-- An input's number in Table 2-1. -/
def Input.number : Input → Nat
  | .door => 1
  | .levelLow => 2
  | .levelHigh => 3
  | .float => 4
  | .saltLow => 5
  | .rodHome => 6

/-- The references 0 TIME and 1 FLOW. -/
def counterOf : Nat → Option CounterRef
  | 0 => some .time
  | 1 => some .flow
  | _ => none

/-- The actions of Table 4-1 by number. -/
def actionOf : Nat → Option Action
  | 1 => some .drainOn
  | 2 => some .drainOff
  | 3 => some .circOn
  | 4 => some .circOff
  | 5 => some .auxOn
  | 6 => some .auxOff
  | 7 => some .diverterSet
  | 8 => some .sampleTurbidity
  | 9 => some .resumeLane
  | 10 => some .notify
  | _ => none

/-- An action's number in Table 4-1. -/
def Action.number : Action → Nat
  | .drainOn => 1
  | .drainOff => 2
  | .circOn => 3
  | .circOff => 4
  | .auxOn => 5
  | .auxOff => 6
  | .diverterSet => 7
  | .sampleTurbidity => 8
  | .resumeLane => 9
  | .notify => 10

/-- The greatest argument Table 4-1 gives an action. -/
def Action.argMax : Action → Nat
  | .diverterSet => 1
  | .resumeLane => 1
  | .notify => 255
  | .drainOn | .drainOff | .circOn | .circOff | .auxOn | .auxOff | .sampleTurbidity => 0

/-! ### Steps (Tables 12-3 and 12-4, R70, R89) -/

/-- R172: whether the unused and single-flag bytes of a POST STEP's parameter field are well formed for its kind; a kind outside
1..8 has none. -/
def stepBytesOk (payload : List Byte) : Bool :=
  let b6 := byteAt payload 6
  let b7 := byteAt payload 7
  let b8 := byteAt payload 8
  let b9 := byteAt payload 9
  match byteAt payload 1 with
  | 1 => b8 ≤ 1 && b9 == 0
  | 2 => b8 == 0 && b9 == 0
  | 3 => b9 == 0
  | 4 => b9 == 0
  | 5 => b8 == 0 && b9 == 0
  | 6 => b6 ≤ 1 && b7 == 0 && b8 == 0 && b9 == 0
  | 7 => b6 == 0 && b7 == 0 && b8 == 0 && b9 == 0
  | 8 => b9 == 0
  | _ => true

/-- R89 and R128: the kind and its parameters; none where the kind is unknown or a parameter is out of its range (the tub maximum
is tested apart). -/
def workOf (payload : List Byte) : Option Work :=
  let v := fieldAt payload 6 2
  let b8 := byteAt payload 8
  match byteAt payload 1 with
  | 1 => if 100 ≤ v ∧ v ≤ 12000 then some (.fill v (b8 == 1)) else none
  | 2 => if v ≤ 60 then some (.drain v) else none
  | 3 => if 1 ≤ v ∧ v ≤ 36000 then (diverterOf b8).map (fun d => .circulate v d) else none
  | 4 => if v ≤ 850 then (diverterOf b8).map (fun d => .heat v d) else none
  | 5 => if 1 ≤ v ∧ v ≤ 36000 then some (.pause v) else none
  | 6 => some (.regenerate (byteAt payload 6 == 1))
  | 7 => some .autoOpen
  | 8 => if v ≤ 60000 then (agentOf b8).map (fun a => .dose v a) else none
  | _ => none

/-- The lane a kind belongs to (R66). -/
def Work.lane : Work → Lane
  | .dose _ _ => .dose
  | .fill _ _ | .drain _ | .circulate _ _ | .heat _ _ | .pause _ | .regenerate _ | .autoOpen => .water

/-- A kind's number (Table 12-3). -/
def Work.number : Work → Nat
  | .fill _ _ => 1
  | .drain _ => 2
  | .circulate _ _ => 3
  | .heat _ _ => 4
  | .pause _ => 5
  | .regenerate _ => 6
  | .autoOpen => 7
  | .dose _ _ => 8

/-- R80: the kinds that the door pauses. -/
def Work.doorPauses : Work → Bool
  | .fill _ _ | .circulate _ _ | .heat _ _ | .regenerate _ | .dose _ _ => true
  | .drain _ | .pause _ | .autoOpen => false

/-- Whether a kind is a FILL. -/
def Work.isFill : Work → Bool
  | .fill _ _ => true
  | .drain _ | .circulate _ _ | .heat _ _ | .pause _ | .regenerate _ | .autoOpen | .dose _ _ => false

/-- Table 6-1 and R136: the default time limit of a kind in 100 ms units; none for the kinds no time limit applies to (R89). -/
def Work.defaultLimit : Work → Option Nat
  | .fill _ _ => some 1800
  | .drain _ => some 1200
  | .heat _ _ => some 24000
  | .regenerate _ => some 12000
  | .dose _ _ => some 3000
  | .circulate _ _ | .pause _ | .autoOpen => none

/-- R76: the time limit of a step in ms, where one applies. -/
def StepRec.limitMs (t : StepRec) : Option Nat :=
  t.work.defaultLimit.map (fun d => (if t.limit = 0 then d else t.limit) * 100)

/-- R70: whether a kind needs an output that is marked absent. -/
def State.needsAbsent (s : State) : Work → Bool
  | .regenerate _ => s.absent 0
  | .circulate _ .upper => s.absent 1
  | .heat _ .upper => s.absent 1
  | .dose _ .detergent => s.absent 2
  | .dose _ .rinse => s.absent 3
  | .fill _ _ | .drain _ | .circulate _ .lower | .heat _ .lower | .pause _ | .autoOpen => false

/-- R70: a FILL target above the profile's tub maximum. -/
def State.aboveTub (s : State) : Work → Bool
  | .fill target _ => decide (s.tubMax < target)
  | .drain _ | .circulate _ _ | .heat _ _ | .pause _ | .regenerate _ | .autoOpen | .dose _ _ => false

/-- No result flag. -/
def ResultFlags.clear : ResultFlags :=
  { short := false, notNeeded := false, alreadyOpen := false, disabled := false, shortSupply := false, weak := false }

/-- R71: the step record of an accepted POST STEP. -/
def stepPosted (id : Nat) (work : Work) (tries : Nat) (hold notify : Bool) (limit : Nat) : StepRec :=
  { id := id, work := work, tries := tries, hold := hold, notify := notify, limit := limit, status := .queued,
    started := false, triesUsed := 0, result := .none, actual := 0, flags := .clear, endTime := none, count := 0,
    countTarget := 0, progress := 0, runOn := 0, lastTemp := none, autoOpenOn := false }

end Sys2Proof.Machine
end

