-- ==== Sys2Proof/Machine/Flags.lean ====
section
/-! DEFINITION. The conditions the part derives from its state: demand sets, permits and interlocks (R34 to R38), the attention
lines (R162), and the levels it drives on its output pins. -/

namespace Sys2Proof.Machine

/-! ### Demand sets (R34, R35) -/

/-- Whether a source is in a demand set. -/
def DemandSet.has (d : DemandSet) : Source → Bool
  | .water => d.water
  | .dose => d.dose
  | .softener => d.softener
  | .action => d.action
  | .test => d.test
  | .forced => d.forced

/-- A demand set with a source entered or withdrawn; a source is in it at most once (R34). -/
def DemandSet.put (d : DemandSet) (src : Source) (v : Bool) : DemandSet :=
  match src with
  | .water => { d with water := v }
  | .dose => { d with dose := v }
  | .softener => { d with softener := v }
  | .action => { d with action := v }
  | .test => { d with test := v }
  | .forced => { d with forced := v }

/-- Whether any source but DOSE is in a demand set. -/
def DemandSet.anyButDose (d : DemandSet) : Bool :=
  d.water || d.softener || d.action || d.test || d.forced

/-- Whether a demand set is not empty. -/
def DemandSet.any (d : DemandSet) : Bool := d.anyButDose || d.dose

/-- Whether a source demands an output. -/
def State.demands (s : State) (o : Output) (src : Source) : Bool := (s.out o).demands.has src

/-- R35: a source enters or withdraws its demand on an output; the demands of the others are untouched. -/
def State.putDemand (s : State) (src : Source) (v : Bool) (o : Output) : State :=
  s.withOut o { s.out o with demands := (s.out o).demands.put src v }

/-- R35: a source enters or withdraws its demand on several outputs, as one change. -/
def State.putDemands (s : State) (src : Source) (v : Bool) (os : List Output) : State :=
  os.foldl (fun s o => s.putDemand src v o) s

/-- All outputs, in the order in which an evaluation takes them: MAINS_RELAY before INLET, REGEN and HEATER, and CIRC before
HEATER (R34). -/
def Output.evalOrder : List Output :=
  [.mainsRelay, .inlet, .regen, .circ, .heater, .drain, .doseD, .doseR, .aux]

/-! ### Permits (R36 to R38, Table 3-3) -/

/-- "Temperature reading VALID with its temperature below the heater-cutoff setting" (Table 3-3). -/
def State.tempBelowCutoff (s : State) : Bool :=
  decide (s.sampler.temp.status = .valid) &&
    (match s.sampler.temp.value with
     | some t => decide (t < (s.heaterCutoff : Int))
     | none => false)

/-- The supply, flood, latch and fitting terms of a dosing pump's permit, which hold at every evaluation (R37). -/
def State.pumpBase (s : State) (o : Output) : Bool :=
  s.supplyReady && !s.guard.flood && !s.guard.latched && s.fitted o

/-- The whole permit of a dosing pump (Table 3-3), with the door and LEVEL_LOW terms. -/
def State.pumpWhole (s : State) (o : Output) : Bool :=
  s.pumpBase o && s.doorClosed && s.levelWet

/-- R37: while a pump is energised under its DOSE demand its door and LEVEL_LOW terms are not tested. -/
def State.pumpPermit (s : State) (o : Output) : Bool :=
  if s.energised o && s.demands o .dose then s.pumpBase o else s.pumpWhole o

/-- Table 3-3: the permit of an output as its terms stand. -/
def State.permit (s : State) (o : Output) : Bool :=
  match o with
  | .mainsRelay => s.supplyReady && s.store.configured && !s.guard.latched
  | .inlet => s.energised .mainsRelay && s.doorClosed && s.floatClear && !s.guard.flood
  | .regen => s.energised .mainsRelay && s.doorClosed && s.floatClear && !s.guard.flood && s.fitted .regen
  | .heater =>
    s.energised .mainsRelay && s.doorClosed && s.levelWet && s.energised .circ && s.tempBelowCutoff && !s.guard.flood
  | .circ => s.supplyReady && s.doorClosed && !s.guard.flood && !s.guard.latched
  | .drain => s.supplyReady
  | .doseD => s.pumpPermit .doseD
  | .doseR => s.pumpPermit .doseR
  | .aux => s.supplyReady && s.fitted .aux

/-- R37: a pump is energised under DOSE by the permit tested when it is to be energised and then by its base terms, and under TEST
by the whole permit. -/
def State.pumpWanted (s : State) (o : Output) : Bool :=
  ((s.out o).demands.anyButDose && s.pumpWhole o)
    || (s.demands o .dose && s.pumpBase o && (s.energised o || s.pumpWhole o))

/-- R34: an output is energised while its demand set is not empty and its permit holds; MAINS_RELAY carries a standing demand
(R38). -/
def State.wanted (s : State) (o : Output) : Bool :=
  match o with
  | .mainsRelay => s.permit .mainsRelay
  | .doseD => s.pumpWanted .doseD
  | .doseR => s.pumpWanted .doseR
  | .inlet => (s.out .inlet).demands.any && s.permit .inlet
  | .regen => (s.out .regen).demands.any && s.permit .regen
  | .heater => (s.out .heater).demands.any && s.permit .heater
  | .drain => (s.out .drain).demands.any && s.permit .drain
  | .circ => (s.out .circ).demands.any && s.permit .circ
  | .aux => (s.out .aux).demands.any && s.permit .aux

/-! ### What the pins show -/

/-- R162: a port's attention line is asserted while the queue holds an urgent notice, the held-urgent set is not empty, or the count
is at least the threshold. -/
def PortRec.attention (p : PortRec) : Bool :=
  p.queue.any (fun n => n.kind.urgent) || !p.held.isEmpty || decide (p.threshold ≤ p.queue.length)

/-- R40: the level of the DIVERTER pin; held low while marked absent. -/
def State.diverterPin (s : State) : Bool :=
  decide (s.guard.diverter = .upper) && s.diverterFitted

/-- Table 3-1: the rod's demand set holds the Door Unit exactly while it drives the bridge (R142). -/
def State.rodDemand (s : State) : Bool :=
  decide (s.door.drive = .extend) || decide (s.door.drive = .retract)

/-- What a pin of the rod bridge carries (R142): a pulse train of this duty out of 256, low, or high impedance. -/
inductive BridgePin where
  | pulses (duty : Nat)
  | low
  | released
deriving DecidableEq, Repr

/-- R142: the pins ROD_A and ROD_B; the pulse period of 50 microseconds is below the run clock (log 28). -/
def State.rodPins (s : State) : BridgePin × BridgePin :=
  match s.door.drive with
  | .extend => (.pulses (s.fieldNat 18), .low)
  | .retract => (.low, .pulses (s.fieldNat 18))
  | .brake => (.low, .low)
  | .coast => (.released, .released)

end Sys2Proof.Machine
end

