-- ==== Sys2Proof/Machine/Resin.lean ====
section
/-! DEFINITION. The resin account of the Softener Unit: residual hardness, debit, pending flag, restore (R109 to R113, R118). -/

namespace Sys2Proof.Machine

/-- R110: the resin fraction in bp. -/
def State.resinBp (s : State) : Nat := s.softener.remaining * 10000 / s.cFull

/-- R110: the residual hardness in hu. -/
def State.residual (s : State) : Nat :=
  if !s.softener.valid then s.inletHardness
  else if s.knee ≤ s.resinBp then 0
  else ceilDiv (s.inletHardness * (s.knee - s.resinBp)) s.knee

/-- R112: the REGEN_PENDING notice of the account as it stands. -/
def State.raiseRegenPending (s : State) : State :=
  s.raiseByClass (s.notice .regenPending 0 s.resinBp s.softener.remaining)

/-- R112: the test made at each debit of a VALID account. -/
def State.pendingTest (s : State) : State :=
  if !s.softener.pendingFlag && decide (s.resinBp < s.regenThreshold) then
    (s.withSoftener { s.softener with pendingFlag := true }).raiseRegenPending
  else s

/-- R111, steps 1 to 4: the debit of a number of flow counts. -/
def State.debit (s : State) (counts : Nat) : State :=
  let v := s.toMl counts
  if s.softener.valid then
    let amount := (s.inletHardness - s.residual) * v / 100
    (s.withSoftener { s.softener with remaining := s.softener.remaining - amount }).pendingTest
  else
    s.withSoftener { s.softener with tally := sat32 (s.softener.tally + s.inletHardness * v / 100) }

/-- R111 and R113: the Softener takes an inlet closing with its closing count; a closing during a regeneration is exempt. -/
def State.softenerClosing (s : State) (count : Nat) : State :=
  let e := s.softener.exempt
  let s1 := s.withSoftener { s.softener with exempt := 0 }
  if s.softener.phase = .none then s1.debit (count - e) else s1

/-- R8: the pending count. -/
def State.pendingCount (s : State) : Nat := (s.time.flow - s.time.mark).toNat

/-- R112: the test at a load of the resin account. -/
def State.pendingAtLoad (s : State) : State :=
  if s.regenThreshold ≤ s.resinBp then s.withSoftener { s.softener with pendingFlag := false }
  else if s.softener.pendingFlag then s
  else (s.withSoftener { s.softener with pendingFlag := true }).raiseRegenPending

/-- Table 7-5: the restore at the completion of RINSE, with SALT_LOW read CLEAR (full) or LOW (weak). -/
def State.restoreResin (s : State) (full : Bool) : State :=
  if full then
    s.withSoftener { s.softener with
      valid := true, remaining := s.cFull, pendingFlag := false,
      tally := if s.softener.valid then s.softener.tally else 0 }
  else if s.softener.valid then
    let s1 := s.withSoftener { s.softener with remaining := min s.cFull (s.softener.remaining + 3 * s.cFull / 10) }
    if s1.regenThreshold ≤ s1.resinBp then s1.withSoftener { s1.softener with pendingFlag := false } else s1
  else s

end Sys2Proof.Machine
end

