-- ==== Sys2Proof/Machine/LaneOps.lean ====
section
/-! DEFINITION. The lane records: heads, readiness, the exclusion, and how a step's end is recorded (R71 to R79), without the
outputs. -/

namespace Sys2Proof.Machine

/-- The head of a lane. -/
def State.head (s : State) (l : Lane) : Option StepRec := (s.lane l).queue.head?

/-- A change of a lane's record. -/
def State.modLane (s : State) (l : Lane) (f : LaneRec → LaneRec) : State := s.withLane l (f (s.lane l))

/-- A queue with its head changed. -/
def modFirst (f : StepRec → StepRec) : List StepRec → List StepRec
  | [] => []
  | t :: rest => f t :: rest

/-- A change of a lane's head. -/
def State.modHead (s : State) (l : Lane) (f : StepRec → StepRec) : State :=
  s.modLane l (fun r => { r with queue := modFirst f r.queue })

/-- Whether a lane's head satisfies a test. -/
def State.headIs (s : State) (l : Lane) (f : StepRec → Bool) : Bool :=
  match s.head l with
  | some t => f t
  | none => false

/-- Whether a lane's head is ACTIVE. -/
def State.headActive (s : State) (l : Lane) : Bool := s.headIs l (fun t => decide (t.status = .active))

/-- Whether a lane's head is an ACTIVE step whose work satisfies a test. -/
def State.activeWork (s : State) (l : Lane) (f : Work → Bool) : Bool :=
  s.headIs l (fun t => decide (t.status = .active) && f t.work)

/-- Whether a lane waits with wait cause START (R75). -/
def LaneRec.startWait (r : LaneRec) : Bool := decide (r.state = .waiting) && decide (r.waitCause = some .start)

/-- Whether a try is in progress and not paused: RUNNING, or WAITING with cause START (R76). -/
def LaneRec.inTry (r : LaneRec) : Bool := decide (r.state = .running) || r.startWait

/-- Whether a try is in progress, paused or not (R76, R80). -/
def LaneRec.tryInProgress (r : LaneRec) : Bool := r.inTry || decide (r.state = .paused)

/-- R72: the lane enters READY; its start attempt is due at the next increase of the run clock. -/
def LaneRec.toReady (r : LaneRec) : LaneRec :=
  { r with state := .ready, waitCause := none, attemptDue := false }

/-- A lane without wait cause, pause causes and running timers. -/
def LaneRec.quiet (r : LaneRec) : LaneRec :=
  { r with waitCause := none, pauseDoor := false, pauseSupply := false, pausedFromWait := false, retry := none,
           laneSettle := none, attemptDue := false }

/-- R77: where a lane goes when its head has left the queue: HELD under a hold flag (clearing the hold-after flag), READY with the
next head, or IDLE. -/
def LaneRec.advance (r : LaneRec) (hold : Bool) : LaneRec :=
  if hold || r.holdAfter then { r with state := .held, holdAfter := false }
  else if r.queue.isEmpty then { r with state := .idle }
  else r.toReady

/-- R74: whether the other lane's active step keeps this lane's head from starting: a FILL against an ACTIVE DOSE, a DOSE against
an ACTIVE FILL. -/
def State.excluded (s : State) : Lane → Bool
  | .water => s.headIs .water (fun t => t.work.isFill) && s.headActive .dose
  | .dose => s.activeWork .water (fun w => w.isFill)

/-- R74: a lane that waits on the exclusion returns to READY when the blocking step is no longer ACTIVE. -/
def State.releaseLane (s : State) (l : Lane) : State :=
  if (s.lane l).state = .waiting ∧ (s.lane l).waitCause = some .exclusion ∧ s.excluded l = false then
    s.modLane l LaneRec.toReady
  else s

/-- R74: the exclusion is looked at again for both lanes. -/
def State.releaseExclusion (s : State) : State := (s.releaseLane .water).releaseLane .dose

/-- R126: the dose record is discarded when the step leaves the queue of the DOSE lane. -/
def State.dropDose (s : State) : Lane → State
  | .water => s
  | .dose => s.withDose none

/-- R86: a FILL's success sets the reference volume to its actual value. -/
def State.setRefFrom (s : State) (t : StepRec) : State :=
  if t.work.isFill then s.withEngine { s.engine with refVolume := some t.actual } else s

/-- A step's number of result (Table 12-6). -/
def StepResult.number : StepResult → Nat
  | .none => 0
  | .ok => 1
  | .noFlow => 2
  | .timeout => 3
  | .noWater => 4
  | .notDrained => 5
  | .outputFault => 6
  | .pumpFault => 7
  | .blocked => 8
  | .flood => 9
  | .fault => 10
  | .sensor => 11
  | .rodFault => 12
  | .noSupply => 13
  | .flushed => 14

/-- R77: the success of a lane's head, its try having ended. -/
def State.concludeSuccess (s : State) (l : Lane) (flags : ResultFlags) : State :=
  match s.head l with
  | none => s
  | some t =>
    let t' := { t with status := .done, result := .ok, flags := flags, endTime := some s.now }
    let s1 := s.modLane l (fun r =>
      ({ r.quiet with queue := r.queue.tail, last := some { step := t', manner := .done } }).advance t.hold)
    let s2 := (s1.setRefFrom t').dropDose l
    let s3 := if t.notify then s2.raiseStep l (s.notice .stepDone l.number t.id t.actual) else s2
    s3.releaseExclusion

/-- A failure for good (R78, R79): FAILED with its result and end time, the lane STALLED, the last-result record, STEP_FAILED. -/
def State.failForGood (s : State) (l : Lane) (result : StepResult) : State :=
  match s.head l with
  | none => s
  | some t =>
    let t' := { t with status := .failed, result := result, endTime := some s.now }
    let s1 := s.modLane l (fun r =>
      { r.quiet with state := .stalled, queue := modFirst (fun _ => t') r.queue,
                     last := some { step := t', manner := .failed } })
    (s1.raiseStep l (s.notice .stepFailed l.number t.id result.number)).releaseExclusion

/-- R78: a counted failure, its try having ended. -/
def State.concludeCounted (s : State) (l : Lane) (result : StepResult) : State :=
  let s1 := s.modHead l (fun t => { t with triesUsed := t.triesUsed + 1, result := result })
  match s1.head l with
  | none => s
  | some t =>
    if t.triesUsed < t.tries then
      s1.modLane l (fun r => { r.quiet with state := .retryWait, retry := s.timer 5000 })
    else s1.failForGood l result

end Sys2Proof.Machine
end

