-- ==== Sys2Proof/Machine/Rod.lean ====
section
/-! DEFINITION. The rod and the door mode, as far as they concern the Door Unit alone (R140 to R146, R149 to R151). -/

namespace Sys2Proof.Machine

/-- A change of the Door Unit's record. -/
def State.modDoor (s : State) (f : DoorUnit → DoorUnit) : State := s.withDoor (f s.door)

/-- A rod state's number (Table 9-1). -/
def RodState.number : RodState → Nat
  | .unknown => 0
  | .home => 1
  | .extending => 2
  | .holding => 3
  | .retracting => 4
  | .braking => 5
  | .jammed => 6

/-- The errand number of a ROD_STATE notice (R148). -/
def DoorUnit.errandNumber (d : DoorUnit) : Nat :=
  match d.errand with
  | .opening => 5
  | .none => 0
  | .homing =>
    match d.cause with
    | some .profileLock => 1
    | some .clearFault => 2
    | some .homeLost => 3
    | some .tryEnd => 4
    | none => 0

/-- A jam cause's number (R148). -/
def JamCause.number : JamCause → Nat
  | .none => 0
  | .retractLimit => 1
  | .overcurrent => 2

/-- R148: a ROD_STATE notice with the errand that `before` had. -/
def State.raiseRodState (s : State) (before : DoorUnit) (jam : JamCause) : State :=
  s.raiseByClass (s.notice .rodState s.door.rod.number before.errandNumber jam.number)

/-- R141: a change of the door mode raises DOOR_MODE. -/
def State.setAjar (s : State) (v : Bool) : State :=
  if s.door.ajar = v then s
  else
    (s.modDoor (fun d => { d with ajar := v })).raiseByClass (s.notice .doorMode (if v then 1 else 0) 0 0)

/-- A brake with a next move, the dead-time timer started (R142, R144 to R146). -/
def DoorUnit.brakeToward (d : DoorUnit) (now : Word) (next : NextMove) (report : RodReport) : DoorUnit :=
  { d with rod := .braking, drive := .brake, nextMove := next, report := report, extendTimer := none, holdTimer := none,
           deadTimer := timerFor now 50 }

/-- R142: the terms of an extension: the WATER lane's active step is AUTO_OPEN, LEVEL_LOW reads dry, HEATER is de-energised. -/
def State.extendTerms (s : State) : Bool :=
  s.activeWork .water (fun w => decide (w = .autoOpen)) && !s.levelWet && !s.energised .heater

/-- R143 and R149: the extension begins, with its full limit; ROD_OC asserted at the change of drive is taken in the new state
(R142, R144). -/
def State.beginExtend (s : State) : State :=
  let s1 := s.modDoor (fun d =>
    { d with rod := .extending, drive := .extend, nextMove := .none, extendBegan := s.now,
             extendTimer := s.timer (s.fieldNat 16 * 100) })
  if s.pins.rodOc then s1.modDoor (fun d => d.brakeToward s.now .retract .blocked) else s1

/-- R143: an AUTO_OPEN try is handed over. -/
def State.rodHandOver (s : State) : State :=
  let s1 := s.modDoor (fun d => { d with errand := .opening, cause := none, opened := false, report := .none })
  if s.supplyReady then s1.beginExtend else s1.modDoor (fun d => { d with supplyHold := true })

/-- R146: water or heat cuts an extension or a hold. -/
def State.extendGuard (s : State) : State :=
  if s.door.rod = .extending ∨ s.door.rod = .holding then
    s.modDoor (fun d => d.brakeToward s.now .retract .blocked)
  else s

/-- R145: the hold ends toward a success. -/
def State.endHold (s : State) : State :=
  s.modDoor (fun d => d.brakeToward s.now .retract .success)

/-- R144: the door has opened during an extension. -/
def State.doorOpened (s : State) : State :=
  s.modDoor (fun d =>
    { d with extendTimer := none, extendTime := (s.now - d.extendBegan).toNat, opened := true, rod := .holding,
             holdTimer := s.timer (s.fieldNat 17 * 100) })

/-- R149: a supply loss stops a move. -/
def State.rodSupplyLost (s : State) : State :=
  if s.door.drive = .extend ∨ s.door.drive = .retract ∨ s.door.deadTimer.isSome then
    s.modDoor (fun d =>
      { d with rod := .braking, drive := .brake, extendTimer := none, holdTimer := none, retractTimer := none,
               deadTimer := none, supplyHold := true })
  else s

/-- The dead time before a retract (R149 to R152). -/
def DoorUnit.towardHome (d : DoorUnit) (now : Word) : DoorUnit :=
  { d with rod := .braking, drive := .brake, supplyHold := false, nextMove := .retract, deadTimer := timerFor now 50 }

/-- R149: a HOMING errand that waits for the supply is taken up when it is READY again. -/
def State.rodSupplyReady (s : State) : State :=
  if s.door.errand = .homing ∧ s.door.supplyHold = true then s.modDoor (fun d => d.towardHome s.now) else s

/-- R151 and R152: the retract of a homing errand begins now, or waits for the supply. -/
def State.startHoming (s : State) (cause : HomingCause) : State :=
  let s1 := s.modDoor (fun d =>
    { d with errand := .homing, cause := some cause, rod := .braking, drive := .brake })
  if s.supplyReady then s1.modDoor (fun d => d.towardHome s.now) else s1.modDoor (fun d => { d with supplyHold := true })

/-- R151: what PROFILE LOCK decides when ROD_HOME reads CLOSED (`closed`) or OPEN. -/
def State.lockHoming (s : State) (closed : Bool) : State :=
  if closed then
    let s1 := s.modDoor (fun d => { d with rod := .home })
    s1.raiseByClass (s.notice .rodState 1 1 0)
  else s.startHoming .profileLock

/-- R150: an AUTO_OPEN try ends from the lane's side. -/
def State.rodTryEnd (s : State) : State :=
  if s.door.errand ≠ .opening then s
  else
    match s.door.rod with
    | .jammed => s
    | .home => s.modDoor (fun d => { d with errand := .none, cause := none, supplyHold := false })
    | .unknown | .extending | .holding | .retracting | .braking =>
      let s1 := s.modDoor (fun d =>
        { d with extendTimer := none, holdTimer := none, report := .none, errand := .homing, cause := some .tryEnd,
                 nextMove := if d.nextMove = .extend then .retract else d.nextMove })
      if s.door.supplyHold then
        if s.supplyReady then s1.modDoor (fun d => d.towardHome s.now) else s1
      else if s.door.rod = .extending ∨ s.door.rod = .holding then
        s1.modDoor (fun d => d.brakeToward s.now .retract .none)
      else s1

/-- R141, R144, R145: the Door Unit takes a DOOR input event, or a settle report, which moves no rod. -/
def State.doorUnitDoor (s : State) (closed isEvent : Bool) : State :=
  let s1 := s.modDoor (fun d => { d with position := some closed })
  let s2 := if closed then s1.setAjar false else s1
  if !isEvent then s2
  else if !closed && decide (s2.door.rod = .extending) then s2.doorOpened
  else if closed && decide (s2.door.rod = .holding) then s2.endHold
  else s2

end Sys2Proof.Machine
end

