-- ==== Sys2Proof/Machine/Evaluate.lean ====
section
/-! DEFINITION. The evaluation of the outputs (R34) and the output events that follow from it (R39): sense checks, inlet openings
and closings, heater events, pump events. -/

namespace Sys2Proof.Machine

/-! ### Sense checks (R41, R42) -/

/-- A change of a checked output's sense record. -/
def State.modCheck (s : State) (o : Checked) (f : CheckRec → CheckRec) : State :=
  s.withGuard { s.guard with checks := s.guard.checks.set o (f (s.guard.checks.get o)) }

/-- R41 and R42: an output event of a checked output starts, stops and clears its windows and marks. -/
def State.checkOutput (s : State) (o : Checked) (on : Bool) : State :=
  let sense := s.pins.sense o.line
  s.modCheck o (fun c =>
    if on then
      { c with stuckOn := none, onMark := false, stuckOff := if sense then none else s.timer 2000 }
    else
      { c with stuckOff := none, offMark := false, stuckOn := if sense then s.timer 200 else none })

/-- R41 and R42: a change of a checked output's sense line. -/
def State.checkSense (s : State) (o : Checked) (sense : Bool) : State :=
  s.modCheck o (fun c =>
    if sense then
      { c with stuckOff := none, offMark := false, stuckOn := if s.energised o.output then none else s.timer 200 }
    else
      { c with stuckOn := none, onMark := false, stuckOff := if s.energised o.output then s.timer 2000 else none })

/-! ### Inlet events (R8, R9, R39) -/

/-- A change of the Time Base. -/
def State.modTime (s : State) (f : TimeBase → TimeBase) : State := s.withTime (f s.time)

/-- Table 1-4: an inlet opening. -/
def StrayState.opening : StrayState → StrayState
  | .disarmed => .disarmed
  | .watching | .reported | .passive => .passive

/-- R9: an inlet opening moves the stray-flow detector. -/
def State.strayOpening (s : State) : State :=
  s.modTime (fun t => { t with stray := t.stray.opening })

/-- R9: an inlet closing moves the stray-flow detector. -/
def State.strayClosing (s : State) : State :=
  if s.time.stray = .passive then s.modTime (fun t => { t with stray := .watching, strayCount := 0 }) else s

/-- R95 and R119: the no-flow windows of a FILL and of a regeneration start at an energising of INLET under their demand. -/
def State.startNoFlow (s : State) : State :=
  let s1 :=
    if s.demands .inlet .water then s.withEngine { s.engine with fillNoFlow := s.timer 5000 } else s
  if s1.demands .inlet .softener then s1.withSoftener { s1.softener with noFlow := s.timer 5000 } else s1

/-- R95 and R119: a de-energising of INLET stops the no-flow windows. -/
def State.stopNoFlow (s : State) : State :=
  (s.withEngine { s.engine with fillNoFlow := none }).withSoftener { s.softener with noFlow := none }

/-- R39: one inlet opening. -/
def State.inletOpening (s : State) : State := s.strayOpening.startNoFlow

/-- R8 and R39: one inlet closing; the closing count goes to the Softener and the cycle record, and the mark moves. -/
def State.inletClosing (s : State) : State :=
  let count := s.pendingCount
  let s1 := s.modTime (fun t => { t with mark := t.flow })
  let s2 := (s1.softenerClosing count).cycleWater (s1.toMl count)
  s2.strayClosing.stopNoFlow

/-! ### AUTO_OPEN's start tests (Table 6-6) -/

/-- What a kind's start tests answer (R75). -/
inductive Outcome where
  | success (flags : ResultFlags) (actual : Option Nat)
  | counted (result : StepResult)
  | immediate (result : StepResult)
  | wait
  | run
deriving DecidableEq, Repr

/-- Table 6-6, with the auto-open setting as read at the try's start. -/
def State.autoOpenTests (s : State) (t : StepRec) : Outcome :=
  if !t.autoOpenOn then .success { ResultFlags.clear with disabled := true } (some 0)
  else
    match s.accepted .door with
    | none => .wait
    | some false => .success { ResultFlags.clear with alreadyOpen := true } (some 0)
    | some true =>
      match s.accepted .levelLow with
      | none => .wait
      | some true => .counted .notDrained
      | some false =>
        if s.energised .heater then .wait
        else if s.door.rod ≠ .home then .immediate .rodFault
        else .run

/-- R107: an output event of HEATER ends the start wait of an AUTO_OPEN, which holds no demand, by the outcome of its tests. -/
def State.autoOpenHeater (s : State) : State :=
  match s.head .water with
  | none => s
  | some t =>
    if (s.lane .water).startWait && decide (t.work = .autoOpen) then
      match s.autoOpenTests t with
      | .wait => s
      | .success flags _ => (s.modHead .water (fun t => { t with actual := 0 })).concludeSuccess .water flags
      | .counted r => s.concludeCounted .water r
      | .immediate r => s.failForGood .water r
      | .run => (s.modLane .water (fun r => { r with state := .running, waitCause := none })).rodHandOver
    else s

/-- R39: an output event of HEATER, for the Step Engine and the Door Unit (R107, R146). -/
def State.heaterEvent (s : State) (on : Bool) : State :=
  let s1 := s.autoOpenHeater
  if on then s1.extendGuard else s1

/-! ### Pump events (R132, R133) -/

/-- The feedback line of an agent (Table 8-1). -/
def Agent.line : Agent → SenseLine
  | .detergent => .doseDSn
  | .rinse => .doseRSn

/-- The pump of an agent (Table 8-1). -/
def Agent.pump : Agent → Output
  | .detergent => .doseD
  | .rinse => .doseR

/-- A change of the dose record, where there is one. -/
def State.modDose (s : State) (f : DoseRec → DoseRec) : State :=
  match s.dosing.record with
  | none => s
  | some r => s.withDose (some (f r))

/-- R126, R132, R133: an output event of a pump sets the energising marks of a stroke in ON, and the feedback flag when the line is
already on. -/
def State.pumpEvent (s : State) (a : Agent) (on : Bool) : State :=
  s.modDose (fun r =>
    if r.agent = a ∧ r.phase = .on then
      if on then { r with pumpOn := true, feedback := r.feedback || s.pins.sense a.line }
      else { r with pumpCut := r.pumpCut || r.onTimer.isSome }
    else r)

/-! ### The evaluation (R34) -/

/-- One output is set to what its demand set and permit give. -/
def State.settleOutput (s : State) (o : Output) : State :=
  s.withOut o { s.out o with energised := s.wanted o }

/-- R34: every output in the order of an evaluation. -/
def State.settleOutputs (s : State) : State := Output.evalOrder.foldl State.settleOutput s

/-- Table 3-4: the receivers of an output event. -/
def State.outputEvent (s : State) (o : Output) (on : Bool) : State :=
  match o with
  | .inlet => let s1 := s.checkOutput .inlet on; if on then s1.inletOpening else s1.inletClosing
  | .heater => (s.checkOutput .heater on).heaterEvent on
  | .drain => s.checkOutput .drain on
  | .circ => s.checkOutput .circ on
  | .doseD => s.pumpEvent .detergent on
  | .doseR => s.pumpEvent .rinse on
  | .mainsRelay | .regen | .aux => s

/-- R34 and R39: the Guard evaluates its outputs, and the outputs that change give their events. -/
def State.evaluate (s : State) : State :=
  let t := s.settleOutputs
  Output.evalOrder.foldl
    (fun u o => if s.energised o = t.energised o then u else u.outputEvent o (t.energised o)) t

end Sys2Proof.Machine
end

