-- ==== Sys2Proof/Machine/Stock.lean ====
section
/-! DEFINITION. The stock accounts and the judgment of a stroke (R124, R125, R132, R136, R138). -/

namespace Sys2Proof.Machine

/-- R125: the level of a VALID account with this stock. -/
def State.levelFor (s : State) (a : Agent) (stock : Nat) : StockLevel :=
  if stock < s.strokeVolume a then .empty
  else if stock < s.lowMark a then .low
  else .ok

/-- A level's number in a STOCK notice and a reply (R125). -/
def StockLevel.number : StockLevel → Nat
  | .ok => 0
  | .low => 1
  | .empty => 2

/-- R125: the level of an account is evaluated; a change to LOW or EMPTY raises STOCK. -/
def State.evalLevel (s : State) (a : Agent) : State :=
  let acc := s.account a
  if acc.valid then
    let level := s.levelFor a acc.stock
    let s1 := s.withAccount a { acc with level := level }
    if level ≠ acc.level ∧ level ≠ .ok then
      s1.raiseByClass (s.notice .stock a.number level.number acc.stock)
    else s1
  else s

/-- A change of the stock of an account, with its level evaluated (R125). -/
def State.setStock (s : State) (a : Agent) (stock : Nat) : State :=
  (s.withAccount a { s.account a with stock := stock }).evalLevel a

/-- R168: what a stock load leaves: max(0, min(capacity, value) - tally). -/
def State.loadedStock (s : State) (a : Agent) (value tally : Nat) : Nat :=
  min (s.capacity a) value - tally

/-- R138 and R168: a declared or loaded stock makes the account VALID with its tally at 0. -/
def State.declareStock (s : State) (a : Agent) (stock : Nat) : State :=
  (s.withAccount a { s.account a with valid := true, tally := 0, held := none, stock := stock }).evalLevel a

/-- R138: a held write is applied once the stroke is judged. -/
def State.applyHeld (s : State) (a : Agent) : State :=
  match (s.account a).held with
  | none => s
  | some (.set stored) => s.declareStock a stored
  | some (.load value) => s.declareStock a (s.loadedStock a value (s.account a).tally)

/-- Whether a stroke of an agent is in ON, so that writes of its stock are held (R138). -/
def State.strokeOn (s : State) (a : Agent) : Bool :=
  match s.dosing.record with
  | some r => decide (r.agent = a) && decide (r.phase = .on)
  | none => false

/-- R132: one counted stroke of the dose record `r`.  A VALID stock below S is left at 0 (DEDUCED from R124, log 38). -/
def State.countStroke (s : State) (r : DoseRec) : State :=
  let volume := s.strokeVolume r.agent
  let s1 := s.modDose (fun r => { r with delivered := r.delivered + 1 })
  let s2 := s1.modHead .dose (fun t => { t with actual := fit32 ((r.delivered + 1) * volume) })
  let acc := s2.account r.agent
  let s3 :=
    if acc.valid then s2.setStock r.agent (acc.stock - volume)
    else s2.withAccount r.agent { acc with tally := sat32 (acc.tally + volume) }
  s3.cycleStroke r.agent volume

/-- R132, R133, R136, R138: a stroke is judged by its feedback flag, and a held write is then applied. -/
def State.judgeStroke (s : State) (r : DoseRec) : State :=
  let s1 := s.modDose (fun r => { r with phase := .idle, onTimer := none })
  let s2 := if r.feedback then s1.countStroke r else s1
  s2.applyHeld r.agent

/-- R136: the end of a DOSE try; a stroke in ON is judged at once, and the timers stop.  `tryTarget` keeps the ended try's value until the
next try, past a start wait of its own, sets it, and READ DOSING shows it meanwhile, where R139 gives no value and Table 8-5 a dash (DESIGN
CHOICE, log 42). -/
def State.doseTryEnd (s : State) : State :=
  match s.dosing.record with
  | none => s
  | some r =>
    let s1 := if r.phase = .on then s.judgeStroke r else s
    s1.modDose (fun r => { r with phase := .idle, onTimer := none, offTimer := none, dry := none })

end Sys2Proof.Machine
end

