-- ==== Sys2Proof/Machine/TryEnd.lean ====
section
/-! DEFINITION. The end of a try (R76), and the success and failures of a step with it (R77 to R79). -/

namespace Sys2Proof.Machine

/-- The demand source of a lane's steps (Table 3-2). -/
def Lane.source : Lane → Source
  | .water => .water
  | .dose => .dose

/-- R35: a source withdraws all its demands in one change, and the Guard evaluates once. -/
def State.withdrawAll (s : State) (src : Source) : State :=
  (s.putDemands src false Output.evalOrder).evaluate

/-- R34 and R35: a source enters its demands on several outputs in one change, and the Guard evaluates once. -/
def State.enterDemands (s : State) (src : Source) (os : List Output) : State :=
  (s.putDemands src true os).evaluate

/-- R113: the phase returns to NONE and the counts that await a closing are exempt. -/
def State.endRegen (s : State) : State :=
  s.withSoftener { s.softener with phase := .none, exempt := s.pendingCount }

/-- R121: a regeneration in progress is abandoned: its demands withdrawn, its counts discarded, nothing restored. -/
def State.abandonRegen (s : State) : State :=
  if s.softener.phase = .none then s
  else
    let s1 := (s.withdrawAll .softener).endRegen
    s1.withSoftener { s1.softener with brine := 0, soak := 0, rinse := 0, noFlow := none }

/-- R31: the DOSE lane's entry leaves the requester list. -/
def State.dropDoseRequest (s : State) : State :=
  s.withTurb { s.sampler.turb with doseReq := false }

/-- R76: the try-end event, for the block of the head's kind. -/
def State.tellTryEnd (s : State) (l : Lane) : State :=
  match s.head l with
  | none => s
  | some t =>
    match t.work with
    | .regenerate _ => s.abandonRegen
    | .autoOpen => s.rodTryEnd
    | .dose _ _ => s.doseTryEnd
    | .fill _ _ | .drain _ | .circulate _ _ | .heat _ _ | .pause _ => s

/-- R76: the end of a try: the lane's demands are withdrawn, its windows stop, and the kind's block is told; at the end of a try of the
DOSE lane the Sampler is told (R31). -/
def State.tryEnd (s : State) (l : Lane) : State :=
  let s1 := (s.withdrawAll l.source).tellTryEnd l
  match l with
  | .water => s1.withEngine { s1.engine with fillNoFlow := none, waterDry := none }
  | .dose => s1.dropDoseRequest

/-- R77: a step succeeds, with its actual value where the kind names one now. -/
def State.succeed (s : State) (l : Lane) (flags : ResultFlags) (actual : Option Nat) : State :=
  let s1 :=
    match actual with
    | none => s
    | some v => s.modHead l (fun t => { t with actual := fit32 v })
  (s1.tryEnd l).concludeSuccess l flags

/-- R78: a try ends in a counted failure. -/
def State.endCounted (s : State) (l : Lane) (result : StepResult) : State :=
  (s.tryEnd l).concludeCounted l result

/-- R78: a report of a counted failure, which changes nothing where the head is not in a try. -/
def State.failCounted (s : State) (l : Lane) (result : StepResult) : State :=
  if (s.lane l).inTry then s.endCounted l result else s

/-- R79: an immediate failure; a try in progress ends first. -/
def State.failImmediate (s : State) (l : Lane) (result : StepResult) : State :=
  if (s.lane l).tryInProgress then (s.tryEnd l).failForGood l result else s.failForGood l result

/-- R79: the states in which a report of the Output Guard fails an ACTIVE head. -/
def LaneState.meetsReport : LaneState → Bool
  | .running | .paused | .waiting | .ready | .retryWait => true
  | .idle | .held | .stalled | .halted => false

/-- R79: a lane meets a report of the Output Guard. -/
def State.guardReportLane (s : State) (result : StepResult) (l : Lane) : State :=
  if s.headActive l ∧ (s.lane l).state.meetsReport = true then s.failImmediate l result else s

/-- R79: a flood start, a latching or a further fault, reported to both lanes, WATER before DOSE (DESIGN CHOICE, log 37). -/
def State.guardReport (s : State) (result : StepResult) : State :=
  (s.guardReportLane result .water).guardReportLane result .dose

/-- R49: an output test ends and its TEST demand is withdrawn. -/
def State.endTest (s : State) : State :=
  match s.guard.test with
  | none => s
  | some o =>
    ((s.withGuard { s.guard with test := none, testTimer := none }).putDemand .test false o).evaluate

/-! ### Forced drain (R46) -/

/-- R46: a forced-drain reason holds. -/
def State.drainReason (s : State) : Bool := s.guard.flood || s.guard.latchDrain.isSome

/-- R46: the FORCED demand on DRAIN is there while a reason holds. -/
def State.putForced (s : State) : State := s.putDemand .forced s.drainReason .drain

/-- R46: the latch drain reason starts, or is restarted. -/
def State.startLatchDrain (s : State) : State :=
  (s.withGuard { s.guard with latchDrain := s.timer 120000 }).putForced

/-! ### Action demands (R59) -/

/-- R59: the ACTION demands of DRAIN, CIRC and AUX are withdrawn in one change. -/
def State.withdrawActions (s : State) : State :=
  (s.putDemands .action false [.drain, .circ, .aux]).evaluate

end Sys2Proof.Machine
end

