-- ==== Sys2Proof/Machine/Dose.lean ====
section
/-! DEFINITION. The dose computation (R127 to R129) and the strokes (R130, R131), with the request of a turbidity sample (R27). -/

namespace Sys2Proof.Machine

/-! ### Asking for a sample (R27) -/

/-- R27: a request starts a sample or joins the one in flight; `port` and `dose` say what enters the requester list. -/
def State.requestSample (s : State) (port : Option Port) (dose : Bool) : State :=
  let t := s.sampler.turb
  let reqs :=
    match port with
    | none => t.portReq
    | some p => t.portReq.set p true
  if t.lit then s.withTurb { t with portReq := reqs, doseReq := t.doseReq || dose }
  else s.withTurb { t with lit := true, ledTimer := s.timer 30, portReq := reqs, doseReq := t.doseReq || dose }

/-! ### The computation (R128, R129) -/

/-- R128: the soil factor of a class, as latched. -/
def DoseSettings.soilFactor (l : DoseSettings) (soilClass : Nat) : Nat :=
  match soilClass with
  | 0 => l.f0
  | 1 => l.f1
  | 2 => l.f2
  | _ => l.f3

/-- R128: the volume factor. -/
def volumeFactor (vr vref : Nat) : Nat := clampNat 700 1400 (vr * 1000 / vref)

/-- R128: the hardness factor; 1000 for RINSE, which reads no hardness. -/
def hardnessFactor (slope : Nat) : Option Nat → Nat
  | none => 1000
  | some hr => min 2000 (1000 + slope * hr / 100)

/-- R129: the clamp of an agent's dose. -/
def clampDose (a : Agent) (l : DoseSettings) (d3 : Nat) : Nat :=
  match a with
  | .detergent => clampNat l.doseMin l.doseMax d3
  | .rinse => clampNat 0 l.doseMax d3

/-- R127: the base setting of an agent, as latched. -/
def DoseSettings.base (l : DoseSettings) : Agent → Nat
  | .detergent => l.detergentBase
  | .rinse => l.rinseBase

/-- R128 and R129: the record made COMPUTED; `soilClass` is none for RINSE. -/
def DoseRec.compute (r : DoseRec) (vref stroke : Nat) (soilClass : Option Nat) : DoseRec :=
  let b := if r.base = 0 then r.latched.base r.agent else r.base
  let fv := volumeFactor r.vr vref
  let fh := hardnessFactor r.latched.slope r.hr
  let fs :=
    match soilClass with
    | none => 1000
    | some c => r.latched.soilFactor c
  let d1 := roundPerMille (b * fv)
  let d2 := roundPerMille (d1 * fh)
  let d3 := roundPerMille (d2 * fs)
  let d := clampDose r.agent r.latched d3
  { r with computed := true, soilClass := soilClass, fv := fv, fh := fh, fs := fs, d1 := d1, d2 := d2, d3 := d3, dose := d,
           strokes := ceilDiv d stroke }

/-- R128: the record of the DOSE lane's head is made COMPUTED. -/
def State.computeDose (s : State) (soilClass : Option Nat) : State :=
  s.modDose (fun r => r.compute s.vref (s.strokeVolume r.agent) soilClass)

/-! ### The dose record (R126, R127) -/

/-- R127: the settings a DOSE latches at its first start. -/
def State.latchDose (s : State) : DoseSettings :=
  { detergentBase := s.setting 10, rinseBase := s.setting 11, slope := s.setting 2,
    f0 := s.setting 6, f1 := s.setting 7, f2 := s.setting 8, f3 := s.setting 9, doseMin := s.setting 12, doseMax := s.setting 13 }

/-- R126 and R127: the record a DOSE step creates at its first start, its class not yet found.  While it is AWAITING_CLASS the spec gives
`fv`, `fh`, `fs`, `d1`, `d2`, `d3`, `dose` and `strokes` no value, and it gives `tryTarget` none until a try first passes its start tests,
so also in the start wait of a COMPUTED record for LEVEL_LOW to settle; they are 0, and READ DOSING shows 0 (DESIGN CHOICE, log 41). -/
def State.newDose (s : State) (id base : Nat) (a : Agent) : DoseRec :=
  { agent := a, stepId := id, computed := false, base := base, latched := s.latchDose,
    vr := s.engine.refVolume.getD 0,
    hr :=
      match a with
      | .detergent => some s.residual
      | .rinse => none,
    soilClass := none, fv := 0, fh := 0, fs := 0, d1 := 0, d2 := 0, d3 := 0, dose := 0, strokes := 0, delivered := 0,
    tryTarget := 0, phase := .idle, feedback := false, pumpOn := false, pumpCut := false, issuedInTry := false,
    onTimer := none, offTimer := none, dry := none }

/-- R127: how the soil class of a record that is AWAITING_CLASS is found at the start of a try: RINSE needs none, DETERGENT takes
the class of a taken sample or asks for a sample. -/
def State.findClass (s : State) (r : DoseRec) : State :=
  if r.computed then s
  else
    match r.agent with
    | .rinse => s.computeDose none
    | .detergent =>
      if s.sampler.turb.sampled then s.computeDose (some s.sampler.turb.soilClass)
      else s.requestSample none true

/-! ### Start of a try (R130) -/

/-- R130: the strokes a VALID stock allows. -/
def State.stockLimit (s : State) (a : Agent) : Nat := (s.account a).stock / s.strokeVolume a

/-- R130 and R131: what the stock of a VALID account gives when it holds no whole stroke. -/
def DoseRec.noStock (r : DoseRec) (volume : Nat) : Outcome :=
  if 0 < r.delivered then .success { ResultFlags.clear with shortSupply := true } (some (r.delivered * volume))
  else .immediate .noSupply

/-- R130: the tests of a DOSE whose record is COMPUTED. -/
def State.doseTests (s : State) (r : DoseRec) : Outcome :=
  let volume := s.strokeVolume r.agent
  if r.strokes = 0 ∨ r.delivered = r.strokes then .success ResultFlags.clear (some (r.delivered * volume))
  else if (s.account r.agent).valid = true ∧ s.stockLimit r.agent = 0 then r.noStock volume
  else
    match s.accepted .levelLow with
    | none => .wait
    | some _ => .run

/-- R130: the try target. -/
def State.setTryTarget (s : State) : State :=
  s.modDose (fun r =>
    let left := r.strokes - r.delivered
    let allowed := if (s.account r.agent).valid then min left (s.stockLimit r.agent) else left
    { r with tryTarget := r.delivered + allowed, issuedInTry := false })

/-! ### Strokes (R131) -/

/-- R131: a stroke is issued: the demand is entered, the phase is ON, the on-timer starts. -/
def State.issueStroke (s : State) (a : Agent) : State :=
  let s1 := s.modDose (fun r =>
    { r with feedback := false, pumpOn := false, pumpCut := false, phase := .on, issuedInTry := true, offTimer := none,
             onTimer := s.timer (s.strokePeriod / 2) })
  s1.enterDemands .dose [a.pump]

/-- The success or immediate failure of the DOSE lane's head that an outcome names; other outcomes change nothing here. -/
def State.endDose (s : State) (o : Outcome) : State :=
  match o with
  | .success flags actual => s.succeed .dose flags actual
  | .immediate result => s.failImmediate .dose result
  | .counted _ | .wait | .run => s

/-- R131: a stroke is due. -/
def State.strokeDue (s : State) : State :=
  match s.dosing.record with
  | none => s
  | some r =>
    if (s.lane .dose).state ≠ .running ∨ r.phase = .on then s
    else if s.accepted .levelLow ≠ some true then s.modDose (fun r => { r with phase := .idle })
    else if r.issuedInTry = true ∧ (s.account r.agent).valid = true ∧ (s.account r.agent).stock < s.strokeVolume r.agent then
      s.endDose (r.noStock (s.strokeVolume r.agent))
    else s.issueStroke r.agent

/-- R134: the dry window starts. -/
def State.startDoseDry (s : State) : State := s.modDose (fun r => { r with dry := s.timer 2000 })

/-- R130 and R135: the work of a DOSE whose try runs or resumes: a stroke is due, or the dry window starts. -/
def State.doseWork (s : State) : State :=
  if s.levelWet then s.strokeDue
  else (s.modDose (fun r => if r.phase = .on then r else { r with phase := .idle })).startDoseDry

/-! ### Pause (R135) -/

/-- R135: the pause of a DOSE; a lost supply withdraws the demand of a stroke in ON. -/
def State.dosePause (s : State) (supply : Bool) : State :=
  let s1 := s.modDose (fun r => { r with offTimer := none, dry := none })
  if supply then s1.withdrawAll .dose else s1

/-! ### The on-timer (R132, R133, R135) -/

/-- R132: the phase becomes OFF and the off-timer starts. -/
def State.restStroke (s : State) : State :=
  s.modDose (fun r => { r with phase := .off, offTimer := s.timer (s.strokePeriod - s.strokePeriod / 2) })

/-- R132, R133, R135: the on-timer expires: the demand is withdrawn, the stroke is judged, and the lane goes on. -/
def State.strokeEnds (s : State) : State :=
  let s1 := (s.modDose (fun r => { r with onTimer := none })).withdrawAll .dose
  match s1.dosing.record with
  | none => s1
  | some r =>
    let s2 := s1.judgeStroke r
    let running := decide ((s2.lane .dose).state = .running)
    if r.feedback then
      if r.delivered + 1 = r.tryTarget then
        s2.succeed .dose { ResultFlags.clear with shortSupply := decide (r.delivered + 1 < r.strokes) }
          (some ((r.delivered + 1) * s2.strokeVolume r.agent))
      else if running then s2.restStroke
      else s2
    else if !running then s2
    else if r.pumpOn && !r.pumpCut then s2.endCounted .dose .pumpFault
    else s2.restStroke

end Sys2Proof.Machine
end

