-- ==== Sys2Proof/Machine/Regen.lean ====
section
/-! DEFINITION. The regeneration of the Softener Unit (R113 to R121). -/

namespace Sys2Proof.Machine

/-- A change of the Softener's record. -/
def State.modSoftener (s : State) (f : Softener → Softener) : State := s.withSoftener (f s.softener)

/-- R115: the actual value of a REGENERATE, from its phase counts. -/
def State.regenMl (s : State) : Nat := s.toMl (s.softener.brine + s.softener.rinse)

/-- R113 and R114: the hand-over, up to the demands. -/
def State.regenHandOver (s : State) : State :=
  let s1 := s.debit s.pendingCount
  let s2 := s1.modSoftener (fun f =>
    { f with exempt := 0, phase := .brine, brine := 0, soak := 0, rinse := 0, brineTarget := s.toCounts (s.fieldNat 13),
             rinseTarget := s.toCounts (s.fieldNat 15) })
  s2.modHead .water (fun t => { t with actual := 0 })

/-- R118: the REGEN_DONE notice of the account as it stands. -/
def State.raiseRegenDone (s : State) (full : Bool) : State :=
  s.raiseByClass
    (s.notice .regenDone (if full then 1 else 2) (if s.softener.valid then s.resinBp else 0)
      (if s.softener.valid then s.softener.remaining else 0))

/-- R118: the completion of RINSE. -/
def State.regenComplete (s : State) (short : Bool) : State :=
  let actual := s.regenMl
  let full := s.saltClear
  let s1 := (s.withdrawAll .softener).restoreResin full
  let s2 := (s1.endRegen).modSoftener (fun f => { f with noFlow := none })
  let s3 := (s2.raiseRegenDone full).cycleRegen full
  s3.succeed .water { ResultFlags.clear with short := short, weak := !full } (some actual)

/-- R117 and R120: the RINSE demand is entered, unless the tub is at its high level, which completes the RINSE. -/
def State.rinseOrComplete (s : State) : State :=
  if s.highReached then s.regenComplete true else s.enterDemands .softener [.inlet]

/-- R120: the end of a pause of a REGENERATE. -/
def State.regenResume (s : State) : State :=
  match s.softener.phase with
  | .brine => s.enterDemands .softener [.inlet, .regen]
  | .rinse => s.rinseOrComplete
  | .none | .soak => s

/-- R115: BRINE ends. -/
def State.brineEnds (s : State) : State :=
  (s.withdrawAll .softener).modSoftener (fun f => { f with phase := .soak })

/-- R116: SOAK ends. -/
def State.soakEnds (s : State) : State :=
  (s.modSoftener (fun f => { f with phase := .rinse })).rinseOrComplete

/-- The step's actual value follows the phase counts (R115). -/
def State.regenActual (s : State) : State :=
  s.modHead .water (fun t => { t with actual := fit32 s.regenMl })

/-- R115, R117 and R119: the Softener takes a counted FLOW edge. -/
def State.regenEdge (s : State) : State :=
  let s0 :=
    if s.softener.phase ≠ .none ∧ s.energised .inlet = true ∧ s.demands .inlet .softener = true then
      s.modSoftener (fun f => { f with noFlow := s.timer 5000 })
    else s
  match s0.softener.phase with
  | .brine =>
    let s1 := (s0.modSoftener (fun f => { f with brine := f.brine + 1 })).regenActual
    if s1.softener.brine = s1.softener.brineTarget then s1.brineEnds else s1
  | .rinse =>
    let s1 := (s0.modSoftener (fun f => { f with rinse := f.rinse + 1 })).regenActual
    if s1.softener.rinse = s1.softener.rinseTarget then s1.regenComplete false else s1
  | .none | .soak => s0

/-- R117: the Softener takes an event of LEVEL_HIGH. -/
def State.softenerLevelHigh (s : State) (reached : Bool) : State :=
  if reached = true ∧ s.softener.phase = .rinse ∧ (s.lane .water).state = .running then s.regenComplete true else s

end Sys2Proof.Machine
end

