-- ==== Sys2Proof/Machine/RodReports.lean ====
section
/-! DEFINITION. What the Door Unit settles with the Step Engine: the rod at home, jams, restarts (R147 to R149, R151). -/

namespace Sys2Proof.Machine

/-- Whether the WATER lane's head is an AUTO_OPEN with a try in progress, which takes the Door Unit's reports (R108). -/
def State.autoOpenInTry (s : State) : Bool :=
  s.activeWork .water (fun w => decide (w = .autoOpen)) && (s.lane .water).tryInProgress

/-- R147 and R148: the errand is settled, and has no cause then (DESIGN CHOICE, log 40). -/
def State.errandDone (s : State) : State :=
  s.modDoor (fun d => { d with errand := .none, cause := none, report := .none })

/-- R108: the Door Unit reports a success of the try. -/
def State.rodSuccess (s : State) (flags : ResultFlags) (actual : Nat) : State :=
  if s.autoOpenInTry then s.succeed .water flags (some actual) else s

/-- R108: the Door Unit reports BLOCKED. -/
def State.rodBlocked (s : State) : State :=
  if s.autoOpenInTry then s.errandDone.failCounted .water .blocked else s.errandDone

/-- R147: a success with the recorded extend time; the mode becomes AJAR when DOOR reads OPEN. -/
def State.rodOpened (s : State) : State :=
  let s1 := s.errandDone.rodSuccess ResultFlags.clear s.door.extendTime
  if s.doorClosed then s1 else s1.setAjar true

/-- R149: the tests of a restart, with the rod HOME. -/
def State.rodRestart (s : State) : State :=
  if !s.doorClosed then
    if s.door.opened then s.rodOpened
    else s.errandDone.rodSuccess { ResultFlags.clear with alreadyOpen := true } 0
  else if s.levelWet || s.energised .heater then s.rodBlocked
  else
    s.modDoor (fun d =>
      { d with opened := false, report := .none, rod := .braking, drive := .brake, nextMove := .extend,
               deadTimer := s.timer 50 })

/-- R147: the retract ends at home, and the errand is settled. -/
def State.rodAtHome (s : State) : State :=
  let s1 := s.modDoor (fun d => { d with retractTimer := none, drive := .brake, rod := .home })
  match s.door.errand with
  | .none => s1
  | .homing => s1.errandDone.raiseRodState s.door .none
  | .opening =>
    match s.door.report with
    | .success => s1.rodOpened
    | .blocked => s1.rodBlocked
    | .restart => s1.rodRestart
    | .none => s1

/-- R148: the rod jams; the errand, then NONE, has no cause (DESIGN CHOICE, log 40). -/
def State.rodJam (s : State) (jam : JamCause) : State :=
  let s1 := s.modDoor (fun d =>
    { d with retractTimer := none, drive := .coast, rod := .jammed, jam := jam, nextMove := .none, report := .none })
  let s2 := if s.door.errand = .opening ∧ s1.autoOpenInTry = true then s1.failImmediate .water .rodFault else s1
  (s2.modDoor (fun d => { d with errand := .none, cause := none })).raiseRodState s.door jam

/-- R144, R145, R148: an event of ROD_OC to ASSERTED. -/
def State.rodOcAsserted (s : State) : State :=
  match s.door.rod with
  | .extending => s.modDoor (fun d => d.brakeToward s.now .retract .blocked)
  | .holding => s.endHold
  | .retracting => s.rodJam .overcurrent
  | .unknown | .home | .braking | .jammed => s

/-- R142 and R147: a retract begins; ROD_HOME reading CLOSED and ROD_OC asserted are met at once, in the order of the free value
(log 14). -/
def State.beginRetract (s : State) : State :=
  let s1 := s.modDoor (fun d =>
    { d with drive := .retract, rod := .retracting, nextMove := .none, retractTimer := s.timer 5000 })
  if s.pins.rodOc && (!s.homeClosed || Config.rodOcBeforeHome s.now) then s1.rodJam .overcurrent
  else if s.homeClosed then s1.rodAtHome
  else s1

/-- R147 and R149: the dead time ends. -/
def State.deadTimeEnds (s : State) : State :=
  let s1 := s.modDoor (fun d => { d with deadTimer := none })
  match s.door.nextMove with
  | .none => s1
  | .retract => s1.beginRetract
  | .extend =>
    if s.extendTerms then s1.beginExtend else s1.modDoor (fun d => d.brakeToward s.now .retract .blocked)

/-- R149: the end of the lane's pause, for an OPENING errand that waits for the supply. -/
def State.rodPauseEnd (s : State) : State :=
  if s.door.errand = .opening ∧ s.door.supplyHold = true then
    let s1 := s.modDoor (fun d => { d with supplyHold := false })
    if s.door.rod = .home then s1.rodRestart
    else s1.modDoor (fun d => { d with report := .restart, nextMove := .retract, deadTimer := s.timer 50 })
  else s

/-- R147 and R151: the Door Unit takes an event or settle report of ROD_HOME. -/
def State.doorUnitHome (s : State) (closed isEvent : Bool) : State :=
  if !isEvent && s.store.configured && decide (s.door.rod = .unknown) then s.lockHoming closed
  else if closed then
    if s.door.rod = .retracting then s.rodAtHome else s
  else if isEvent && decide (s.door.rod = .home) && decide (s.door.errand = .none) then s.startHoming .homeLost
  else s

end Sys2Proof.Machine
end

