-- ==== Sys2Proof/Machine/Kinds.lean ====
section
/-! DEFINITION. What each step kind does at the start of a try, at the end of a pause and at a pause (Chapters 6 to 9), and the start
attempt (R72 to R75), the pauses (R80, R81) and the start waits (R90). -/

namespace Sys2Proof.Machine

/-- R40: the diverter is set. -/
def State.setDiverter (s : State) (d : Diverter) : State := s.withGuard { s.guard with diverter := d }

/-! ### The start of a try -/

/-- What a kind does with its step at the start of each try, before its tests; `first` marks the step's first start. -/
def State.prepare (s : State) (l : Lane) (t : StepRec) (first : Bool) : State :=
  match t.work with
  | .fill target _ => if first then s.modHead l (fun t => { t with count := 0, countTarget := s.toCounts target }) else s
  | .drain _ => s.modHead l (fun t => { t with runOn := 0 })
  | .circulate _ position =>
    (if first then s.modHead l (fun t => { t with progress := 0 }) else s).setDiverter position
  | .heat _ position => s.setDiverter position
  | .pause _ => if first then s.modHead l (fun t => { t with progress := 0 }) else s
  | .regenerate _ => s
  | .autoOpen => s.modHead l (fun t => { t with autoOpenOn := s.autoOpenSetting })
  | .dose base agent =>
    let s1 := if first then s.withDose (some (s.newDose t.id base agent)) else s
    match s1.dosing.record with
    | none => s1
    | some r => s1.findClass r

/-- R92: the tests of a FILL. -/
def State.fillTests (s : State) (t : StepRec) (levelStop : Bool) : Outcome :=
  if t.countTarget ≤ t.count then .success ResultFlags.clear (some (s.toMl t.count))
  else if !levelStop then .run
  else
    match s.accepted .levelHigh with
    | none => .wait
    | some true => .success { ResultFlags.clear with short := true } (some (s.toMl t.count))
    | some false => .run

/-- R97: the tests of a DRAIN, whose only one is that of a run-on of 0. -/
def State.drainTests (s : State) (l : Lane) (runOn : Nat) : Outcome :=
  if runOn = 0 ∧ s.accepted .levelLow = some false then .success ResultFlags.clear (some (s.lane l).running) else .run

/-- R99: the tests of a CIRCULATE. -/
def State.circulateTests (s : State) : Outcome :=
  match s.accepted .levelLow with
  | none => .wait
  | some false => .counted .noWater
  | some true => .run

/-- R101: the tests of a HEAT. -/
def State.heatTests (s : State) (target : Nat) : Outcome :=
  match s.accepted .levelLow with
  | none => .wait
  | some false => .counted .noWater
  | some true =>
    match s.sampler.temp.status with
    | .sensorFault => .immediate .sensor
    | .noneYet | .noTable => .run
    | .valid =>
      match s.sampler.temp.value with
      | none => .run
      | some temp => if (target : Int) ≤ temp then .success ResultFlags.clear (some temp.toNat) else .run

/-- R105: the tests of a REGENERATE. -/
def State.regenTests (s : State) (force : Bool) : Outcome :=
  if !s.softener.pendingFlag && !force then .success { ResultFlags.clear with notNeeded := true } (some 0)
  else if s.accepted .levelHigh = some false then .run
  else .wait

/-- The start tests of a kind (R75). -/
def State.startTests (s : State) (l : Lane) (t : StepRec) : Outcome :=
  match t.work with
  | .fill _ levelStop => s.fillTests t levelStop
  | .drain runOn => s.drainTests l runOn
  | .circulate _ _ => s.circulateTests
  | .heat target _ => s.heatTests target
  | .pause _ => .run
  | .regenerate force => s.regenTests force
  | .autoOpen => s.autoOpenTests t
  | .dose _ _ =>
    match s.dosing.record with
    | none => .wait
    | some r => if r.computed then s.doseTests r else .wait

/-- R101: the reading of a HEAT that starts. -/
def State.heatReading (s : State) (l : Lane) : State :=
  match s.sampler.temp.status, s.sampler.temp.value with
  | .valid, some temp => s.modHead l (fun t => { t with lastTemp := some temp, actual := temp.toNat })
  | .valid, none | .noneYet, _ | .noTable, _ | .sensorFault, _ => s

/-- What a kind does when its try becomes running, apart from its demands. -/
def State.runSetup (s : State) (l : Lane) (w : Work) : State :=
  match w with
  | .heat _ _ => s.heatReading l
  | .regenerate _ => s.regenHandOver
  | .autoOpen => s.rodHandOver
  | .dose _ _ => s.setTryTarget
  | .fill _ _ | .drain _ | .circulate _ _ | .pause _ => s

/-- What a kind does when its try becomes running and is not paused: its demands (Table 6-1, R114, R130). -/
def State.enterKind (s : State) (w : Work) : State :=
  match w with
  | .fill _ _ => s.enterDemands .water [.inlet]
  | .drain _ => s.enterDemands .water [.drain]
  | .circulate _ _ => s.enterDemands .water [.circ]
  | .heat _ _ => s.enterDemands .water [.circ, .heater]
  | .pause _ => s
  | .regenerate _ => s.enterDemands .softener [.inlet, .regen]
  | .autoOpen => s
  | .dose _ _ => s.doseWork

/-- The try runs. -/
def State.runKind (s : State) (l : Lane) (w : Work) : State :=
  ((s.modLane l (fun r => { r with state := .running, waitCause := none })).runSetup l w).enterKind w

/-- R75: a try that begins with the door open begins with its outcome and is at once PAUSED with pause cause DOOR. -/
def State.pauseAtStart (s : State) (l : Lane) (fromWait : Bool) : State :=
  s.modLane l (fun r =>
    { r with state := .paused, waitCause := none, pauseDoor := true, pausedFromWait := fromWait, laneSettle := none })

/-- R75 and R90: the outcome of start tests is taken; `door` says that the try is to be paused by an open door. -/
def State.takeOutcome (s : State) (l : Lane) (w : Work) (door : Bool) (o : Outcome) : State :=
  match o with
  | .success flags actual => s.succeed l flags actual
  | .counted result => s.endCounted l result
  | .immediate result => s.failImmediate l result
  | .wait =>
    if door then s.pauseAtStart l true
    else s.modLane l (fun r => { r with state := .waiting, waitCause := some .start })
  | .run =>
    if door then
      ((s.modLane l (fun r => { r with state := .running, waitCause := none })).runSetup l w).pauseAtStart l false
    else s.runKind l w

/-- R75: a try begins. -/
def State.beginTry (s : State) (l : Lane) (t : StepRec) : State :=
  let s1 := s.modHead l (fun t => { t with status := .active, started := true })
  let s2 := s1.modLane l (fun r =>
    { r with state := .running, waitCause := none, running := 0, attemptDue := false })
  let s3 := (s2.endTest).prepare l t (!t.started)
  match s3.head l with
  | none => s3
  | some t3 => s3.takeOutcome l t3.work (t3.work.doorPauses && !s3.doorClosed) (s3.startTests l t3)

/-- R73: the consistency check of a HEAT. -/
def State.aboveCutoff (s : State) : Work → Bool
  | .heat target _ => decide (s.heaterCutoff < target)
  | .fill _ _ | .drain _ | .circulate _ _ | .pause _ | .regenerate _ | .autoOpen | .dose _ _ => false

/-- A lane becomes WAITING with a wait cause before a try (R72, R74). -/
def State.deferLane (s : State) (l : Lane) (cause : WaitCause) : State :=
  s.modLane l (fun r => { r with state := .waiting, waitCause := some cause, attemptDue := false })

/-- R73: the lane is HALTED. -/
def State.haltLane (s : State) (l : Lane) (t : StepRec) : State :=
  (s.modLane l (fun r => { r with state := .halted, waitCause := none, attemptDue := false })).raiseHalted l
    (s.notice .laneHalted l.number t.id 1)

/-- R72 to R75: the start attempt of a READY lane. -/
def State.attempt (s : State) (l : Lane) : State :=
  match s.head l with
  | none => s
  | some t =>
    if !s.supplyReady then s.deferLane l .supply
    else if s.guard.flood then s.failForGood l .flood
    else if s.guard.latched then s.failForGood l .fault
    else if s.aboveCutoff t.work then s.haltLane l t
    else if s.excluded l then s.deferLane l .exclusion
    else s.beginTry l t

/-- Whether a lane's start attempt is due (R72). -/
def State.attemptDue (s : State) (l : Lane) : Bool :=
  decide ((s.lane l).state = .ready) && (s.lane l).attemptDue

/-- R74: the DOSE lane's attempt comes after that of the WATER lane when both are due, one head a FILL and the other a DOSE. -/
def State.attemptInOrder (s : State) (l : Lane) : State :=
  match l with
  | .water => s.attempt .water
  | .dose =>
    if s.attemptDue .water && s.headIs .water (fun t => t.work.isFill) then
      let s1 := s.attempt .water
      if s1.attemptDue .dose then s1.attempt .dose else s1
    else s.attempt .dose

/-! ### Start waits (R90) -/

/-- R90: a kind in a start wait makes its tests again. -/
def State.retest (s : State) (l : Lane) : State :=
  if (s.lane l).startWait then
    match s.head l with
    | none => s
    | some t => s.takeOutcome l t.work false (s.startTests l t)
  else s

/-! ### Pauses (R80, R81) -/

/-- R80, R120, R135, R149: what a pause does to the work of the head's kind. -/
def State.pauseKind (s : State) (l : Lane) (supply : Bool) : State :=
  match s.head l with
  | none => s
  | some t =>
    match t.work with
    | .fill _ _ | .drain _ | .pause _ => s.withdrawAll .water
    | .circulate _ _ | .heat _ _ =>
      let s1 := s.withdrawAll .water
      s1.withEngine { s1.engine with waterDry := none }
    | .regenerate _ => s.withdrawAll .softener
    | .autoOpen => if supply then s.rodSupplyLost else s
    | .dose _ _ => s.dosePause supply

/-- R80: a pause cause reaches a lane; `supply` is SUPPLY against DOOR. -/
def State.addCause (s : State) (l : Lane) (supply : Bool) : State :=
  let r := s.lane l
  if r.tryInProgress && s.activeWork l (fun w => supply || w.doorPauses) then
    let s1 := s.modLane l (fun r =>
      { r with state := .paused, waitCause := none,
               pausedFromWait := if decide (r.state = .paused) then r.pausedFromWait else r.startWait,
               pauseDoor := r.pauseDoor || !supply, pauseSupply := r.pauseSupply || supply, laneSettle := none })
    s1.pauseKind l supply
  else s

/-- R80 and R81: a pause cause leaves; the settle timer starts when it was the last. -/
def State.removeCause (s : State) (l : Lane) (supply : Bool) : State :=
  let r := s.lane l
  if r.state = .paused ∧ (if supply then r.pauseSupply else r.pauseDoor) = true then
    let door := r.pauseDoor && supply
    let sup := r.pauseSupply && !supply
    s.modLane l (fun r =>
      { r with pauseDoor := door, pauseSupply := sup, laneSettle := if door || sup then none else s.timer 3000 })
  else s

/-- R94: a FILL stopped by LEVEL_HIGH; SHORT when its count is below its target. -/
def State.fillStopped (s : State) (t : StepRec) : State :=
  s.succeed .water { ResultFlags.clear with short := decide (t.count < t.countTarget) } (some (s.toMl t.count))

/-- R99, R100, R103: the dry window of a CIRCULATE or HEAT starts. -/
def State.startWaterDry (s : State) : State := s.withEngine { s.engine with waterDry := s.timer 2000 }

/-- R99 and R101: a CIRCULATE or HEAT that was running resumes: the demands, and the dry window when LEVEL_LOW reads DRY. -/
def State.resumePumping (s : State) (w : Work) : State :=
  let s1 := s.enterKind w
  if s1.levelWet then s1 else s1.startWaterDry

/-- R81: the end of a pause for the head's kind, which was running. -/
def State.resumeKind (s : State) (t : StepRec) : State :=
  match t.work with
  | .fill _ levelStop => if levelStop && s.highReached then s.fillStopped t else s.enterKind t.work
  | .circulate _ _ => s.resumePumping t.work
  | .heat _ _ => s.resumePumping t.work
  | .regenerate _ => s.regenResume
  | .autoOpen => s.rodPauseEnd
  | .drain _ | .pause _ | .dose _ _ => s.enterKind t.work

/-- R40, R99 and R101: a CIRCULATE or HEAT that resumes sets the diverter again. -/
def State.redivert (s : State) (l : Lane) : State :=
  match s.head l with
  | none => s
  | some t =>
    match t.work with
    | .circulate _ position => s.setDiverter position
    | .heat _ position => s.setDiverter position
    | .fill _ _ | .drain _ | .pause _ | .regenerate _ | .autoOpen | .dose _ _ => s

/-- R81 and R90: the pause ends; a step that left a start wait goes back to it and makes its start tests again.  A CIRCULATE or HEAT sets
the diverter again, whichever state it left (R40). -/
def State.pauseEnds (s : State) (l : Lane) : State :=
  let fromWait := (s.lane l).pausedFromWait
  let s1 := s.modLane l (fun r =>
    { r with laneSettle := none, pausedFromWait := false,
             state := if fromWait then .waiting else .running,
             waitCause := if fromWait then some .start else none })
  let s2 := (s1.endTest).redivert l
  if fromWait then s2.retest l
  else
    match s2.head l with
    | none => s2
    | some t => s2.resumeKind t

end Sys2Proof.Machine
end

