-- ==== Sys2Proof/Machine/Effects.lean ====
section
/-! DEFINITION. What the blocks do with the events handed to them: the flood and the latch (R43 to R48), supply changes (R12 to R14),
input events (R19, R21), temperature samples (R26), the actions (R53, R54, R57 to R60, R62). -/

namespace Sys2Proof.Machine

/-! ### The Output Guard (Chapter 3) -/

/-- R47: a flood starts. -/
def State.floodStarts (s : State) : State :=
  let s1 := (s.withGuard { s.guard with flood := true, floodStart := some s.now, floodClear := none }).putForced
  let s2 := s1.evaluate.cycleFault
  let s3 := (s2.guardReport .flood).withdrawActions
  s3.raiseToAll (s.notice .flood 0 0 0)

/-- R48: a flood ends; the notice carries its length in whole seconds. -/
def State.floodEnds (s : State) : State :=
  let began := s.guard.floodStart.getD s.now
  let s1 := (s.withGuard { s.guard with flood := false, floodStart := none, floodClear := none }).putForced
  s1.evaluate.raiseByClass (s.notice .floodEnd 0 0 ((s.now - began).toNat / 1000))

/-- R47 and R48: the Guard takes FLOAT, by an event or a settle report. -/
def State.guardFloat (s : State) (clear isEvent : Bool) : State :=
  if clear then
    (if isEvent && s.guard.flood then s.withGuard { s.guard with floodClear := s.timer 30000 } else s).evaluate
  else if s.guard.flood then
    (if isEvent then s.withGuard { s.guard with floodClear := none } else s).evaluate
  else s.floodStarts

/-- An output whose stuck-on fault latches, as an output (R43). -/
def LatchOutput.output : LatchOutput → Output
  | .inlet => .inlet
  | .heater => .heater

/-- R43: a stuck-on fault of INLET or HEATER. -/
def State.latchFault (s : State) (o : LatchOutput) : State :=
  let further := s.guard.latched
  let record : Option FaultRecord :=
    if further then s.guard.record.map (fun r => { r with further := true })
    else some { output := o, time := s.now, further := false }
  let s1 := s.withGuard { s.guard with
    latched := true, record := record, cleanCount := if further then s.guard.cleanCount else 0 }
  let s2 := (s1.startLatchDrain).evaluate.cycleFault
  let s3 := s2.raiseToAll (s.notice .faultLatched o.output.number (if further then 1 else 0) 0)
  s3.guardReport .fault

/-- R41 and R42: an OUTPUT_FAULT notice, with its mark in the cycle record (R170). -/
def State.outputFault (s : State) (o : Output) (kind : Nat) : State :=
  (s.cycleFault).raiseByClass (s.notice .outputFault o.number kind 0)

/-- R46: the latch drain that is due at the first READY after a warm reset. -/
def State.drainAtFirstReady (s : State) : State :=
  if s.guard.drainAtReady then (s.withGuard { s.guard with drainAtReady := false }).startLatchDrain else s

/-! ### Supply changes (R12 to R14) -/

/-- R72: a lane that waits on the supply returns to READY. -/
def State.supplyBack (s : State) (l : Lane) : State :=
  if (s.lane l).state = .waiting ∧ (s.lane l).waitCause = some .supply then s.modLane l LaneRec.toReady else s

/-- R72 and R80: the Step Engine takes a change of the supply, for WATER before DOSE (DESIGN CHOICE, log 37). -/
def State.engineSupply (s : State) (ready : Bool) : State :=
  if ready then
    let s1 := (s.removeCause .water true).supplyBack .water
    (s1.removeCause .dose true).supplyBack .dose
  else (s.addCause .water true).addCause .dose true

/-- A loss cause's number in SUPPLY_LOST (R14). -/
def LossCause.number : LossCause → Nat
  | .zeroCross => 1
  | .railOk => 2

/-- R14: what each receiver does with a change of the supply, `cause` being none at a change to READY. -/
def State.supplyTo (cause : Option LossCause) (r : Receiver) (s : State) : State :=
  match r with
  | .guard => (if cause.isNone then s.drainAtFirstReady else s).evaluate
  | .engine => s.engineSupply cause.isNone
  | .door => if cause.isNone then s.rodSupplyReady else s.rodSupplyLost
  | .ports =>
    match cause with
    | none => s.raiseByClass (s.notice .supplyReady 0 0 0)
    | some c => s.raiseByClass (s.notice .supplyLost c.number 0 0)
  | .softener | .cycle => s

/-- R12: the supply becomes READY. -/
def State.supplyBecomesReady (s : State) (order : List Receiver) : State :=
  deliver (State.supplyTo none) order Receiver.ofSupply (s.modTime (fun t => { t with supply := .ready, settle := none }))

/-- R13: the supply becomes LOST. -/
def State.supplyBecomesLost (s : State) (cause : LossCause) (order : List Receiver) : State :=
  deliver (State.supplyTo (some cause)) order Receiver.ofSupply
    (s.modTime (fun t => { t with supply := .lost, settle := none, lossCause := some cause }))

/-! ### Input events and settle reports (R19, R21) -/

/-- R80 and R90: the Step Engine takes DOOR, for WATER before DOSE (DESIGN CHOICE, log 37). -/
def State.engineDoor (s : State) (closed isEvent : Bool) : State :=
  let s1 :=
    if closed then (s.removeCause .water false).removeCause .dose false
    else if isEvent then (s.addCause .water false).addCause .dose false
    else s
  (s1.retest .water).retest .dose

/-- R97: an ACTIVE DRAIN takes LEVEL_LOW. -/
def State.drainLevel (s : State) (runOn : Nat) (wet isEvent : Bool) : State :=
  if wet then
    if isEvent then s.modHead .water (fun t => { t with runOn := 0 }) else s
  else if runOn = 0 ∧ (s.lane .water).tryInProgress = true then
    s.succeed .water ResultFlags.clear (some (s.lane .water).running)
  else s

/-- R100 and R103: a RUNNING CIRCULATE or HEAT takes an event of LEVEL_LOW. -/
def State.pumpingLevel (s : State) (wet isEvent : Bool) : State :=
  if isEvent && decide ((s.lane .water).state = .running) then
    if wet then s.withEngine { s.engine with waterDry := none } else s.startWaterDry
  else s

/-- R97, R100, R103: the WATER lane's head takes LEVEL_LOW. -/
def State.waterLevelLow (s : State) (wet isEvent : Bool) : State :=
  if (s.lane .water).startWait then s.retest .water
  else
    match s.head .water with
    | none => s
    | some t =>
      if t.status ≠ .active then s
      else
        match t.work with
        | .drain runOn => s.drainLevel runOn wet isEvent
        | .circulate _ _ => s.pumpingLevel wet isEvent
        | .heat _ _ => s.pumpingLevel wet isEvent
        | .fill _ _ | .pause _ | .regenerate _ | .autoOpen | .dose _ _ => s

/-- R131 and R134: the DOSE lane's head takes LEVEL_LOW. -/
def State.doseLevelLow (s : State) (wet isEvent : Bool) : State :=
  if (s.lane .dose).startWait then s.retest .dose
  else if isEvent && decide ((s.lane .dose).state = .running) then
    if wet then
      let s1 := s.modDose (fun r => { r with dry := none })
      match s1.dosing.record with
      | none => s1
      | some r => if r.phase = .idle then s1.strokeDue else s1
    else s.startDoseDry
  else s

/-- R94 and R105: the Step Engine takes LEVEL_HIGH, for WATER before DOSE (DESIGN CHOICE, log 37). -/
def State.engineLevelHigh (s : State) (reached : Bool) : State :=
  let s1 :=
    if (s.lane .water).startWait then s.retest .water
    else if reached = true ∧ (s.lane .water).state = .running then
      match s.head .water with
      | none => s
      | some t =>
        match t.work with
        | .fill _ levelStop => if levelStop then s.fillStopped t else s
        | .drain _ | .circulate _ _ | .heat _ _ | .pause _ | .regenerate _ | .autoOpen | .dose _ _ => s
    else s
  s1.retest .dose

/-- The Step Engine takes an input event or settle report (Table 2-2).  Where it ends the start waits of both lanes, as a settle report of
LEVEL_LOW can fail a CIRCULATE and a DOSE by R79, the spec orders no lane first; WATER comes before DOSE, and its STEP notice is entered
first (DESIGN CHOICE, log 37). -/
def State.engineInput (s : State) (i : Input) (level isEvent : Bool) : State :=
  match i with
  | .door => s.engineDoor level isEvent
  | .levelLow => (s.waterLevelLow level isEvent).doseLevelLow level isEvent
  | .levelHigh => s.engineLevelHigh level
  | .float | .saltLow | .rodHome => s

/-- The Door Unit takes an input event or settle report (Table 2-2). -/
def State.doorUnitInput (s : State) (i : Input) (level isEvent : Bool) : State :=
  match i with
  | .door => s.doorUnitDoor level isEvent
  | .levelLow => if level && isEvent then s.extendGuard else s
  | .rodHome => s.doorUnitHome (!level) isEvent
  | .levelHigh | .float | .saltLow => s

/-- R19: an INPUT_CHANGED notice, for the ports whose input mask holds the input (R158). -/
def State.raiseInputChanged (s : State) (i : Input) (level : Bool) : State :=
  s.enterFor
    (portsWhere (fun p => (s.port p).classes.getLsbD 1 && (s.port p).inputMask.getLsbD (i.number - 1)))
    (s.notice .inputChanged i.number 0 (if level then 1 else 0))

/-- R19 and R21: what each receiver does with an input event, or with a settle report, which raises no notice. -/
def State.inputTo (i : Input) (level isEvent : Bool) (r : Receiver) (s : State) : State :=
  match r with
  | .guard =>
    match i with
    | .float => s.guardFloat level isEvent
    | .door | .levelLow | .levelHigh | .saltLow | .rodHome => s.evaluate
  | .engine => s.engineInput i level isEvent
  | .softener => if i = .levelHigh ∧ isEvent = true then s.softenerLevelHigh level else s
  | .door => s.doorUnitInput i level isEvent
  | .ports => if isEvent then s.raiseInputChanged i level else s
  | .cycle => s

/-! ### Temperature samples (R26) -/

/-- R102: the step of the WATER lane takes a temperature sample. -/
def State.heatSample (s : State) : State :=
  if (s.lane .water).state ≠ .running then s
  else
    match s.head .water with
    | none => s
    | some t =>
      match t.work with
      | .heat target _ =>
        match s.sampler.temp.status, s.sampler.temp.value with
        | .valid, some temp =>
          if (target : Int) ≤ temp then s.succeed .water ResultFlags.clear (some temp.toNat)
          else s.modHead .water (fun t => { t with lastTemp := some temp, actual := temp.toNat })
        | .sensorFault, _ => s.failImmediate .water .sensor
        | .valid, none | .noneYet, _ | .noTable, _ => s
      | .fill _ _ | .drain _ | .circulate _ _ | .pause _ | .regenerate _ | .autoOpen | .dose _ _ => s

/-- R26: what each receiver does with a temperature sample; `kind` is the notice of R25, if the sample gives one. -/
def State.sampleTo (kind : Option NoticeKind) (code : Code) (r : Receiver) (s : State) : State :=
  match r with
  | .guard => s.evaluate
  | .engine => s.heatSample
  | .cycle =>
    match s.sampler.temp.status, s.sampler.temp.value with
    | .valid, some temp => s.cyclePeak temp
    | .valid, none | .noneYet, _ | .noTable, _ | .sensorFault, _ => s
  | .ports =>
    match kind with
    | none => s
    | some k => s.raiseByClass (s.notice k 0 0 code.toNat)
  | .softener | .door => s

/-! ### The Action Table (Chapter 4) -/

/-- R85: a resume takes a HELD lane to READY with its head, or to IDLE. -/
def State.resumeHeld (s : State) (l : Lane) : State :=
  if (s.lane l).state = .held then
    s.modLane l (fun r => if r.queue.isEmpty then { r with state := .idle } else r.toReady)
  else s

/-- The output and the direction of an output action (R53). -/
def Action.demand : Action → Option (Output × Bool)
  | .drainOn => some (.drain, true)
  | .drainOff => some (.drain, false)
  | .circOn => some (.circ, true)
  | .circOff => some (.circ, false)
  | .auxOn => some (.aux, true)
  | .auxOff => some (.aux, false)
  | .diverterSet | .sampleTurbidity | .resumeLane | .notify => none

/-- R58: one entry's part of the net change of the demand sets and of the diverter. -/
def State.actionDemand (s : State) (e : ActionEntry) : State :=
  match e.action.demand with
  | some (o, v) => s.putDemand .action v o
  | none =>
    if e.action = .diverterSet then
      match diverterOf e.arg.toNat with
      | some d => s.setDiverter d
      | none => s
    else s

/-- R54: one entry's request of a sample or of a resume. -/
def State.actionHandOn (s : State) (e : ActionEntry) : State :=
  match e.action with
  | .sampleTurbidity => s.requestSample (if e.notify then some e.owner else none) false
  | .resumeLane =>
    match laneOf e.arg.toNat with
    | some l => s.resumeHeld l
    | none => s
  | .drainOn | .drainOff | .circOn | .circOff | .auxOn | .auxOff | .diverterSet | .notify => s

/-- R60: whether an executed entry raises ACTION_DUE. -/
def ActionEntry.raisesDue (e : ActionEntry) : Bool :=
  match e.action with
  | .notify => true
  | .sampleTurbidity => false
  | .drainOn | .drainOff | .circOn | .circOff | .auxOn | .auxOff | .diverterSet | .resumeLane => e.notify

/-- R54 and R60: one entry is handed on, and then raises its notice. -/
def State.executeEntry (s : State) (slot : Nat) (e : ActionEntry) : State :=
  let s1 := s.actionHandOn e
  if e.raisesDue then s1.enterFor [e.owner] (s.notice .actionDue slot e.action.number e.arg.toNat) else s1

/-- R57 and R58: a due set, in ascending slot order, is executed as one event. -/
def State.executeSet (s : State) (entries : List (Nat × ActionEntry)) : State :=
  let s1 := (entries.foldl (fun s e => s.actionDemand e.2) s).evaluate
  entries.foldl (fun s e => s.executeEntry e.1 e.2) s1

/-- The entries of a table that satisfy a test, with their slots, in slot order; slots are counted from `slot`. -/
def entriesWhere (f : ActionEntry → Bool) : Nat → List (Option ActionEntry) → List (Nat × ActionEntry)
  | _, [] => []
  | slot, none :: rest => entriesWhere f (slot + 1) rest
  | slot, some e :: rest => if f e then (slot, e) :: entriesWhere f (slot + 1) rest else entriesWhere f (slot + 1) rest

/-- A table without the entries that satisfy a test. -/
def dropEntries (f : ActionEntry → Bool) (table : List (Option ActionEntry)) : List (Option ActionEntry) :=
  table.map (fun slot =>
    match slot with
    | none => none
    | some e => if f e then none else some e)

/-- The counter of a reference (R52). -/
def State.counter (s : State) : CounterRef → Word
  | .time => s.time.clock
  | .flow => s.time.flow

/-- R57: whether an entry is due on a counter. -/
def State.entryDue (s : State) (r : CounterRef) (e : ActionEntry) : Bool :=
  decide (e.ref = r) && reached (s.counter r) e.target

/-- R62: whether an entry is a resume entry of this owner for this lane. -/
def resumeEntryOf (owner : Port) (l : Lane) (e : ActionEntry) : Bool :=
  decide (e.owner = owner) && decide (e.action = .resumeLane) && decide (e.arg.toNat = l.number)

/-- R62: a change of a lane's holder removes the resume entries of the former holder. -/
def State.dropResume (s : State) (l : Lane) (former : Option Port) : State :=
  match former with
  | none => s
  | some p =>
    let removed := entriesWhere (resumeEntryOf p l) 0 s.actions
    let s1 := s.withActions (dropEntries (resumeEntryOf p l) s.actions)
    removed.foldl
      (fun u e =>
        if (u.port p).classes.getLsbD 2 then u.enterFor [p] (s.notice .actionDropped e.1 9 l.number) else u)
      s1

end Sys2Proof.Machine
end

