-- ==== Sys2Proof/Machine/Wire.lean ====
section
/-! DEFINITION. The payloads of replies (Chapter 12): fields, records, and the content streams of the READ requests (R173). -/

namespace Sys2Proof.Machine

/-! ### Fields (R172) -/

/-- R172: a quantity in a field of so many bytes, the most significant byte first. -/
def be : Nat → Nat → List Byte
  | 0, _ => []
  | w + 1, n => be w (n / 256) ++ [BitVec.ofNat 8 n]

/-- A flag in a byte of its own; set is 1. -/
def flagBytes (b : Bool) : List Byte := [if b then 1 else 0]

/-- A number in one byte. -/
def numByte (n : Nat) : List Byte := be 1 n

/-- A 4-byte quantity (R172); one of 2^32 or more reads as the free value (log 12). -/
def quantity (n : Nat) : List Byte := be 4 (fit32 n)

/-- A run-clock or flow-counter value. -/
def wordBytes (w : Word) : List Byte := be 4 w.toNat

/-- R172: a field that may be none. -/
def optField (width : Nat) : Option Nat → List Byte
  | none => 0 :: List.replicate width 0
  | some v => 1 :: be width v

/-- A time that may be none. -/
def optTime (t : Option Word) : List Byte := optField 4 (t.map BitVec.toNat)

/-- R172: a temperature, in two's complement. -/
def tempNat (t : Int) : Nat := (BitVec.ofInt 16 t).toNat

/-- R172: the level of a filtered input, 2 for UNSETTLED. -/
def levelBytes : Option Bool → List Byte
  | none => [2]
  | some true => [1]
  | some false => [0]

/-- Whether a timer runs. -/
def timerBytes (t : Timer) : List Byte := flagBytes t.isSome

/-! ### Numbers of enumerations (R172) -/

/-- Table 12-10. -/
def Status.number : Status → Nat
  | .ok => 0x00
  | .clamped => 0x01
  | .badFrame => 0x02
  | .unknownRequest => 0x03
  | .badField => 0x04
  | .notPermitted => 0x05
  | .notReady => 0x06
  | .notHolder => 0x07
  | .heldByOther => 0x08
  | .laneBusy => 0x09
  | .queueFull => 0x0A
  | .tableFull => 0x0B
  | .notFound => 0x0C
  | .notOwner => 0x0D
  | .locked => 0x0E
  | .tooEarly => 0x0F
  | .wrongState => 0x10

/-- Table 12-8. -/
def NoticeKind.code : NoticeKind → Nat
  | .stepDone => 0x01
  | .stepFailed => 0x02
  | .laneHalted => 0x03
  | .inputChanged => 0x10
  | .strayFlow => 0x11
  | .tempFault => 0x12
  | .tempOk => 0x13
  | .doorMode => 0x14
  | .rodState => 0x15
  | .turbidityDone => 0x20
  | .actionDue => 0x21
  | .actionDropped => 0x22
  | .regenPending => 0x30
  | .regenDone => 0x31
  | .stock => 0x32
  | .supplyReady => 0x40
  | .supplyLost => 0x41
  | .flood => 0x42
  | .floodEnd => 0x43
  | .faultLatched => 0x44
  | .outputFault => 0x45
  | .settingChanged => 0x50

/-- R9, in the order listed. -/
def StrayState.number : StrayState → Nat
  | .disarmed => 0
  | .watching => 1
  | .reported => 2
  | .passive => 3

/-- Table 5-1. -/
def LaneState.number : LaneState → Nat
  | .idle => 0
  | .ready => 1
  | .running => 2
  | .waiting => 3
  | .retryWait => 4
  | .paused => 5
  | .held => 6
  | .stalled => 7
  | .halted => 8

/-- R65, in the order listed. -/
def WaitCause.number : WaitCause → Nat
  | .supply => 0
  | .exclusion => 1
  | .start => 2

/-- Table 12-5. -/
def StepStatus.number : StepStatus → Nat
  | .queued => 0
  | .active => 1
  | .done => 2
  | .failed => 3

/-- Section 12.3.1. -/
def Manner.number : Manner → Nat
  | .done => 0
  | .failed => 1
  | .skipped => 2
  | .flushed => 3

/-- R109, in the order listed. -/
def RegenPhase.number : RegenPhase → Nat
  | .none => 0
  | .brine => 1
  | .soak => 2
  | .rinse => 3

/-- R126, in the order listed. -/
def StrokePhase.number : StrokePhase → Nat
  | .idle => 0
  | .on => 1
  | .off => 2

/-- R140, in the order listed. -/
def Drive.number : Drive → Nat
  | .extend => 0
  | .retract => 1
  | .brake => 2
  | .coast => 3

/-- R140, in the order listed. -/
def Errand.number : Errand → Nat
  | .none => 0
  | .opening => 1
  | .homing => 2

/-- R140, in the order listed. -/
def HomingCause.number : HomingCause → Nat
  | .profileLock => 0
  | .clearFault => 1
  | .homeLost => 2
  | .tryEnd => 3

/-- R140, in the order listed. -/
def NextMove.number : NextMove → Nat
  | .none => 0
  | .retract => 1
  | .extend => 2

/-- R140, in the order listed. -/
def RodReport.number : RodReport → Nat
  | .none => 0
  | .success => 1
  | .blocked => 2
  | .restart => 3

/-- R169, in the order listed. -/
def CycleState.number : CycleState → Nat
  | .none => 0
  | .open => 1
  | .closed => 2
  | .interrupted => 3

/-- R171, in the order listed. -/
def ResetKind.number : ResetKind → Nat
  | .powerOn => 0
  | .resetLine => 1
  | .resetRequest => 2

/-- The loss cause in READ TIME BASE (R16), after a presence byte for none: ZERO_CROSS 0 and RAIL_OK 1, as R172 numbers an enumeration that
may be none.  R16 lists none first, and the subjects 1 and 2 of R14 could be given numbers too (DESIGN CHOICE, log 11). -/
def LossCause.index : LossCause → Nat
  | .zeroCross => 0
  | .railOk => 1

/-- Section 2.5, in the order listed: VALID, INVALID. -/
def TempStatus.validity : TempStatus → Nat
  | .valid => 0
  | .noneYet | .noTable | .sensorFault => 1

/-- Section 2.5: the reason when INVALID, in the order listed. -/
def TempStatus.reason : TempStatus → Option Nat
  | .valid => none
  | .noneYet => some 0
  | .noTable => some 1
  | .sensorFault => some 2

/-- R20, in the order listed: ASSERTED, RELEASED (log 11). -/
def rodOcBytes (asserted : Bool) : List Byte := numByte (if asserted then 0 else 1)

/-! ### Frames and pages -/

/-- R155: the frame that a slot shifts out. -/
def Reply.frame (r : Reply) : List Byte :=
  frameBytes (BitVec.ofNat 8 r.status.number) r.tag r.payload

/-- R154: the bytes on MISO in an exchange of `n` bytes: the frame that the slot holds at its start, then 00H. -/
def State.shiftsOut (s : State) (p : Port) (n : Nat) : List Byte :=
  let frame := (s.port p).reply.frame
  frame.take n ++ List.replicate (n - frame.length) 0

/-- R154: the bits on MISO in an exchange of `n` bits, the most significant bit of each byte first. -/
def State.misoBits (s : State) (p : Port) (n : Nat) : List Bool :=
  ((s.shiftsOut p ((n + 7) / 8)).flatMap bitsOf).take n

/-- R173: the answer that a page of a content stream gives. -/
def State.sayPage (s : State) (page : Nat) (stream : List Byte) : Answer :=
  let last := (stream.length - 1) / 26
  if last < page then s.say .badField (numByte last)
  else s.say .ok (numByte page ++ numByte last ++ (stream.drop (26 * page)).take 26)

/-! ### Records -/

/-- Table 12-4: the parameter field of a step record. -/
def Work.parameters : Work → List Byte
  | .fill target levelStop => be 2 target ++ flagBytes levelStop ++ [0]
  | .drain runOn => be 2 runOn ++ [0, 0]
  | .circulate duration position => be 2 duration ++ numByte position.number ++ [0]
  | .heat target position => be 2 target ++ numByte position.number ++ [0]
  | .pause duration => be 2 duration ++ [0, 0]
  | .regenerate force => flagBytes force ++ [0, 0, 0]
  | .autoOpen => [0, 0, 0, 0]
  | .dose base agent => be 2 base ++ numByte agent.number ++ [0]

/-- A bit of a packed byte. -/
def bitOf (b : Bool) (i : Nat) : Nat := if b then 2 ^ i else 0

/-- Table 12-5: the flags byte of a result. -/
def ResultFlags.packed (f : ResultFlags) : Nat :=
  bitOf f.short 0 + bitOf f.notNeeded 1 + bitOf f.alreadyOpen 2 + bitOf f.disabled 3 + bitOf f.shortSupply 4 + bitOf f.weak 5

/-- Table 12-5: a step record. -/
def StepRec.bytes (t : StepRec) (l : Lane) : List Byte :=
  be 2 t.id ++ numByte t.work.number ++ t.work.parameters ++ numByte t.tries
    ++ numByte (bitOf t.hold 0 + bitOf t.notify 1 + bitOf t.started 2) ++ be 2 t.limit ++ numByte t.status.number
    ++ numByte t.result.number ++ numByte t.triesUsed ++ be 4 t.actual ++ numByte t.flags.packed ++ optTime t.endTime
    ++ numByte l.number

/-- Section 12.3.1: the last-result record, empty or not. -/
def lastBytes (l : Lane) : Option LastResult → List Byte
  | none => 0 :: List.replicate 26 0
  | some r => 1 :: (r.step.bytes l ++ numByte r.manner.number)

/-- Table 12-7: a notice record. -/
def Notice.bytes (n : Notice) : List Byte :=
  numByte n.kind.code ++ [n.subject] ++ be 2 n.reference.toNat ++ wordBytes n.value ++ wordBytes n.time

/-- A reference's number (R55). -/
def CounterRef.number : CounterRef → Nat
  | .time => 0
  | .flow => 1

/-- Table 12-9: an action entry. -/
def ActionEntry.bytes (e : ActionEntry) : List Byte :=
  numByte (128 + e.owner.number + 16 * e.ref.number + bitOf e.notify 5) ++ wordBytes e.target ++ numByte e.action.number
    ++ [e.arg]

/-- Table 12-9: a slot. -/
def slotBytes : Option ActionEntry → List Byte
  | none => List.replicate 7 0
  | some e => e.bytes

/-! ### Content streams (R173) -/

/-- R16; the level of RAIL_OK, which is no filtered input, is 1 for high and 0 for low, and the loss cause is a presence byte and its index
(DESIGN CHOICE, log 11). -/
def State.streamTimeBase (s : State) : List Byte :=
  let t := s.time
  wordBytes t.clock ++ wordBytes t.flow ++ numByte (if t.edgeMode = .both then 1 else 0) ++ wordBytes t.mark
    ++ quantity s.pendingCount ++ numByte t.stray.number ++ quantity t.strayCount
    ++ numByte (if t.supply = .ready then 0 else 1) ++ numByte (if t.zcPresent then 0 else 1) ++ flagBytes s.pins.railOk
    ++ timerBytes t.settle ++ optField 1 (t.lossCause.map LossCause.index)

/-- R22: one filtered input; its raw pin level is 1 where its accepted level would be (DESIGN CHOICE, log 11). -/
def State.streamInput (s : State) (i : Input) : List Byte :=
  let f := s.inputs.get i
  levelBytes f.accepted ++ flagBytes (s.pins.level i) ++ timerBytes f.debounce ++ optTime f.lastEvent

/-- R22; the level of a sense line is 1 for on and 0 for off (DESIGN CHOICE, log 11). -/
def State.streamInputs (s : State) : List Byte :=
  s.streamInput .door ++ s.streamInput .levelLow ++ s.streamInput .levelHigh ++ s.streamInput .float
    ++ s.streamInput .saltLow ++ s.streamInput .rodHome ++ rodOcBytes s.pins.rodOc
    ++ flagBytes s.pins.inletSn ++ flagBytes s.pins.heaterSn ++ flagBytes s.pins.drainSn ++ flagBytes s.pins.circSn
    ++ flagBytes s.pins.doseDSn ++ flagBytes s.pins.doseRSn

/-- The number of entries in the requester list (R33). -/
def Turbidity.entries (t : Turbidity) : Nat :=
  t.portReq.a.toNat + t.portReq.b.toNat + t.portReq.c.toNat + t.doseReq.toNat

/-- R33; the turbidity code and its time have a presence byte each (DESIGN CHOICE, log 11). -/
def State.streamSamples (s : State) : List Byte :=
  let t := s.sampler.temp
  let u := s.sampler.turb
  optField 2 (t.value.map tempNat) ++ numByte t.status.validity ++ optField 1 t.status.reason
    ++ optField 2 (t.code.map BitVec.toNat) ++ optTime t.sampleTime ++ optTime t.validTime ++ flagBytes u.lit
    ++ numByte u.entries ++ optField 2 (u.code.map BitVec.toNat) ++ optTime u.codeTime ++ numByte u.soilClass
    ++ flagBytes u.sampled

/-- R38 and R50: MAINS_RELAY, whose one source is the standing demand of the Guard (Table 3-1), always in its set. -/
def State.streamRelay (s : State) : List Byte :=
  flagBytes true ++ flagBytes (s.permit .mainsRelay) ++ flagBytes (s.energised .mainsRelay)

/-- R50: one output that other sources demand (Table 3-1); a source that never names it is a clear flag (log 11). -/
def State.streamOutput (s : State) (o : Output) : List Byte :=
  let d := (s.out o).demands
  flagBytes d.water ++ flagBytes d.dose ++ flagBytes d.softener ++ flagBytes d.action ++ flagBytes d.test
    ++ flagBytes d.forced ++ flagBytes (s.permit o) ++ flagBytes (s.energised o)

/-- R50: one checked output. -/
def State.streamCheck (s : State) (o : Checked) : List Byte :=
  let c := s.guard.checks.get o
  flagBytes (s.pins.sense o.line) ++ timerBytes c.stuckOn ++ timerBytes c.stuckOff ++ flagBytes c.onMark
    ++ flagBytes c.offMark

/-- R50: the fault record; its kind STUCK_ON is the only one and is sent as 0. -/
def recordBytes : Option FaultRecord → List Byte
  | none => List.replicate 8 0
  | some r => 1 :: (numByte r.output.output.number ++ [0] ++ wordBytes r.time ++ flagBytes r.further)

/-- R50; the test is the output after a presence byte, and then the timer's flag whether or not a test runs (DESIGN CHOICE, log 11). -/
def State.streamOutputs (s : State) : List Byte :=
  let g := s.guard
  s.streamRelay ++ s.streamOutput .inlet ++ s.streamOutput .regen ++ s.streamOutput .heater
    ++ s.streamOutput .drain ++ s.streamOutput .circ ++ s.streamOutput .doseD ++ s.streamOutput .doseR
    ++ s.streamOutput .aux
    ++ s.streamCheck .inlet ++ s.streamCheck .heater ++ s.streamCheck .drain ++ s.streamCheck .circ
    ++ numByte g.diverter.number ++ flagBytes g.flood ++ optTime g.floodStart ++ timerBytes g.floodClear
    ++ flagBytes g.latched ++ recordBytes g.record ++ quantity g.cleanCount ++ timerBytes g.latchDrain
    ++ optField 1 (g.test.map Output.number) ++ timerBytes g.testTimer

/-- R63 and R173: 121 bytes. -/
def State.streamActions (s : State) : List Byte :=
  s.actions.flatMap slotBytes ++ wordBytes s.time.clock ++ wordBytes s.time.flow
    ++ numByte (bitOf (s.demands .drain .action) 0 + bitOf (s.demands .circ .action) 1 + bitOf (s.demands .aux .action) 2)

/-- R87.  In every lane state the wait cause, after its presence byte, and both pause causes, as a flag byte for DOOR and one for SUPPLY, are
sent; a lane with no head sends 0 as its head's tries used (DESIGN CHOICE, log 11). -/
def State.streamLane (s : State) (l : Lane) : List Byte :=
  let r := s.lane l
  numByte r.state.number ++ optField 1 (r.waitCause.map WaitCause.number) ++ flagBytes r.pauseDoor
    ++ flagBytes r.pauseSupply ++ optField 1 (r.holder.map Port.number) ++ flagBytes r.holdAfter
    ++ numByte r.queue.length
    ++ r.queue.flatMap (fun t => be 2 t.id ++ numByte t.work.number ++ numByte t.status.number)
    ++ numByte ((r.queue.head?.map StepRec.triesUsed).getD 0) ++ quantity r.running ++ timerBytes r.retry
    ++ timerBytes r.laneSettle ++ be 2 r.nextId ++ lastBytes l r.last ++ optField 4 (s.engine.refVolume.map fit32)

/-- R123; r_bp and the residual hardness take 2 bytes after a presence byte each (DESIGN CHOICE, log 11). -/
def State.streamSoftener (s : State) : List Byte :=
  let f := s.softener
  numByte f.valid.toNat ++ quantity f.remaining ++ quantity f.tally
    ++ optField 2 (if s.store.configured then some s.resinBp else none)
    ++ optField 2 (if s.store.configured then some s.residual else none)
    ++ flagBytes f.pendingFlag ++ numByte f.phase.number ++ quantity f.brine ++ quantity f.soak ++ quantity f.rinse
    ++ quantity f.brineTarget ++ quantity f.rinseTarget ++ timerBytes f.noFlow ++ quantity f.exempt
    ++ levelBytes (s.accepted .saltLow)

/-- R139: the value of a held write: the stored value of a SET STOCK, the request's value of a LOAD ACCOUNTS (DESIGN CHOICE, log 39). -/
def HeldWrite.value : HeldWrite → Nat
  | .set stored => stored
  | .load value => value

/-- R139: one stock account; a held write is a presence byte and its value, without its kind (DESIGN CHOICE, log 11). -/
def StockAccount.bytes (a : StockAccount) : List Byte :=
  numByte a.valid.toNat ++ quantity a.stock ++ numByte a.level.number ++ quantity a.tally
    ++ optField 4 (a.held.map HeldWrite.value)

/-- R139: the fields of a dose record; a factor in per mille and the hardness Hr take 2 bytes each, Hr after a presence byte that is 00H
for RINSE (DESIGN CHOICE, log 11). -/
def DoseRec.bytes (r : DoseRec) : List Byte :=
  numByte r.agent.number ++ be 2 r.stepId ++ numByte r.computed.toNat ++ quantity r.vr ++ optField 2 r.hr
    ++ optField 1 r.soilClass ++ be 2 r.fv ++ be 2 r.fh ++ be 2 r.fs ++ quantity r.d1 ++ quantity r.d2 ++ quantity r.d3
    ++ quantity r.dose ++ be 2 r.strokes ++ be 2 r.delivered ++ be 2 r.tryTarget ++ numByte r.phase.number

/-- R139: the timers and the feedback flag of a stroke in ON, which is sent clear outside ON (DESIGN CHOICE, log 11). -/
def DoseRec.timers (r : DoseRec) : List Byte :=
  timerBytes r.onTimer ++ timerBytes r.offTimer ++ timerBytes r.dry ++ flagBytes (decide (r.phase = .on) && r.feedback)

/-- R139: the dose record with its timers and flag after a presence byte, or none, which is zeros (DESIGN CHOICE, log 11). -/
def doseBytes : Option DoseRec → List Byte
  | none => 0 :: List.replicate 46 0
  | some r => 1 :: (r.bytes ++ r.timers)

/-- R139. -/
def State.streamDosing (s : State) : List Byte :=
  (s.account .detergent).bytes ++ (s.account .rinse).bytes ++ doseBytes s.dosing.record

/-- R153; the cause of the errand is absent while the errand is no HOMING (DESIGN CHOICE, log 40); which of the
four timers run is four flag bytes, in the order of R140 (DESIGN CHOICE, log 11). -/
def State.streamDoor (s : State) : List Byte :=
  let d := s.door
  levelBytes d.position ++ flagBytes d.ajar ++ numByte d.rod.number ++ numByte d.drive.number ++ numByte d.errand.number
    ++ optField 1 (d.cause.map HomingCause.number) ++ numByte d.nextMove.number ++ numByte d.report.number
    ++ flagBytes d.opened ++ quantity d.extendTime ++ flagBytes d.supplyHold ++ numByte d.jam.number
    ++ timerBytes d.extendTimer ++ timerBytes d.holdTimer ++ timerBytes d.retractTimer ++ timerBytes d.deadTimer
    ++ levelBytes (s.accepted .rodHome) ++ rodOcBytes s.pins.rodOc

/-- R163.  Chapter 12 gives no layout for these fields; they are (DESIGN CHOICE, log 11): the rights as eight flag bytes in the order of
Table 10-4; the subscription classes and the input mask each as one packed byte, as SUBSCRIBE carries them; the held set as a count byte
and the kinds' codes; the lanes it holds as two flag bytes, WATER and then DOSE. -/
def State.streamPort (s : State) (p : Port) : List Byte :=
  let r := s.port p
  flagBytes r.rights.query ++ flagBytes r.rights.profile ++ flagBytes r.rights.lane ++ flagBytes r.rights.action
    ++ flagBytes r.rights.settings ++ flagBytes r.rights.refill ++ flagBytes r.rights.accounts
    ++ flagBytes r.rights.service
    ++ numByte r.classes.toNat ++ numByte r.inputMask.toNat ++ numByte r.threshold ++ numByte r.queue.length
    ++ numByte r.held.length ++ r.held.flatMap (fun n => numByte n.kind.code) ++ flagBytes r.lost
    ++ flagBytes r.attention ++ flagBytes (decide ((s.lane .water).holder = some p))
    ++ flagBytes (decide ((s.lane .dose).holder = some p))

/-- R171: the 38 fields, each with its written flag, and the reset cause record. -/
def State.streamProfile (s : State) : List Byte :=
  let t := s.store
  flagBytes t.configured
    ++ t.profile.flatMap (fun v => optField 4 (v.map (fun i => (BitVec.ofInt 32 i).toNat)))
    ++ numByte t.lastRefused ++ numByte t.resetKind.number ++ numByte t.warmCount

/-- R171: the 18 settings. -/
def State.streamSettings (s : State) : List Byte := s.store.settings.flatMap quantity

/-- R170: the cycle record, with the heater-on time also in whole seconds.  Chapter 12 gives no width for the full and weak regeneration
counts, which R170 holds at 65535 at most; each is 2 bytes (DESIGN CHOICE, log 11). -/
def State.streamCycle (s : State) : List Byte :=
  let c := s.store.cycle
  be 2 c.number ++ numByte c.state.number ++ optTime c.start ++ optTime c.endTime ++ quantity c.water
    ++ quantity c.detergent ++ quantity c.rinse ++ quantity c.heaterMs ++ be 2 c.full ++ be 2 c.weak
    ++ optField 2 (c.peak.map tempNat) ++ flagBytes c.fault ++ quantity (c.heaterMs / 1000)

end Sys2Proof.Machine
end

