-- ==== Sys2Proof/Machine/Actions.lean ====
section
/-! DEFINITION. The commands of the Action Table (Chapter 4). -/

namespace Sys2Proof.Machine

/-- R55: the entry that a POST ACTION spells, its checks of ranges passed; none for BAD_FIELD. -/
def entryPosted (owner : Port) (payload : List Byte) : Option ActionEntry :=
  match counterOf (byteAt payload 0), actionOf (byteAt payload 5) with
  | some r, some a =>
    if byteAt payload 6 ≤ a.argMax then
      some { owner := owner, ref := r, target := BitVec.ofNat 32 (fieldAt payload 1 4), action := a,
             arg := BitVec.ofNat 8 (byteAt payload 6), notify := byteAt payload 7 == 1 }
    else none
  | _, _ => none

/-- R55: whether a RESUME_LANE names a lane that the port does not hold. -/
def State.resumeNotHeld (s : State) (p : Port) (e : ActionEntry) : Bool :=
  decide (e.action = .resumeLane) &&
    (match laneOf e.arg.toNat with
     | some l => decide ((s.lane l).holder ≠ some p)
     | none => true)

/-- R56: an accepted entry takes a slot, or is executed at once. -/
def State.placeEntry (s : State) (slot : Nat) (e : ActionEntry) : Answer :=
  if reached (s.counter e.ref) e.target then (s.executeSet [(slot, e)]).say .ok (numByte slot ++ flagBytes true)
  else (s.withActions (s.actions.set slot (some e))).say .ok (numByte slot ++ flagBytes false)

/-- R172: the reserved byte and the notify byte of a POST ACTION. -/
def actionBytesOk (payload : List Byte) : Bool :=
  byteAt payload 7 ≤ 1 && byteAt payload 8 == 0

/-- R55: the answer to POST ACTION.  The argument of a RESUME_LANE is checked with the ranges of R55, after NOT_READY (DESIGN CHOICE,
log 36). -/
def State.postAction (s : State) (q : Request) : Answer :=
  if !actionBytesOk q.payload then s.say .badField
  else if !s.store.configured then s.say .notReady
  else
    match entryPosted q.port q.payload with
    | none => s.say .badField
    | some e =>
      if s.resumeNotHeld q.port e then s.say .notHolder
      else
        match s.actions.findIdx? Option.isNone with
        | none => s.say .tableFull
        | some slot => s.placeEntry slot e

/-- POST_ACTION (R55, R56). -/
def execPostAction (q : Request) (s : State) : Result :=
  serve .action 9 q (fun s => s.postAction q) s

/-- R57: the due set of a counter is executed and removed. -/
def State.runDueSet (s : State) (r : CounterRef) : State :=
  let due := entriesWhere (s.entryDue r) 0 s.actions
  (s.withActions (dropEntries (s.entryDue r) s.actions)).executeSet due

/-- ACTION_DUE_SET (R57, R58). -/
def execActionDueSet (r : CounterRef) (s : State) : Result :=
  unlessHeld s (fun s => if (entriesWhere (s.entryDue r) 0 s.actions).isEmpty then s else s.runDueSet r)

/-- R61: the answer to CANCEL ACTION. -/
def State.cancelAction (s : State) (p : Port) (slot : Nat) : Answer :=
  if 15 < slot then s.say .badField
  else
    match s.actions[slot]? with
    | some (some e) =>
      if e.owner = p then (s.withActions (s.actions.set slot none)).say .ok e.bytes else s.say .notOwner
    | some none => s.say .notFound
    | none => s.say .notFound

/-- CANCEL_ACTION (R61). -/
def execCancelAction (q : Request) (s : State) : Result :=
  serve .action 1 q (fun s => s.cancelAction q.port (byteAt q.payload 0)) s

/-- READ_ACTIONS (R63). -/
def execReadActions (q : Request) (s : State) : Result :=
  serve .query 1 q (fun s => s.sayPage (byteAt q.payload 0) s.streamActions) s

end Sys2Proof.Machine
end

