-- ==== Sys2Proof/Machine/DoorCmds.lean ====
section
/-! DEFINITION. The commands of the Door Unit (Chapter 9). -/

namespace Sys2Proof.Machine

/-- EXTEND_TIMER_EXPIRY (R144). -/
def execExtendTimerExpiry (s : State) : Result :=
  unlessHeld s (fun s =>
    if s.due s.door.extendTimer then s.modDoor (fun d => d.brakeToward s.now .retract .blocked) else s)

/-- HOLD_TIMER_EXPIRY (R145). -/
def execHoldTimerExpiry (s : State) : Result :=
  unlessHeld s (fun s => if s.due s.door.holdTimer then s.endHold else s)

/-- DEAD_TIME_EXPIRY (R142, R147, R149). -/
def execDeadTimeExpiry (s : State) : Result :=
  unlessHeld s (fun s => if s.due s.door.deadTimer then s.deadTimeEnds else s)

/-- RETRACT_TIMER_EXPIRY (R148). -/
def execRetractTimerExpiry (s : State) : Result :=
  unlessHeld s (fun s => if s.due s.door.retractTimer then s.rodJam .retractLimit else s)

/-- R152: the answer to CLEAR ROD FAULT. -/
def State.clearRodFault (s : State) : Answer :=
  if !s.store.configured then s.say .notReady
  else if s.door.rod ≠ .jammed then s.say .wrongState
  else ((s.modDoor (fun d => { d with jam := .none })).startHoming .clearFault).done

/-- CLEAR_ROD_FAULT (R152). -/
def execClearRodFault (q : Request) (s : State) : Result :=
  serve .service 0 q State.clearRodFault s

/-- READ_DOOR (R153). -/
def execReadDoor (q : Request) (s : State) : Result :=
  serve .query 1 q (fun s => s.sayPage (byteAt q.payload 0) s.streamDoor) s

end Sys2Proof.Machine
end

