-- ==== Sys2Proof/Machine/DosingCmds.lean ====
section
/-! DEFINITION. The commands of the Dosing Unit (Chapter 8). -/

namespace Sys2Proof.Machine

/-- Whether a timer of the dose record expires now. -/
def State.doseDue (s : State) (f : DoseRec → Timer) : Bool :=
  match s.dosing.record with
  | some r => s.due (f r)
  | none => false

/-- DOSE_ON_TIMER_EXPIRY (R132, R133, R135). -/
def execDoseOnTimerExpiry (s : State) : Result :=
  unlessHeld s (fun s => if s.doseDue DoseRec.onTimer then s.strokeEnds else s)

/-- DOSE_OFF_TIMER_EXPIRY (R131, R132): the next stroke is due. -/
def execDoseOffTimerExpiry (s : State) : Result :=
  unlessHeld s (fun s =>
    if s.doseDue DoseRec.offTimer then (s.modDose (fun r => { r with offTimer := none })).strokeDue else s)

/-- DOSE_DRY_WINDOW_EXPIRY (R134). -/
def execDoseDryWindowExpiry (s : State) : Result :=
  unlessHeld s (fun s =>
    if s.doseDue DoseRec.dry then (s.modDose (fun r => { r with dry := none })).failCounted .dose .noWater else s)

/-- R137: the stock after a refill, and its reply. -/
def State.refillStock (s : State) (a : Agent) (amount : Nat) : Answer :=
  let sum := (s.account a).stock + amount
  let stock := min (s.capacity a) sum
  (s.setStock a stock).say (if sum ≤ s.capacity a then .ok else .clamped) (be 4 stock)

/-- R137: the answer to REFILL. -/
def State.refill (s : State) (agent amount : Nat) : Answer :=
  match agentOf agent with
  | none => s.say .badField
  | some a =>
    if amount < 1 ∨ 2000000 < amount then s.say .badField
    else if !s.store.configured then s.say .notReady
    else if !(s.account a).valid then s.say .notReady
    else s.refillStock a amount

/-- REFILL (R137). -/
def execRefill (q : Request) (s : State) : Result :=
  serve .refill 5 q (fun s => s.refill (byteAt q.payload 0) (fieldAt q.payload 1 4)) s

/-- R138: a write of a stock is held while a stroke of the agent is in ON. -/
def State.holdWrite (s : State) (a : Agent) (w : HeldWrite) : State :=
  s.withAccount a { s.account a with held := some w }

/-- R138: the declared stock, at once or held. -/
def State.setStockValue (s : State) (a : Agent) (value : Nat) : Answer :=
  let stored := min (s.capacity a) value
  let s1 := if s.strokeOn a then s.holdWrite a (.set stored) else s.declareStock a stored
  s1.say (if value ≤ s.capacity a then .ok else .clamped) (be 4 stored)

/-- R138: the answer to SET STOCK. -/
def State.setStockAnswer (s : State) (agent value : Nat) : Answer :=
  match agentOf agent with
  | none => s.say .badField
  | some a => if !s.store.configured then s.say .notReady else s.setStockValue a value

/-- SET_STOCK (R138). -/
def execSetStock (q : Request) (s : State) : Result :=
  serve .accounts 5 q (fun s => s.setStockAnswer (byteAt q.payload 0) (fieldAt q.payload 1 4)) s

/-- READ_DOSING (R139). -/
def execReadDosing (q : Request) (s : State) : Result :=
  serve .query 1 q (fun s => s.sayPage (byteAt q.payload 0) s.streamDosing) s

end Sys2Proof.Machine
end

