-- ==== Sys2Proof/Machine/Guarding.lean ====
section
/-! DEFINITION. The commands of the Output Guard: sense windows, latch, flood timer, forced drain, output test (Chapter 3). -/

namespace Sys2Proof.Machine

/-- R41: a stuck-on fault. -/
def State.stuckOnFault (s : State) (o : Checked) : State :=
  let s1 := s.modCheck o (fun c => { c with stuckOn := none, onMark := true })
  match o with
  | .inlet => s1.latchFault .inlet
  | .heater => s1.latchFault .heater
  | .drain => s1.outputFault .drain 1
  | .circ => s1.outputFault .circ 1

/-- STUCK_ON_WINDOW_EXPIRY (R41). -/
def execStuckOnWindowExpiry (o : Checked) (s : State) : Result :=
  unlessHeld s (fun s => if s.due (s.guard.checks.get o).stuckOn then s.stuckOnFault o else s)

/-- R42: a stuck-off fault, reported to the lanes and the test whose demands are in the set at the expiry.  The episode is marked before
the reports, so a report that de-energises the output leaves the mark clear (DESIGN CHOICE, log 35). -/
def State.stuckOffFault (s : State) (o : Checked) : State :=
  let d := (s.out o.output).demands
  let s1 := (s.modCheck o (fun c => { c with stuckOff := none, offMark := true })).outputFault o.output 2
  let s2 := if d.water || d.softener then s1.failCounted .water .outputFault else s1
  let s3 := if d.dose then s2.failCounted .dose .outputFault else s2
  if d.test then s3.endTest else s3

/-- STUCK_OFF_WINDOW_EXPIRY (R42). -/
def execStuckOffWindowExpiry (o : Checked) (s : State) : Result :=
  unlessHeld s (fun s => if s.due (s.guard.checks.get o).stuckOff then s.stuckOffFault o else s)

/-- CLEAN_COUNT_REACHED (R44): the count stands at 10,000, where it stays; nothing else follows from it (log 17). -/
def execCleanCountReached (s : State) : Result :=
  .next s

/-- R45: the answer to CLEAR FAULT. -/
def State.clearFault (s : State) : Answer :=
  if !s.guard.latched then s.say .wrongState
  else if s.guard.cleanCount = 10000 ∧ s.guard.flood = false then
    (s.withGuard { s.guard with latched := false }).evaluate.done
  else s.say .tooEarly

/-- CLEAR_FAULT (R45). -/
def execClearFault (q : Request) (s : State) : Result :=
  serve .service 0 q State.clearFault s

/-- LATCH_DRAIN_EXPIRY (R46). -/
def execLatchDrainExpiry (s : State) : Result :=
  unlessHeld s (fun s =>
    if s.due s.guard.latchDrain then (s.withGuard { s.guard with latchDrain := none }).putForced.evaluate else s)

/-- FLOOD_CLEAR_TIMER_EXPIRY (R48). -/
def execFloodClearTimerExpiry (s : State) : Result :=
  unlessHeld s (fun s => if s.guard.flood && s.due s.guard.floodClear then s.floodEnds else s)

/-- R49: a lane state in which an output test is taken. -/
def LaneState.testable : LaneState → Bool
  | .idle | .held | .stalled => true
  | .ready | .running | .waiting | .retryWait | .paused | .halted => false

/-- R49: the output that a test may name. -/
def State.testTarget (s : State) (number : Nat) : Option Output :=
  match outputOf number with
  | some o => if o ≠ .mainsRelay ∧ s.fitted o = true then some o else none
  | none => none

/-- R49: an output test begins; one that runs ends at that moment, by the same change of the demand sets (log 18). -/
def State.beginTest (s : State) (o : Output) (seconds : Nat) : State :=
  let s1 :=
    match s.guard.test with
    | some old => s.putDemand .test false old
    | none => s
  let s2 := s1.putDemand .test true o
  (s2.withGuard { s2.guard with test := some o, testTimer := s.timer (seconds * 1000) }).evaluate

/-- R49: the answer to TEST OUTPUT. -/
def State.testOutput (s : State) (number seconds : Nat) : Answer :=
  if !s.store.configured then s.say .notReady
  else
    match s.testTarget number with
    | none => s.say .badField
    | some o =>
      if seconds < 1 ∨ 10 < seconds then s.say .badField
      else if (s.lane .water).state.testable && (s.lane .dose).state.testable then (s.beginTest o seconds).done
      else s.say .laneBusy

/-- TEST_OUTPUT (R49). -/
def execTestOutput (q : Request) (s : State) : Result :=
  serve .service 2 q (fun s => s.testOutput (byteAt q.payload 0) (byteAt q.payload 1)) s

/-- TEST_TIMER_EXPIRY (R49). -/
def execTestTimerExpiry (s : State) : Result :=
  unlessHeld s (fun s => if s.due s.guard.testTimer then s.endTest else s)

/-- READ_OUTPUTS (R50). -/
def execReadOutputs (q : Request) (s : State) : Result :=
  serve .query 1 q (fun s => s.sayPage (byteAt q.payload 0) s.streamOutputs) s

end Sys2Proof.Machine
end

