-- ==== Sys2Proof/Machine/Inputs.lean ====
section
/-! DEFINITION. The Input Filter and the unfiltered inputs (sections 2.1 to 2.4). -/

namespace Sys2Proof.Machine

/-- Table 2-1: an input's debounce time in ms. -/
def Input.debounceMs : Input → Nat
  | .door => 50
  | .levelLow => 300
  | .levelHigh => 300
  | .float => 500
  | .saltLow => 2000
  | .rodHome => 20

/-- A change of a filtered input's record. -/
def State.modInput (s : State) (i : Input) (f : FilteredInput → FilteredInput) : State :=
  s.withInputs (s.inputs.set i (f (s.inputs.get i)))

/-- R18 and R21: a filtered input takes a change of its pin. -/
def FilteredInput.pinChange (f : FilteredInput) (level : Bool) (start : Timer) : FilteredInput :=
  if f.accepted = some level then { f with candidate := none, debounce := none }
  else { f with candidate := some level, debounce := start }

/-- FILTERED_PIN_CHANGE (R18, R21). -/
def execFilteredPinChange (i : Input) (level : Bool) (s : State) : Result :=
  .next (
    let s1 := s.withPins (s.pins.withLevel i level)
    if s.resetHeld then s1
    else if s.pins.level i = level then s
    else s1.modInput i (fun f => f.pinChange level (s.timer i.debounceMs)))

/-- R18, R19, R21: the candidate becomes the accepted level, by an event or, while UNSETTLED, by a settle report. -/
def State.accept (s : State) (i : Input) (level : Bool) (order : List Receiver) : State :=
  let isEvent := (s.accepted i).isSome
  let s1 := s.modInput i (fun f =>
    { f with accepted := some level, candidate := none, debounce := none,
             lastEvent := if isEvent then some s.now else f.lastEvent })
  deliver (State.inputTo i level isEvent) order (Receiver.ofInput i) s1

/-- DEBOUNCE_TIMER_EXPIRY (R18, R19, R21). -/
def execDebounceTimerExpiry (i : Input) (order : List Receiver) (s : State) : Result :=
  unlessHeld s (fun s =>
    match (s.inputs.get i).candidate with
    | none => s
    | some level => if s.due (s.inputs.get i).debounce then s.accept i level order else s)

/-- ROD_OC_CHANGE (R20). -/
def execRodOcChange (level : Bool) (s : State) : Result :=
  .next (
    let s1 := s.withPins { s.pins with rodOc := level }
    if s.resetHeld then s1
    else if s.pins.rodOc = level then s
    else if level then s1.rodOcAsserted
    else s1)

/-- The checked output of a sense line (section 3.3). -/
def SenseLine.checked : SenseLine → Option Checked
  | .inletSn => some .inlet
  | .heaterSn => some .heater
  | .drainSn => some .drain
  | .circSn => some .circ
  | .doseDSn | .doseRSn => none

/-- The agent of a feedback line (Table 8-1). -/
def SenseLine.agent : SenseLine → Option Agent
  | .doseDSn => some .detergent
  | .doseRSn => some .rinse
  | .inletSn | .heaterSn | .drainSn | .circSn => none

/-- R44: a change of INLET_SN or HEATER_SN to on sets the clean count to 0 while the latch is LATCHED. -/
def State.cleanSense (s : State) (l : SenseLine) (on : Bool) : State :=
  if s.guard.latched && on && (decide (l = .inletSn) || decide (l = .heaterSn)) then
    s.withGuard { s.guard with cleanCount := 0 }
  else s

/-- R132: a change of a feedback line to on while the pump is energised in a stroke's ON phase. -/
def State.feedbackSense (s : State) (a : Agent) (on : Bool) : State :=
  if on && s.energised a.pump then
    s.modDose (fun r => if r.agent = a ∧ r.phase = .on then { r with feedback := true } else r)
  else s

/-- R41, R42, R44, R132: a change of a sense line. -/
def State.senseChange (s : State) (l : SenseLine) (on : Bool) : State :=
  let s1 :=
    match l.checked with
    | some o => s.checkSense o on
    | none => s
  let s2 := s1.cleanSense l on
  match l.agent with
  | some a => s2.feedbackSense a on
  | none => s2

/-- SENSE_LINE_CHANGE (R20). -/
def execSenseLineChange (l : SenseLine) (level : Bool) (s : State) : Result :=
  .next (
    let s1 := s.withPins (s.pins.withSense l level)
    if s.resetHeld then s1
    else if s.pins.sense l = level then s
    else s1.senseChange l level)

/-- READ_INPUTS (R22). -/
def execReadInputs (q : Request) (s : State) : Result :=
  serve .query 1 q (fun s => s.sayPage (byteAt q.payload 0) s.streamInputs) s

end Sys2Proof.Machine
end

