-- ==== Sys2Proof/Machine/Lanes.lean ====
section
/-! DEFINITION. The commands of the lanes (Chapter 5): holders, posting, start attempts, expiries, skip, retry, flush, hold, resume. -/

namespace Sys2Proof.Machine

/-- R172: a request that names a lane in its first byte; a lane other than 0 or 1 is BAD_FIELD before every other check. -/
def withNamedLane (q : Request) (h : Lane → State → Answer) (s : State) : Answer :=
  match laneOf (byteAt q.payload 0) with
  | none => s.say .badField
  | some l => h l s

/-- R69: a request that only the lane's holder may make. -/
def asHolder (q : Request) (h : Lane → State → Answer) (s : State) : Answer :=
  withNamedLane q (fun l s => if (s.lane l).holder = some q.port then h l s else s.say .notHolder) s

/-! ### Holders (R67, R68) -/

/-- R62 and R67: the lane's holder changes, and the former holder's resume entries leave the Action Table. -/
def State.setHolder (s : State) (l : Lane) (p : Option Port) : State :=
  (s.modLane l (fun r => { r with holder := p })).dropResume l (s.lane l).holder

/-- R67: the answer to CLAIM LANE. -/
def State.claimLane (p : Port) (l : Lane) (s : State) : Answer :=
  match (s.lane l).holder with
  | none => (s.setHolder l (some p)).done
  | some h => if h = p then s.done else s.say .heldByOther

/-- CLAIM_LANE (R67). -/
def execClaimLane (q : Request) (s : State) : Result :=
  serve .lane 1 q (withNamedLane q (State.claimLane q.port)) s

/-- R67: the answer to RELEASE LANE from the holder. -/
def State.releaseHolder (l : Lane) (s : State) : Answer := (s.setHolder l none).done

/-- RELEASE_LANE (R67). -/
def execReleaseLane (q : Request) (s : State) : Result :=
  serve .lane 1 q (asHolder q State.releaseHolder) s

/-- R68: the lane states in which a lane may be taken. -/
def LaneState.takeable : LaneState → Bool
  | .idle | .held | .stalled | .halted => true
  | .ready | .running | .waiting | .retryWait | .paused => false

/-- R68: the answer to TAKE LANE. -/
def State.takeLane (p : Port) (l : Lane) (s : State) : Answer :=
  if (s.lane l).holder = some p then s.done
  else if (s.lane l).state.takeable then (s.setHolder l (some p)).done
  else s.say .laneBusy

/-- TAKE_LANE (R68). -/
def execTakeLane (q : Request) (s : State) : Result :=
  serve .lane 1 q (withNamedLane q (State.takeLane q.port)) s

/-! ### Posting (R70, R71) -/

/-- R71: the id after an id; 65535 is followed by 1. -/
def idAfter (id : Nat) : Nat := if id = 65535 then 1 else id + 1

/-- R71: the first id from `id` on that no queued step holds; a queue holds fewer than 8 steps here. -/
def freeId (queue : List StepRec) : Nat → Nat → Nat
  | 0, id => id
  | fuel + 1, id => if queue.any (fun t => decide (t.id = id)) then freeId queue fuel (idAfter id) else id

/-- R71: an accepted step joins the queue, and an IDLE lane becomes READY. -/
def LaneRec.post (r : LaneRec) (id : Nat) (t : StepRec) : LaneRec :=
  let r1 := { r with queue := r.queue ++ [t], nextId := idAfter id }
  if r.state = .idle then r1.toReady else r1

/-- R172: the bytes of a POST STEP that the form alone decides: the flags byte and the parameter field. -/
def postBytesOk (payload : List Byte) : Bool :=
  byteAt payload 3 ≤ 3 && stepBytesOk payload

/-- R70: the work of a POST STEP, its checks of range and of the fitted outputs passed; none for BAD_FIELD. -/
def State.postedWork (s : State) (l : Lane) (payload : List Byte) : Option Work :=
  match workOf payload with
  | none => none
  | some w =>
    let tries := byteAt payload 2
    if w.lane = l ∧ 1 ≤ tries ∧ tries ≤ 4 ∧ fieldAt payload 4 2 ≤ 36000 ∧ s.aboveTub w = false ∧ s.needsAbsent w = false then
      some w
    else none

/-- R71: an accepted POST STEP. -/
def State.acceptStep (s : State) (l : Lane) (w : Work) (payload : List Byte) : Answer :=
  let id := freeId (s.lane l).queue 8 (s.lane l).nextId
  let flags := byteAt payload 3
  let t := stepPosted id w (byteAt payload 2) (flags.testBit 0) (flags.testBit 1) (fieldAt payload 4 2)
  let s1 := s.modLane l (fun r => r.post id t)
  s1.say .ok (be 2 id ++ numByte (s1.lane l).queue.length)

/-- R70: the answer to POST STEP from the holder. -/
def State.postStep (payload : List Byte) (l : Lane) (s : State) : Answer :=
  if !s.store.configured then s.say .notReady
  else
    match s.postedWork l payload with
    | none => s.say .badField
    | some w => if 8 ≤ (s.lane l).queue.length then s.say .queueFull else s.acceptStep l w payload

/-- POST_STEP (R70, R71, R172). -/
def execPostStep (q : Request) (s : State) : Result :=
  serve .lane 10 q
    (fun s => if postBytesOk q.payload then asHolder q (State.postStep q.payload) s else s.say .badField) s

/-! ### Events of a lane -/

/-- START_ATTEMPT (R72 to R75): the attempt of a READY lane at the first increase of the run clock. -/
def execStartAttempt (l : Lane) (s : State) : Result :=
  unlessHeld s (fun s => if s.attemptDue l then s.attemptInOrder l else s)

/-- R76: whether the running time of a lane's try has reached its time limit. -/
def State.limitReached (s : State) (l : Lane) : Bool :=
  (s.lane l).inTry && s.headIs l (fun t =>
    match t.limitMs with
    | some ms => decide (ms ≤ (s.lane l).running)
    | none => false)

/-- R76 and R98: the result that a kind names for its time limit. -/
def Work.limitResult : Work → StepResult
  | .drain _ => .notDrained
  | .fill _ _ | .circulate _ _ | .heat _ _ | .pause _ | .regenerate _ | .autoOpen | .dose _ _ => .timeout

/-- R76: the time limit of a lane's head expires. -/
def State.limitExpires (s : State) (l : Lane) : State :=
  match s.head l with
  | none => s
  | some t => s.endCounted l t.work.limitResult

/-- TIME_LIMIT_EXPIRY (R76). -/
def execTimeLimitExpiry (l : Lane) (s : State) : Result :=
  unlessHeld s (fun s => if s.limitReached l then s.limitExpires l else s)

/-- RETRY_TIMER_EXPIRY (R78). -/
def execRetryTimerExpiry (l : Lane) (s : State) : Result :=
  unlessHeld s (fun s =>
    if (s.lane l).state = .retryWait ∧ s.due (s.lane l).retry = true then
      s.modLane l (fun r => { r with retry := none }.toReady)
    else s)

/-- PAUSE_SETTLE_EXPIRY (R81). -/
def execPauseSettleExpiry (l : Lane) (s : State) : Result :=
  unlessHeld s (fun s =>
    if (s.lane l).state = .paused ∧ s.due (s.lane l).laneSettle = true then s.pauseEnds l else s)

/-! ### Leaving STALLED, HALTED and HELD (R82 to R85) -/

/-- R82: the head is removed as SKIPPED, and the lane goes on. -/
def State.removeHead (s : State) (l : Lane) (t : StepRec) : State :=
  let t' := { t with status := .failed, endTime := some s.now }
  let s1 := s.modLane l (fun r =>
    { r.quiet with queue := r.queue.tail, last := some { step := t', manner := .skipped } }.advance false)
  (s1.dropDose l).releaseExclusion

/-- R31 and R82: what a skip in RETRY_WAIT tells the block of the step's kind and the Sampler. -/
def State.tellSkip (s : State) (l : Lane) : State :=
  let s1 := s.tellTryEnd l
  match l with
  | .water => s1
  | .dose => s1.dropDoseRequest

/-- R82: the answer to SKIP STEP. -/
def State.skipStep (l : Lane) (s : State) : Answer :=
  match s.head l with
  | none => s.say .wrongState
  | some t =>
    if (s.lane l).state = .stalled then (s.removeHead l t).say .ok (be 2 t.id)
    else if (s.lane l).state = .retryWait then
      let s1 := s.tellSkip l
      (s1.removeHead l ((s1.head l).getD t)).say .ok (be 2 t.id)
    else s.say .wrongState

/-- SKIP_STEP (R82). -/
def execSkipStep (q : Request) (s : State) : Result :=
  serve .lane 1 q (asHolder q State.skipStep) s

/-- R83: the answer to RETRY STEP. -/
def State.retryStep (l : Lane) (s : State) : Answer :=
  match s.head l with
  | none => s.say .wrongState
  | some t =>
    if (s.lane l).state = .stalled then
      let s1 := s.modHead l (fun t =>
        { t with triesUsed := 0, result := .none, endTime := none, status := .queued })
      (s1.modLane l LaneRec.toReady).say .ok (be 2 t.id)
    else s.say .wrongState

/-- RETRY_STEP (R83). -/
def execRetryStep (q : Request) (s : State) : Result :=
  serve .lane 1 q (asHolder q State.retryStep) s

/-- R84: the lane is emptied; `last` is its last-result record afterwards. -/
def LaneRec.flushed (r : LaneRec) (last : Option LastResult) : LaneRec :=
  { r.quiet with state := .idle, queue := [], holdAfter := false, last := last }

/-- R84: the last-result record of a flush: that of an ACTIVE head, or the one that stands. -/
def State.flushLast (s : State) (l : Lane) : Option LastResult :=
  match s.head l with
  | none => (s.lane l).last
  | some t =>
    if t.status = .active then
      some { step := { t with status := .failed, result := .flushed, endTime := some s.now }, manner := .flushed }
    else (s.lane l).last

/-- R84: the answer to FLUSH LANE. -/
def State.flushLane (l : Lane) (s : State) : Answer :=
  let count := (s.lane l).queue.length
  let s1 := if s.headActive l && (s.lane l).tryInProgress then s.tryEnd l else s
  let last := s1.flushLast l
  let s2 := ((s1.modLane l (fun r => r.flushed last)).dropDose l).releaseExclusion
  s2.say .ok (numByte count)

/-- FLUSH_LANE (R84). -/
def execFlushLane (q : Request) (s : State) : Result :=
  serve .lane 1 q (asHolder q State.flushLane) s

/-- R85: the answer to HOLD LANE. -/
def State.holdLane (l : Lane) (s : State) : Answer :=
  match (s.lane l).state with
  | .idle => (s.modLane l (fun r => { r with state := .held })).done
  | .ready =>
    if s.headActive l then (s.modLane l (fun r => { r with holdAfter := true })).done
    else (s.modLane l (fun r => { r with state := .held, attemptDue := false })).done
  | .running | .waiting | .paused | .retryWait => (s.modLane l (fun r => { r with holdAfter := true })).done
  | .held => s.done
  | .stalled | .halted => s.say .wrongState

/-- HOLD_LANE (R85). -/
def execHoldLane (q : Request) (s : State) : Result :=
  serve .lane 1 q (asHolder q State.holdLane) s

/-- R85: the answer to RESUME LANE. -/
def State.resumeLane (l : Lane) (s : State) : Answer :=
  if (s.lane l).state = .held then (s.resumeHeld l).done else s.say .wrongState

/-- RESUME_LANE (R85). -/
def execResumeLane (q : Request) (s : State) : Result :=
  serve .lane 1 q (asHolder q State.resumeLane) s

/-! ### Reading (R87) -/

/-- READ_LANE (R87). -/
def execReadLane (q : Request) (s : State) : Result :=
  serve .query 2 q (withNamedLane q (fun l s => s.sayPage (byteAt q.payload 1) (s.streamLane l))) s

/-- R87: the answer to READ STEP. -/
def State.readStep (id : Nat) (l : Lane) (s : State) : Answer :=
  match (s.lane l).queue.find? (fun t => decide (t.id = id)) with
  | some t => s.say .ok (t.bytes l)
  | none => s.say .notFound

/-- READ_STEP (R87). -/
def execReadStep (q : Request) (s : State) : Result :=
  serve .query 3 q (withNamedLane q (State.readStep (fieldAt q.payload 1 2))) s

end Sys2Proof.Machine
end

