-- ==== Sys2Proof/Machine/PortCmds.lean ====
section
/-! DEFINITION. The commands of the Port Interface (Chapter 10). -/

namespace Sys2Proof.Machine

/-- BAD_FRAME (R155): a rejected frame is not taken; the slot is set to a BAD_FRAME reply with the received tag.  With no bytes it is the
end of an exchange with no whole byte, which takes no request and leaves the slot (R154), and after a reset that cut the exchange ends
the port's wait (R164); its place in this row is the model's choice (log 30).  Bytes that pass the check are no such command and change
nothing (log 30). -/
def execBadFrame (p : Port) (bytes : List Byte) (s : State) : Result :=
  takeExchange p s (fun s =>
    match checkFrame bytes with
    | .bad tag => s.setReply p { status := .badFrame, tag := tag, payload := [] }
    | .noByte => s
    | .taken _ _ _ => s)

/-- UNKNOWN_REQUEST (R156): a frame whose code is not in Table 12-2.  A code of that table makes no such command (log 30). -/
def execUnknownRequest (p : Port) (code tag : Byte) (payload : List Byte) (s : State) : Result :=
  takeExchange p s (fun s =>
    match requestOf code { port := p, tag := tag, payload := payload } with
    | none => s.setReply p { status := .unknownRequest, tag := tag, payload := [] }
    | some _ => s)

/-- NULL (R156): OK to every port, once its length is 0. -/
def execNull (q : Request) (s : State) : Result :=
  takeExchange q.port s (fun s =>
    s.setReply q.port { status := if q.payload.length = 0 then .ok else .badField, tag := q.tag, payload := [] })

/-- R160: the three bytes of a routing. -/
def PortRec.routing (r : PortRec) : List Byte :=
  numByte r.classes.toNat ++ numByte r.inputMask.toNat ++ numByte r.threshold

/-- R160 and R172: the answer to SUBSCRIBE. -/
def State.subscribe (s : State) (q : Request) : Answer :=
  let classes := byteAt q.payload 0
  let mask := byteAt q.payload 1
  let threshold := byteAt q.payload 2
  if 63 < classes ∨ 63 < mask ∨ threshold < 1 ∨ 16 < threshold then s.say .badField
  else
    let r := { s.port q.port with classes := BitVec.ofNat 6 classes, inputMask := BitVec.ofNat 6 mask, threshold := threshold }
    (s.withPort q.port r).say .ok r.routing

/-- SUBSCRIBE (R160). -/
def execSubscribe (q : Request) (s : State) : Result :=
  serve .query 3 q (fun s => s.subscribe q) s

/-- R161: the port after the removal: held notices join the tail while the queue is below 16. -/
def PortRec.afterTake (r : PortRec) : PortRec :=
  let left := r.queue.drop 2
  let room := 16 - left.length
  { r with queue := left ++ r.held.take room, held := r.held.drop room, lost := false }

/-- R161: the answer to TAKE NOTICES. -/
def State.takeNotices (s : State) (p : Port) : Answer :=
  let r := s.port p
  let taken := r.queue.take 2
  let r' := r.afterTake
  (s.withPort p r').say .ok
    (numByte taken.length ++ flagBytes r.lost ++ numByte r'.queue.length ++ taken.flatMap Notice.bytes)

/-- TAKE_NOTICES (R161). -/
def execTakeNotices (q : Request) (s : State) : Result :=
  serve .query 0 q (fun s => s.takeNotices q.port) s

/-- READ_PORT (R163). -/
def execReadPort (q : Request) (s : State) : Result :=
  serve .query 1 q (fun s => s.sayPage (byteAt q.payload 0) (s.streamPort q.port)) s

end Sys2Proof.Machine
end

