-- ==== Sys2Proof/Machine/Resets.lean ====
section
/-! DEFINITION. The resets (R171, and the reset rule of each chapter): POWER_ON, RESET_LINE, RESET_PART. -/

namespace Sys2Proof.Machine

/-- R44: the clean count at the end of a warm reset: a kept count goes on if both sense lines read off, and is 0 otherwise (log 16). -/
def State.cleanAtReset (s : State) : State :=
  if s.guard.latched && (s.pins.inletSn || s.pins.heaterSn) then s.withGuard { s.guard with cleanCount := 0 } else s

/-- R164: the ports with an exchange in progress at a reset wait for its end, and the others do not. -/
def State.cutExchanges (s : State) (busy : List Port) : State :=
  s.withPorts
    { a := { s.ports.a with waitCs := decide (Port.a ∈ busy) }, b := { s.ports.b with waitCs := decide (Port.b ∈ busy) },
      c := { s.ports.c with waitCs := decide (Port.c ∈ busy) } }

/-- R171: what the rules read at a reset from the input pins and sense lines (R21, R44, R51). -/
def State.readPins (s : State) : State :=
  let s1 := s.withInputs (FilteredInput.resetAll s.pins)
  (s1.withGuard { s1.guard with checks := CheckRec.resetAll s.pins }).cleanAtReset

/-- The Guard after a warm reset: the latch, its record and the clean count are kept (R44, R51), and a latch that is LATCHED asks for
the latch drain at the first READY (R46). -/
def Guard.warm (g : Guard) (pins : Pins) : Guard :=
  { Guard.reset pins with latched := g.latched, record := g.record, cleanCount := g.cleanCount, drainAtReady := g.latched }

/-- Table 7-8: the resin account is kept. -/
def Softener.warm (f : Softener) : Softener :=
  { Softener.reset with valid := f.valid, remaining := f.remaining, pendingFlag := f.pendingFlag, tally := f.tally }

/-- Table 8-6: a stock account is kept, without its held write. -/
def StockAccount.warm (a : StockAccount) : StockAccount := { a with held := none }

/-- Table 8-6: the accounts are kept, and there is no dose record. -/
def Dosing.warm (d : Dosing) : Dosing :=
  { accounts := { detergent := d.accounts.detergent.warm, rinse := d.accounts.rinse.warm }, record := none }

/-- R170: a record found OPEN becomes INTERRUPTED. -/
def CycleRec.warm (c : CycleRec) : CycleRec :=
  { c with state := if c.state = .open then .interrupted else c.state }

/-- R165, R167, R170, R171: the store after a warm reset. -/
def Store.warm (t : Store) (kind : ResetKind) : Store :=
  { Store.reset with settings := t.settings, cycle := t.cycle.warm, resetKind := kind, warmCount := (t.warmCount + 1) % 256 }

/-- A warm reset, before the pins are read; `busy` names the ports with an exchange in progress (R164). -/
def State.warmReset (s : State) (kind : ResetKind) (busy : List Port) : State :=
  { State.afterPowerOn s.pins busy s.pending with
    guard := s.guard.warm s.pins, softener := s.softener.warm, dosing := s.dosing.warm, store := s.store.warm kind }

/-- POWER_ON (R171): the pins are as the ramp of the logic supply finds them, RESET_N high (log 10). -/
def execPowerOn (pins : PowerPins) (s : State) : Result :=
  .next (State.afterPowerOn pins.levels pins.busy s.pending)

/-- RESET_LINE (R171): the fall of RESET_N resets the part and holds it; the rise ends the reset, and the pins are read there
(log 9); an exchange in progress at either edge is cut (R164). -/
def execResetLine (edge : ResetEdge) (s : State) : Result :=
  .next (match edge with
    | .falls busy => if s.resetHeld then s else (s.warmReset .resetLine busy).withResetHeld true
    | .rises busy => if s.resetHeld then ((s.withResetHeld false).readPins).cutExchanges busy else s)

/-- RESET_PART (R171, R156, R164): the reset starts when the request is taken, and its reply is lost. -/
def execResetPart (q : ResetRequest) (s : State) : Result :=
  takeExchange q.port s (fun s =>
    let a := portAnswer .profile 0 q.toRequest State.done s
    if a.status = .ok then (s.warmReset .resetRequest q.busy).readPins
    else s.setReply q.port { status := a.status, tag := q.tag, payload := a.payload })

end Sys2Proof.Machine
end

