-- ==== Sys2Proof/Machine/Samples.lean ====
section
/-! DEFINITION. The Sampler: temperature and turbidity (sections 2.5 to 2.7). -/

namespace Sys2Proof.Machine

/-! ### Temperature (R23 to R26) -/

/-- R24: a quotient rounded to nearest, an exact half going away from zero. -/
def roundAway (num : Int) (den : Nat) : Int :=
  if num < 0 then -(((2 * num.natAbs + den) / (2 * den) : Nat) : Int) else (((2 * num.natAbs + den) / (2 * den) : Nat) : Int)

/-- R24: the conversion of a code at or above the point `p`, the points above it following. -/
def convertFrom (c : Nat) (p : Nat × Int) : List (Nat × Int) → Int
  | [] => p.2
  | q :: rest =>
    if c ≤ q.1 then p.2 + roundAway ((q.2 - p.2) * ((c - p.1 : Nat) : Int)) (q.1 - p.1)
    else convertFrom c q rest

/-- R24: the conversion of a code through a table of points. -/
def convertCode (c : Nat) : List (Nat × Int) → Int
  | [] => 0
  | p :: rest => if c < p.1 then p.2 else convertFrom c p rest

/-- Table 11-1: the profile's temperature table. -/
def State.tempTable (s : State) : List (Nat × Int) :=
  (List.range 9).map (fun i => (s.fieldNat (19 + i), s.field (28 + i)))

/-- R23 to R25: the reading that a sample leaves. -/
def State.readingOf (s : State) (code : Code) : TempReading :=
  let r := s.sampler.temp
  if !s.store.configured then
    { r with value := none, status := .noTable, code := some code, sampleTime := some s.now }
  else if code.toNat = 0 ∨ code.toNat = 1023 then
    { r with status := .sensorFault, code := some code, sampleTime := some s.now }
  else
    { value := some (convertCode code.toNat s.tempTable), status := .valid, code := some code, sampleTime := some s.now,
      validTime := some s.now }

/-- R25: the notice that a sample gives, from the reading before it and after it. -/
def tempNotice (before after : TempStatus) : Option NoticeKind :=
  if after = .sensorFault ∧ before ≠ .sensorFault then some .tempFault
  else if after = .valid ∧ before = .sensorFault then some .tempOk
  else none

/-- R23 to R26: one temperature sample. -/
def State.sampleTemp (s : State) (code : Code) (order : List Receiver) : State :=
  let r := s.readingOf code
  let s1 := s.withSampler { s.sampler with temp := r, tempTimer := s.timer 500 }
  deliver (State.sampleTo (tempNotice s.sampler.temp.status r.status) code) order Receiver.ofSample s1

/-- TEMP_SAMPLE_TIMER_EXPIRY (R23); `code` is the code on TEMP. -/
def execTempSampleTimerExpiry (code : Code) (order : List Receiver) (s : State) : Result :=
  unlessHeld s (fun s => if s.due s.sampler.tempTimer then s.sampleTemp code order else s)

/-! ### Turbidity (R27 to R32) -/

/-- R29: the soil class of a code. -/
def State.soilClassOf (s : State) (code : Nat) : Nat :=
  (decide (s.setting 3 ≤ code)).toNat + (decide (s.setting 4 ≤ code)).toNat + (decide (s.setting 5 ≤ code)).toNat

/-- R127: the soil class is handed to the DOSE lane's active step; a paused try goes on at the end of its pause. -/
def State.handClass (s : State) (soilClass : Nat) : State :=
  match s.dosing.record with
  | none => s
  | some r =>
    if r.computed then s
    else (s.computeDose (some soilClass)).retest .dose

/-- R28: the sample completes, and serves its requesters, the ports before the DOSE lane: TURBIDITY_DONE comes before a STEP notice of the
DOSE step that takes the class (DESIGN CHOICE, log 7). -/
def State.completeSample (s : State) (code : Code) : State :=
  let u := s.sampler.turb
  let soilClass := s.soilClassOf code.toNat
  let s1 := s.withTurb
    { u with lit := false, ledTimer := none, portReq := { a := false, b := false, c := false }, doseReq := false,
             code := some code, codeTime := some s.now, soilClass := soilClass, sampled := true }
  let s2 := s1.enterFor (portsWhere u.portReq.get) (s.notice .turbidityDone soilClass 0 code.toNat)
  if u.doseReq then s2.handClass soilClass else s2

/-- LED_TIMER_EXPIRY (R28); `code` is the code on TURB. -/
def execLedTimerExpiry (code : Code) (s : State) : Result :=
  unlessHeld s (fun s => if s.due s.sampler.turb.ledTimer then s.completeSample code else s)

/-- SAMPLE_NOW (R32). -/
def execSampleNow (q : Request) (s : State) : Result :=
  serve .action 0 q
    (fun s => (s.requestSample (some q.port) false).say .ok (flagBytes s.sampler.turb.lit)) s

/-- READ_SAMPLES (R33). -/
def execReadSamples (q : Request) (s : State) : Result :=
  serve .query 1 q (fun s => s.sayPage (byteAt q.payload 0) s.streamSamples) s

end Sys2Proof.Machine
end

