-- ==== Sys2Proof/Machine/SoftenerCmds.lean ====
section
/-! DEFINITION. The commands of the Softener Unit (Chapter 7). -/

namespace Sys2Proof.Machine

/-- R116: whether the soak of a RUNNING regeneration is complete. -/
def State.soakDone (s : State) : Bool :=
  decide (s.softener.phase = .soak) && decide ((s.lane .water).state = .running)
    && decide (s.fieldNat 14 * 1000 ≤ s.softener.soak)

/-- SOAK_COMPLETE (R116). -/
def execSoakComplete (s : State) : Result :=
  unlessHeld s (fun s => if s.soakDone then s.soakEnds else s)

/-- REGEN_NO_FLOW_EXPIRY (R119). -/
def execRegenNoFlowExpiry (s : State) : Result :=
  unlessHeld s (fun s =>
    if s.due s.softener.noFlow && decide (s.softener.phase ≠ .none) then
      (s.modSoftener (fun f => { f with noFlow := none })).failCounted .water .noFlow
    else s)

/-- R122: the account is declared fresh. -/
def State.freshResin (s : State) : State :=
  s.modSoftener (fun f =>
    { f with valid := true, remaining := s.cFull, pendingFlag := false, tally := if f.valid then f.tally else 0 })

/-- R122: the answer to RESET RESIN, with the r_bp before the request. -/
def State.resetResin (s : State) : Answer :=
  if !s.store.configured then s.say .notReady else s.freshResin.say .ok (be 2 s.resinBp)

/-- RESET_RESIN (R122). -/
def execResetResin (q : Request) (s : State) : Result :=
  serve .accounts 0 q State.resetResin s

/-- READ_SOFTENER (R123). -/
def execReadSoftener (q : Request) (s : State) : Result :=
  serve .query 1 q (fun s => s.sayPage (byteAt q.payload 0) s.streamSoftener) s

end Sys2Proof.Machine
end

