-- ==== Sys2Proof/Machine/StoreCmds.lean ====
section
/-! DEFINITION. The commands of the Profile and Settings store (Chapter 11). -/

namespace Sys2Proof.Machine

/-- A change of the store. -/
def State.modStore (s : State) (f : Store → Store) : State := s.withStore (f s.store)

/-! ### The profile (R165, R166) -/

/-- Table 11-1: the range of a profile field, as an inclusive interval; the masks are checked by their bits. -/
def fieldRange (index : Nat) : Option (Int × Int) :=
  match index with
  | 1 => some (200, 800)
  | 2 => some (0, 1)
  | 3 => some (1500, 8000)
  | 4 => some (2000, 12000)
  | 5 => some (0, 31)
  | 6 => some (50, 2000)
  | 7 => some (50, 2000)
  | 8 => some (250, 2000)
  | 9 => some (1000, 2000000)
  | 10 => some (1000, 2000000)
  | 11 => some (100000, 5000000)
  | 12 => some (1000, 5000)
  | 13 => some (100, 1000)
  | 14 => some (30, 900)
  | 15 => some (200, 2000)
  | 16 => some (10, 100)
  | 17 => some (5, 50)
  | 18 => some (1, 255)
  | 37 => some (0, 63)
  | 38 => some (0, 63)
  | n => if 19 ≤ n ∧ n ≤ 27 then some (0, 1023) else if 28 ≤ n ∧ n ≤ 36 then some (-400, 1500) else none

/-- R172: the value of a PROFILE FIELD, in two's complement for the temperatures. -/
def fieldValue (index raw : Nat) : Int :=
  if 28 ≤ index ∧ index ≤ 36 then signed32 raw else (raw : Int)

/-- R165: the answer to PROFILE FIELD. -/
def State.profileField (s : State) (index raw : Nat) : Answer :=
  if s.store.configured then s.say .locked
  else
    match fieldRange index with
    | none => s.say .badField
    | some range =>
      let v := fieldValue index raw
      if v < range.1 ∨ range.2 < v then s.say .badField
      else (s.modStore (fun t => { t with profile := t.profile.set (index - 1) (some v) })).done

/-- PROFILE_FIELD (R165). -/
def execProfileField (q : Request) (s : State) : Result :=
  serve .profile 5 q (fun s => s.profileField (byteAt q.payload 0) (fieldAt q.payload 1 4)) s

/-- R166, check 1: the lowest unwritten index. -/
def State.unwritten (s : State) : Option Nat :=
  (s.store.profile.findIdx? Option.isNone).map (fun i => i + 1)

/-- R166, check 2: the index of the first code not above its predecessor. -/
def State.unsorted (s : State) : Option Nat :=
  (List.range 8).findSome? (fun i => if s.field (20 + i) ≤ s.field (19 + i) then some (20 + i) else none)

/-- R166: the index that the checks of a lock name, or none where they pass. -/
def State.lockFault (s : State) : Option Nat :=
  match s.unwritten with
  | some i => some i
  | none =>
    match s.unsorted with
    | some i => some i
    | none =>
      if s.field 4 < s.field 3 then some 4
      else if s.field 9 < s.field 6 then some 9
      else if s.field 10 < s.field 7 then some 10
      else none

/-- R157: a port's rights without the classes that a mask names. -/
def Rights.narrow (r : Rights) (mask : Nat) : Rights :=
  { r with lane := r.lane && !mask.testBit 0, action := r.action && !mask.testBit 1,
           settings := r.settings && !mask.testBit 2, refill := r.refill && !mask.testBit 3,
           accounts := r.accounts && !mask.testBit 4, service := r.service && !mask.testBit 5 }

/-- R5, R8, R9, R10: the Time Base takes the lock. -/
def State.lockTimeBase (s : State) : State :=
  s.modTime (fun t =>
    { t with edgeMode := if s.field 2 = 1 then .both else .rising, mark := t.flow, stray := .watching, strayCount := 0,
             strayThreshold := some (s.toCounts 200) })

/-- R124: a stock account takes the lock: its clamp and its level. -/
def State.lockAccount (s : State) (a : Agent) : State :=
  if (s.account a).valid then s.setStock a (min (s.account a).stock (s.capacity a)) else s

/-- R109: the resin account takes the lock. -/
def State.lockResin (s : State) : State :=
  if s.softener.valid then s.modSoftener (fun f => { f with remaining := min f.remaining s.cFull }) else s

/-- R151: the Door Unit takes the lock. -/
def State.lockDoor (s : State) : State :=
  match s.accepted .rodHome with
  | none => s
  | some high => s.lockHoming (!high)

/-- R157: ports B and C are narrowed. -/
def State.lockRights (s : State) : State :=
  let b := s.ports.b
  let c := s.ports.c
  s.withPorts { s.ports with
    b := { b with rights := b.rights.narrow (s.fieldNat 37) }, c := { c with rights := c.rights.narrow (s.fieldNat 38) } }

/-- R166: the lock that passes, delivered to the blocks in the order in which R166 names their rules (log 6). -/
def State.lockProfile (s : State) : State :=
  let s1 := (s.modStore (fun t => { t with configured := true, lastRefused := 0 })).lockTimeBase.evaluate
  let s2 := s1.withEngine { s1.engine with refVolume := some s1.vref }
  (((s2.lockResin.lockAccount .detergent).lockAccount .rinse).lockDoor).lockRights

/-- R166: the answer to PROFILE LOCK. -/
def State.profileLock (s : State) : Answer :=
  if s.store.configured then s.say .locked
  else
    match s.lockFault with
    | some i => (s.modStore (fun t => { t with lastRefused := i })).say .badField (numByte i)
    | none => s.lockProfile.done

/-- PROFILE_LOCK (R166). -/
def execProfileLock (q : Request) (s : State) : Result :=
  serve .profile 0 q State.profileLock s

/-! ### Settings (R167) -/

/-- Table 11-2: the range of a setting. -/
def settingRange (index : Nat) : Option (Nat × Nat) :=
  match index with
  | 1 => some (0, 800)
  | 2 => some (0, 200)
  | 3 => some (0, 1023)
  | 4 => some (0, 1023)
  | 5 => some (0, 1023)
  | 6 => some (500, 2000)
  | 7 => some (500, 2000)
  | 8 => some (500, 2000)
  | 9 => some (500, 2000)
  | 10 => some (0, 60000)
  | 11 => some (0, 60000)
  | 12 => some (0, 60000)
  | 13 => some (0, 60000)
  | 14 => some (0, 2000000)
  | 15 => some (0, 2000000)
  | 16 => some (1000, 9000)
  | 17 => some (0, 1)
  | 18 => some (500, 850)
  | _ => none

/-- R167: the clamp against the ordered neighbours. -/
def State.orderClamp (s : State) (index v : Nat) : Nat :=
  match index with
  | 3 => min v (s.setting 4)
  | 4 => clampNat (s.setting 3) (s.setting 5) v
  | 5 => max v (s.setting 4)
  | 12 => min v (s.setting 13)
  | 13 => max v (s.setting 12)
  | _ => v

/-- R167: the value that a write stores. -/
def State.storedSetting (s : State) (index value : Nat) (range : Nat × Nat) : Nat :=
  s.orderClamp index (clampNat range.1 range.2 value)

/-- R36 and R125: a write of the heater cutoff is an evaluation of HEATER, and a write of a low mark one of the level of its agent; no
level is evaluated while the stroke volumes are unknown (log 22). -/
def State.settingEffect (s : State) (index : Nat) : State :=
  match index with
  | 14 => if s.store.configured then s.evalLevel .detergent else s
  | 15 => if s.store.configured then s.evalLevel .rinse else s
  | 18 => s.evaluate
  | _ => s

/-- R158 and R167: the SETTING_CHANGED notice, for the subscribing ports other than the writer. -/
def State.raiseSettingChanged (s : State) (p : Port) (index value : Nat) : State :=
  s.enterFor (portsWhere (fun x => (s.port x).classes.getLsbD 5 && decide (x ≠ p)))
    (s.notice .settingChanged index p.number value)

/-- R167: a write of a setting, its index known. -/
def State.storeSetting (s : State) (p : Port) (index value : Nat) (range : Nat × Nat) : Answer :=
  let v := s.storedSetting index value range
  let s1 := s.modStore (fun t => { t with settings := t.settings.set (index - 1) v })
  let s2 := if v = s.setting index then s1 else s1.raiseSettingChanged p index v
  (s2.settingEffect index).say (if v = value then .ok else .clamped) (be 4 v)

/-- R167: the answer to WRITE SETTING. -/
def State.writeSetting (s : State) (p : Port) (index value : Nat) : Answer :=
  match settingRange index with
  | none => s.say .badField
  | some range => s.storeSetting p index value range

/-- WRITE_SETTING (R167). -/
def execWriteSetting (q : Request) (s : State) : Result :=
  serve .settings 5 q (fun s => s.writeSetting q.port (byteAt q.payload 0) (fieldAt q.payload 1 4)) s

/-! ### LOAD ACCOUNTS (R168) -/

/-- A LOAD ACCOUNTS request: the value of each named account. -/
structure LoadRequest where
  resin : Option Nat
  detergent : Option Nat
  rinse : Option Nat
deriving DecidableEq, Repr

/-- R168: the request that a payload spells. -/
def loadRequest (payload : List Byte) : LoadRequest :=
  let flags := byteAt payload 0
  { resin := if flags.testBit 0 then some (fieldAt payload 1 4) else none,
    detergent := if flags.testBit 1 then some (fieldAt payload 5 4) else none,
    rinse := if flags.testBit 2 then some (fieldAt payload 9 4) else none }

/-- R168: what a resin load leaves: max(0, min(C_full, value) - tally). -/
def State.loadedResin (s : State) (value : Nat) : Nat := min s.cFull value - s.softener.tally

/-- R168: the resin load, with the test of R112. -/
def State.loadResin (s : State) : Option Nat → State
  | none => s
  | some value =>
    (s.modSoftener (fun f => { f with valid := true, remaining := s.loadedResin value, tally := 0 })).pendingAtLoad

/-- R138 and R168: a stock load, at once or held. -/
def State.loadStock (s : State) (a : Agent) : Option Nat → State
  | none => s
  | some value =>
    if s.strokeOn a then s.withAccount a { s.account a with held := some (.load value) }
    else s.declareStock a (s.loadedStock a value (s.account a).tally)

/-- R168: the tally that the reply to a stock load reckons with; for a held load the spec does not say whether the stroke in ON is
counted (log 13). -/
def State.replyTally (s : State) (a : Agent) : Nat :=
  let tally := (s.account a).tally
  if s.strokeOn a && Config.heldLoadCountsStroke s.now then sat32 (tally + s.strokeVolume a) else tally

/-- R168: the stock of an agent in the reply. -/
def State.replyStock (s : State) (a : Agent) : Option Nat → Nat
  | none => (s.account a).stock
  | some value => s.loadedStock a value (s.replyTally a)

/-- R168: the remaining in the reply. -/
def State.replyResin (s : State) : Option Nat → Nat
  | none => s.softener.remaining
  | some value => s.loadedResin value

/-- R168: whether a value is above its limit or its result is held at 0. -/
def loadClamped (limit tally : Nat) : Option Nat → Bool
  | none => false
  | some value => decide (limit < value) || decide (min limit value < tally)

/-- R168: the first named account that is VALID already. -/
def State.alreadyLoaded (s : State) (r : LoadRequest) : Option Nat :=
  if r.resin.isSome && s.softener.valid then some 0
  else if r.detergent.isSome && (s.account .detergent).valid then some 1
  else if r.rinse.isSome && (s.account .rinse).valid then some 2
  else none

/-- R168: every named account is loaded in the one event, the resin first, then DETERGENT, then RINSE.  R168 gives no order of their notices:
REGEN_PENDING is entered before the STOCK of DETERGENT, and that before the STOCK of RINSE (DESIGN CHOICE, log 7). -/
def State.loadAll (s : State) (r : LoadRequest) : Answer :=
  let clamped :=
    loadClamped s.cFull s.softener.tally r.resin
      || loadClamped (s.capacity .detergent) (s.replyTally .detergent) r.detergent
      || loadClamped (s.capacity .rinse) (s.replyTally .rinse) r.rinse
  let s1 := ((s.loadResin r.resin).loadStock .detergent r.detergent).loadStock .rinse r.rinse
  s1.say (if clamped then .clamped else .ok)
    (be 4 (s.replyResin r.resin) ++ be 4 (s.replyStock .detergent r.detergent) ++ be 4 (s.replyStock .rinse r.rinse))

/-- R168 and R172: the answer to LOAD ACCOUNTS. -/
def State.loadAccounts (s : State) (payload : List Byte) : Answer :=
  if 7 < byteAt payload 0 then s.say .badField
  else if !s.store.configured then s.say .notReady
  else if byteAt payload 0 = 0 then s.say .badField
  else
    match s.alreadyLoaded (loadRequest payload) with
    | some n => s.say .wrongState (numByte n)
    | none => s.loadAll (loadRequest payload)

/-- LOAD_ACCOUNTS (R168). -/
def execLoadAccounts (q : Request) (s : State) : Result :=
  serve .accounts 13 q (fun s => s.loadAccounts q.payload) s

/-! ### The cycle record (R169, R170) -/

/-- R169: the record that BEGIN CYCLE opens. -/
def CycleRec.begin (c : CycleRec) (now : Word) : CycleRec :=
  { number := (c.number + 1) % 65536, state := .open, start := some now, endTime := none, water := 0, detergent := 0,
    rinse := 0, heaterMs := 0, full := 0, weak := 0, peak := none, fault := false }

/-- R30, R59, R86, R169: a cycle begins. -/
def State.startCycle (s : State) : State :=
  let s1 := s.withCycle (s.store.cycle.begin s.now)
  let s2 := s1.withEngine { s1.engine with refVolume := some s1.vref }
  (s2.withTurb { s2.sampler.turb with soilClass := 1, sampled := false }).withdrawActions

/-- R169: the answer to BEGIN CYCLE. -/
def State.beginCycle (s : State) : Answer :=
  if !s.store.configured then s.say .notReady
  else if s.store.cycle.state = .open then s.say .wrongState
  else s.startCycle.say .ok (be 2 (s.store.cycle.begin s.now).number)

/-- BEGIN_CYCLE (R169). -/
def execBeginCycle (q : Request) (s : State) : Result :=
  serve .lane 0 q State.beginCycle s

/-- R59 and R169: the answer to END CYCLE. -/
def State.endCycle (s : State) : Answer :=
  if s.store.cycle.state = .open then
    (s.withCycle { s.store.cycle with state := .closed, endTime := some s.now }).withdrawActions.say .ok
      (be 2 s.store.cycle.number)
  else s.say .wrongState

/-- END_CYCLE (R169). -/
def execEndCycle (q : Request) (s : State) : Result :=
  serve .lane 0 q State.endCycle s

/-! ### Reading (R170, R171) -/

/-- READ_CYCLE (R170). -/
def execReadCycle (q : Request) (s : State) : Result :=
  serve .query 1 q (fun s => s.sayPage (byteAt q.payload 0) s.streamCycle) s

/-- READ_PROFILE (R171). -/
def execReadProfile (q : Request) (s : State) : Result :=
  serve .query 1 q (fun s => s.sayPage (byteAt q.payload 0) s.streamProfile) s

/-- READ_SETTINGS (R171). -/
def execReadSettings (q : Request) (s : State) : Result :=
  serve .query 1 q (fun s => s.sayPage (byteAt q.payload 0) s.streamSettings) s

end Sys2Proof.Machine
end

