-- ==== Sys2Proof/Machine/TimeBase.lean ====
section
/-! DEFINITION. The Time Base: the tick, the FLOW edge, the supply monitor (Chapter 1). -/

namespace Sys2Proof.Machine

/-! ### The tick (R1) -/

/-- R72 and R76: a lane's record at an increase of the run clock. -/
def LaneRec.tick (r : LaneRec) : LaneRec :=
  { r with attemptDue := decide (r.state = .ready), running := if r.inTry then r.running + 1 else r.running }

/-- R100 and R104: the time of a CIRCULATE or PAUSE goes on, and is its actual value. -/
def StepRec.progressTick (t : StepRec) : StepRec :=
  { t with progress := t.progress + 1, actual := fit32 (t.progress + 1) }

/-- R97, R100, R104, R116: the work of a RUNNING WATER lane at an increase of the run clock. -/
def State.waterTick (s : State) : State :=
  if (s.lane .water).state ≠ .running then s
  else
    match s.head .water with
    | none => s
    | some t =>
      match t.work with
      | .drain _ =>
        if s.accepted .levelLow = some false then s.modHead .water (fun t => { t with runOn := t.runOn + 1 }) else s
      | .circulate _ _ => s.modHead .water StepRec.progressTick
      | .pause _ => s.modHead .water StepRec.progressTick
      | .regenerate _ =>
        if s.softener.phase = .soak then s.modSoftener (fun f => { f with soak := f.soak + 1 }) else s
      | .fill _ _ | .heat _ _ | .autoOpen | .dose _ _ => s

/-- R44: the clean count. -/
def State.cleanTick (s : State) : State :=
  if s.guard.latched && !s.pins.inletSn && !s.pins.heaterSn then
    s.withGuard { s.guard with cleanCount := min 10000 (s.guard.cleanCount + 1) }
  else s

/-- R170: the heater-on time. -/
def State.heaterTick (s : State) : State :=
  if s.energised .heater then s.cycleEvent (fun c => { c with heaterMs := sat32 (c.heaterMs + 1) }) else s

/-- R1: the run clock increases by one, and the counts of milliseconds go on. -/
def State.tick (s : State) : State :=
  let s1 := s.modTime (fun t => { t with clock := t.clock + 1 })
  let s2 := (s1.modLane .water LaneRec.tick).modLane .dose LaneRec.tick
  s2.waterTick.cleanTick.heaterTick

/-- RUN_CLOCK_TICK (R1). -/
def execRunClockTick (s : State) : Result :=
  unlessHeld s State.tick

/-! ### The FLOW edge (R4, R5) -/

/-- R5: whether the edge mode counts an edge of this direction. -/
def EdgeMode.counts : EdgeMode → Bool → Bool
  | .rising, up => up
  | .both, _ => true

/-- R9 and R10: the stray-flow detector takes a counted edge. -/
def State.strayEdge (s : State) : State :=
  match s.time.stray with
  | .disarmed | .passive => s
  | .reported => s.modTime (fun t => { t with strayCount := sat32 (t.strayCount + 1) })
  | .watching =>
    let s1 := s.modTime (fun t => { t with strayCount := t.strayCount + 1 })
    if s.time.strayThreshold = some (s.time.strayCount + 1) then
      (s1.modTime (fun t => { t with stray := .reported })).raiseByClass
        (s.notice .strayFlow 0 (s.time.strayCount + 1) (s.time.strayCount + 1))
    else s1

/-- R91, R93, R95: an ACTIVE FILL takes a counted edge. -/
def State.fillEdge (s : State) : State :=
  if s.activeWork .water (fun w => w.isFill) then
    let s1 :=
      if s.energised .inlet && s.demands .inlet .water then s.withEngine { s.engine with fillNoFlow := s.timer 5000 } else s
    let s2 := s1.modHead .water (fun t => { t with count := t.count + 1, actual := fit32 (s.toMl (t.count + 1)) })
    match s2.head .water with
    | none => s2
    | some t =>
      if t.count = t.countTarget ∧ (s2.lane .water).tryInProgress = true then
        s2.succeed .water ResultFlags.clear (some (s.toMl t.count))
      else s2
  else s

/-- R4: a FLOW edge of the selected kind, taken by the stray-flow detector, a FILL and the Softener in this order: STRAY_FLOW comes before the
STEP_DONE of a paused FILL that the same edge completes (DESIGN CHOICE, log 7). -/
def State.countEdge (s : State) : State :=
  ((s.modTime (fun t => { t with flow := t.flow + 1 })).strayEdge.fillEdge).regenEdge

/-- FLOW_EDGE (R4). -/
def execFlowEdge (rising : Bool) (s : State) : Result :=
  unlessHeld s (fun s => if s.time.edgeMode.counts rising then s.countEdge else s)

/-! ### The supply monitor (R11 to R15) -/

/-- R12: the settle timer starts. -/
def State.startSettle (s : State) : State := s.modTime (fun t => { t with settle := s.timer 200 })

/-- ZERO_CROSS_EDGE (R11, R12): a rising edge. -/
def execZeroCrossEdge (s : State) : Result :=
  unlessHeld s (fun s =>
    let s1 := s.modTime (fun t => { t with zcPresent := true, lossWindow := s.timer 61 })
    if s.time.supply = .lost ∧ s.time.zcPresent = false ∧ s.pins.railOk = true then s1.startSettle else s1)

/-- LOSS_WINDOW_EXPIRY (R11, R13). -/
def execLossWindowExpiry (order : List Receiver) (s : State) : Result :=
  unlessHeld s (fun s =>
    if s.due s.time.lossWindow then
      let s1 := s.modTime (fun t => { t with lossWindow := none, zcPresent := false, settle := none })
      if s.supplyReady then s1.supplyBecomesLost .zeroCross order else s1
    else s)

/-- The level of RAIL_OK is taken (R11). -/
def State.takeRail (s : State) (level : Bool) : State := s.withPins { s.pins with railOk := level }

/-- RAIL_OK_RISE (R11, R12). -/
def execRailOkRise (s : State) : Result :=
  .next (
    if s.resetHeld then s.takeRail true
    else if s.pins.railOk then s
    else if s.time.supply = .lost ∧ s.time.zcPresent = true then (s.takeRail true).startSettle
    else s.takeRail true)

/-- RAIL_OK_FALL (R12, R13). -/
def execRailOkFall (order : List Receiver) (s : State) : Result :=
  .next (
    if s.resetHeld then s.takeRail false
    else if !s.pins.railOk then s
    else
      let s1 := (s.takeRail false).modTime (fun t => { t with settle := none })
      if s.supplyReady then s1.supplyBecomesLost .railOk order else s1)

/-- SUPPLY_SETTLE_EXPIRY (R12). -/
def execSupplySettleExpiry (order : List Receiver) (s : State) : Result :=
  unlessHeld s (fun s => if s.due s.time.settle then s.supplyBecomesReady order else s)

/-- READ_TIME_BASE (R16). -/
def execReadTimeBase (q : Request) (s : State) : Result :=
  serve .query 1 q (fun s => s.sayPage (byteAt q.payload 0) s.streamTimeBase) s

end Sys2Proof.Machine
end

