-- ==== Sys2Proof/Machine/WaterSteps.lean ====
section
/-! DEFINITION. The events of WATER lane steps (Chapter 6). -/

namespace Sys2Proof.Machine

/-- FILL_NO_FLOW_EXPIRY (R95). -/
def execFillNoFlowExpiry (s : State) : Result :=
  unlessHeld s (fun s =>
    if s.due s.engine.fillNoFlow && s.activeWork .water (fun w => w.isFill) then
      (s.withEngine { s.engine with fillNoFlow := none }).failCounted .water .noFlow
    else s)

/-- R97: whether the run-on of a RUNNING DRAIN is complete. -/
def State.runOnComplete (s : State) (t : StepRec) : Bool :=
  match t.work with
  | .drain runOn => decide (runOn * 1000 ≤ t.runOn) && decide (s.accepted .levelLow = some false)
  | .fill _ _ | .circulate _ _ | .heat _ _ | .pause _ | .regenerate _ | .autoOpen | .dose _ _ => false

/-- R100: whether a RUNNING CIRCULATE has circulated its duration. -/
def StepRec.circulated (t : StepRec) : Bool :=
  match t.work with
  | .circulate duration _ => decide (duration * 100 ≤ t.progress)
  | .fill _ _ | .drain _ | .heat _ _ | .pause _ | .regenerate _ | .autoOpen | .dose _ _ => false

/-- R104: whether a RUNNING PAUSE has lasted its duration. -/
def StepRec.paused (t : StepRec) : Bool :=
  match t.work with
  | .pause duration => decide (duration * 100 ≤ t.progress)
  | .fill _ _ | .drain _ | .circulate _ _ | .heat _ _ | .regenerate _ | .autoOpen | .dose _ _ => false

/-- A RUNNING WATER lane whose head meets a test. -/
def State.waterMeets (s : State) (f : StepRec → Bool) : Bool :=
  decide ((s.lane .water).state = .running) && s.headIs .water f

/-- DRAIN_RUN_ON_COMPLETE (R97): the actual value is the running time of the try. -/
def execDrainRunOnComplete (s : State) : Result :=
  unlessHeld s (fun s =>
    if s.waterMeets s.runOnComplete then s.succeed .water ResultFlags.clear (some (s.lane .water).running) else s)

/-- CIRCULATE_COMPLETE (R100): the actual value is the circulated time. -/
def execCirculateComplete (s : State) : Result :=
  unlessHeld s (fun s => if s.waterMeets StepRec.circulated then s.succeed .water ResultFlags.clear none else s)

/-- WATER_DRY_WINDOW_EXPIRY (R100, R103). -/
def execWaterDryWindowExpiry (s : State) : Result :=
  unlessHeld s (fun s =>
    if s.due s.engine.waterDry then
      (s.withEngine { s.engine with waterDry := none }).failCounted .water .noWater
    else s)

/-- PAUSE_STEP_COMPLETE (R104): the actual value is the elapsed time. -/
def execPauseStepComplete (s : State) : Result :=
  unlessHeld s (fun s => if s.waterMeets StepRec.paused then s.succeed .water ResultFlags.clear none else s)

end Sys2Proof.Machine
end

