-- ==== Sys2Proof/Machine/Dispatch.lean ====
section
/-! DEFINITION. The dispatch: one arm for each command. -/

namespace Sys2Proof.Machine

open Sys2Proof

/-- The effect of a command on everything but the queue of waiting commands. -/
def exec (i : Instr) (s : State) : Host.Outcome State Fault Refusal :=
  match i with
  | .powerOn pins => Sys2Proof.Machine.execPowerOn pins s
  | .resetLine edge => Sys2Proof.Machine.execResetLine edge s
  | .resetPart q => Sys2Proof.Machine.execResetPart q s
  | .runClockTick => Sys2Proof.Machine.execRunClockTick s
  | .flowEdge rising => Sys2Proof.Machine.execFlowEdge rising s
  | .zeroCrossEdge => Sys2Proof.Machine.execZeroCrossEdge s
  | .lossWindowExpiry order => Sys2Proof.Machine.execLossWindowExpiry order s
  | .railOkRise => Sys2Proof.Machine.execRailOkRise s
  | .railOkFall order => Sys2Proof.Machine.execRailOkFall order s
  | .supplySettleExpiry order => Sys2Proof.Machine.execSupplySettleExpiry order s
  | .readTimeBase q => Sys2Proof.Machine.execReadTimeBase q s
  | .filteredPinChange pin level => Sys2Proof.Machine.execFilteredPinChange pin level s
  | .debounceTimerExpiry pin order => Sys2Proof.Machine.execDebounceTimerExpiry pin order s
  | .rodOcChange level => Sys2Proof.Machine.execRodOcChange level s
  | .senseLineChange l level => Sys2Proof.Machine.execSenseLineChange l level s
  | .readInputs q => Sys2Proof.Machine.execReadInputs q s
  | .tempSampleTimerExpiry code order => Sys2Proof.Machine.execTempSampleTimerExpiry code order s
  | .ledTimerExpiry code => Sys2Proof.Machine.execLedTimerExpiry code s
  | .sampleNow q => Sys2Proof.Machine.execSampleNow q s
  | .readSamples q => Sys2Proof.Machine.execReadSamples q s
  | .stuckOnWindowExpiry o => Sys2Proof.Machine.execStuckOnWindowExpiry o s
  | .stuckOffWindowExpiry o => Sys2Proof.Machine.execStuckOffWindowExpiry o s
  | .cleanCountReached => Sys2Proof.Machine.execCleanCountReached s
  | .clearFault q => Sys2Proof.Machine.execClearFault q s
  | .latchDrainExpiry => Sys2Proof.Machine.execLatchDrainExpiry s
  | .floodClearTimerExpiry => Sys2Proof.Machine.execFloodClearTimerExpiry s
  | .testOutput q => Sys2Proof.Machine.execTestOutput q s
  | .testTimerExpiry => Sys2Proof.Machine.execTestTimerExpiry s
  | .readOutputs q => Sys2Proof.Machine.execReadOutputs q s
  | .postAction q => Sys2Proof.Machine.execPostAction q s
  | .actionDueSet r => Sys2Proof.Machine.execActionDueSet r s
  | .cancelAction q => Sys2Proof.Machine.execCancelAction q s
  | .readActions q => Sys2Proof.Machine.execReadActions q s
  | .claimLane q => Sys2Proof.Machine.execClaimLane q s
  | .releaseLane q => Sys2Proof.Machine.execReleaseLane q s
  | .takeLane q => Sys2Proof.Machine.execTakeLane q s
  | .postStep q => Sys2Proof.Machine.execPostStep q s
  | .startAttempt l => Sys2Proof.Machine.execStartAttempt l s
  | .timeLimitExpiry l => Sys2Proof.Machine.execTimeLimitExpiry l s
  | .retryTimerExpiry l => Sys2Proof.Machine.execRetryTimerExpiry l s
  | .pauseSettleExpiry l => Sys2Proof.Machine.execPauseSettleExpiry l s
  | .skipStep q => Sys2Proof.Machine.execSkipStep q s
  | .retryStep q => Sys2Proof.Machine.execRetryStep q s
  | .flushLane q => Sys2Proof.Machine.execFlushLane q s
  | .holdLane q => Sys2Proof.Machine.execHoldLane q s
  | .resumeLane q => Sys2Proof.Machine.execResumeLane q s
  | .readLane q => Sys2Proof.Machine.execReadLane q s
  | .readStep q => Sys2Proof.Machine.execReadStep q s
  | .fillNoFlowExpiry => Sys2Proof.Machine.execFillNoFlowExpiry s
  | .drainRunOnComplete => Sys2Proof.Machine.execDrainRunOnComplete s
  | .circulateComplete => Sys2Proof.Machine.execCirculateComplete s
  | .waterDryWindowExpiry => Sys2Proof.Machine.execWaterDryWindowExpiry s
  | .pauseStepComplete => Sys2Proof.Machine.execPauseStepComplete s
  | .soakComplete => Sys2Proof.Machine.execSoakComplete s
  | .regenNoFlowExpiry => Sys2Proof.Machine.execRegenNoFlowExpiry s
  | .resetResin q => Sys2Proof.Machine.execResetResin q s
  | .readSoftener q => Sys2Proof.Machine.execReadSoftener q s
  | .doseOnTimerExpiry => Sys2Proof.Machine.execDoseOnTimerExpiry s
  | .doseOffTimerExpiry => Sys2Proof.Machine.execDoseOffTimerExpiry s
  | .doseDryWindowExpiry => Sys2Proof.Machine.execDoseDryWindowExpiry s
  | .refill q => Sys2Proof.Machine.execRefill q s
  | .setStock q => Sys2Proof.Machine.execSetStock q s
  | .readDosing q => Sys2Proof.Machine.execReadDosing q s
  | .extendTimerExpiry => Sys2Proof.Machine.execExtendTimerExpiry s
  | .holdTimerExpiry => Sys2Proof.Machine.execHoldTimerExpiry s
  | .deadTimeExpiry => Sys2Proof.Machine.execDeadTimeExpiry s
  | .retractTimerExpiry => Sys2Proof.Machine.execRetractTimerExpiry s
  | .clearRodFault q => Sys2Proof.Machine.execClearRodFault q s
  | .readDoor q => Sys2Proof.Machine.execReadDoor q s
  | .badFrame p bytes => Sys2Proof.Machine.execBadFrame p bytes s
  | .unknownRequest p code tag payload => Sys2Proof.Machine.execUnknownRequest p code tag payload s
  | .null q => Sys2Proof.Machine.execNull q s
  | .subscribe q => Sys2Proof.Machine.execSubscribe q s
  | .takeNotices q => Sys2Proof.Machine.execTakeNotices q s
  | .readPort q => Sys2Proof.Machine.execReadPort q s
  | .profileField q => Sys2Proof.Machine.execProfileField q s
  | .profileLock q => Sys2Proof.Machine.execProfileLock q s
  | .writeSetting q => Sys2Proof.Machine.execWriteSetting q s
  | .loadAccounts q => Sys2Proof.Machine.execLoadAccounts q s
  | .beginCycle q => Sys2Proof.Machine.execBeginCycle q s
  | .endCycle q => Sys2Proof.Machine.execEndCycle q s
  | .readCycle q => Sys2Proof.Machine.execReadCycle q s
  | .readProfile q => Sys2Proof.Machine.execReadProfile q s
  | .readSettings q => Sys2Proof.Machine.execReadSettings q s

end Sys2Proof.Machine
end

