-- ==== Sys2Proof/Safety.lean ====
section
/-! DEFINITION. What counts as a safe state of the KW46: the interlocks that the spec gives as interlocks (R36, R38, R43), and the
bounds of the queues (R52, R65, R70, R159), and what the statements speak of besides. -/

namespace Sys2Proof.Machine

/-- R36: the interlock of the inlet path, for INLET or REGEN. -/
def State.inletSafe (s : State) : Bool :=
  (!s.energised .inlet && !s.energised .regen)
    || (s.doorClosed && s.floatClear && !s.guard.flood && s.supplyReady)

/-- R36: the interlock of the heater. -/
def State.heaterSafe (s : State) : Bool :=
  !s.energised .heater
    || (s.doorClosed && s.levelWet && s.energised .circ && s.tempBelowCutoff && !s.guard.flood)

/-- R38: the relay is closed only with the supply READY, the profile locked and the latch CLEAR. -/
def State.relaySafe (s : State) : Bool :=
  !s.energised .mainsRelay || (s.supplyReady && s.store.configured && !s.guard.latched)

/-- R43: while the latch is LATCHED, MAINS_RELAY is open and INLET, REGEN, HEATER, CIRC, DOSE_D and DOSE_R are de-energised. -/
def State.latchSafe (s : State) : Bool :=
  !s.guard.latched
    || (!s.energised .mainsRelay && !s.energised .inlet && !s.energised .regen && !s.energised .heater
      && !s.energised .circ && !s.energised .doseD && !s.energised .doseR)

/-- A state whose outputs keep the interlocks. -/
def State.safe (s : State) : Bool := s.inletSafe && s.heaterSafe && s.relaySafe && s.latchSafe

/-- R159: a port's queue has at most 16 notices, and its held-urgent set is not empty only while the queue has 16. -/
def PortRec.bounded (p : PortRec) : Bool :=
  decide (p.queue.length ≤ 16) && (p.held.isEmpty || decide (p.queue.length = 16))

/-- R159 for the three ports. -/
def State.portsBounded (s : State) : Bool := s.ports.a.bounded && s.ports.b.bounded && s.ports.c.bounded

/-- R52: the Action Table has 16 slots. -/
def State.tableBounded (s : State) : Bool := decide (s.actions.length = 16)

/-- R65 and R70: a lane's queue has at most 8 steps, each of a kind of the lane. -/
def State.laneBounded (s : State) (l : Lane) : Bool :=
  decide ((s.lane l).queue.length ≤ 8) && (s.lane l).queue.all (fun t => decide (t.work.lane = l))

/-- R65 and R70 for both lanes. -/
def State.lanesBounded (s : State) : Bool := s.laneBounded .water && s.laneBounded .dose

/-- R52, R65, R70, R159: the bounds of every queue. -/
def State.bounded (s : State) : Bool := s.portsBounded && s.tableBounded && s.lanesBounded

/-- R34: every output is energised exactly where its demand set and permit give it, as after an evaluation. -/
def State.settled (s : State) : Bool := Output.evalOrder.all (fun o => s.energised o == s.wanted o)

/-- R15 and R171: while RESET_N is held low the supply state is LOST. -/
def State.heldLost (s : State) : Bool := !s.resetHeld || !s.supplyReady

/-- R167: every setting lies in its range of Table 11-2, and the ordered neighbours keep their order. -/
def State.settingsOk (s : State) : Bool :=
  decide (s.store.settings.length = 18)
    && (List.range 18).all (fun i =>
      match settingRange (i + 1) with
      | some r => decide (r.1 ≤ s.setting (i + 1)) && decide (s.setting (i + 1) ≤ r.2)
      | none => true)
    && decide (s.setting 3 ≤ s.setting 4) && decide (s.setting 4 ≤ s.setting 5) && decide (s.setting 12 ≤ s.setting 13)

/-! ### Requests and replies (R155 to R157) -/

/-- R154 and R164: the port takes the request of an exchange that ends: RESET_N is high, and no reset has cut the exchange. -/
abbrev State.takes (s : State) (p : Port) : Prop :=
  s.resetHeld = false ∧ (s.port p).waitCs = false

/-- R156: a request that its port hands to the block that owns it. -/
abbrev State.hands (s : State) (q : Request) (cls : RightsClass) (len : Nat) : Prop :=
  s.takes q.port ∧ (s.port q.port).rights.has cls = true ∧ q.payload.length = len

/-- R155 and R156: the state with the reply to a request in the slot of its port; the reply echoes the tag. -/
def State.reply (s : State) (q : Request) (status : Status) (payload : List Byte := []) : State :=
  s.setReply q.port { status := status, tag := q.tag, payload := payload }

/-- R173: the reply to a READ of a page of a stream: the page number, the number of the last page and the bytes of the page, or
BAD_FIELD with the last page for a page beyond it. -/
def State.replyPage (s : State) (q : Request) (page : Byte) (stream : List Byte) : State :=
  if page.toNat ≤ (stream.length - 1) / 26 then
    s.reply q .ok (page :: BitVec.ofNat 8 ((stream.length - 1) / 26) :: (stream.drop (26 * page.toNat)).take 26)
  else s.reply q .badField [BitVec.ofNat 8 ((stream.length - 1) / 26)]

/-! ### Stock accounts (R125) -/

/-- R125: what an account becomes when it holds a stock: its level by the stroke volume and the low mark. -/
def State.leveled (s : State) (a : Agent) (acc : StockAccount) : StockAccount :=
  { acc with level :=
      if acc.stock < s.strokeVolume a then .empty
      else if acc.stock < s.lowMark a then .low
      else .ok }

/-- R125: `u` is `s` with the account `acc` of an agent, its level evaluated, and with a STOCK notice at each subscribed port where the
level has become LOW or EMPTY. -/
def State.takesAccount (s u : State) (a : Agent) (acc : StockAccount) : Prop :=
  u = (s.withAccount a (s.leveled a acc)).withPorts u.ports
  ∧ ∀ p, u.port p =
      if (s.leveled a acc).level ≠ acc.level ∧ (s.leveled a acc).level ≠ .ok ∧ (s.port p).classes.getLsbD 3 = true then
        (s.port p).enter
          { kind := .stock, subject := BitVec.ofNat 8 a.number,
            reference := if (s.leveled a acc).level = .low then 1 else 2, value := BitVec.ofNat 32 acc.stock,
            time := s.time.clock }
      else s.port p

/-! ### The rod (Chapter 9) -/

/-- R144 to R146: the Door Unit after a move was cut at the run clock of `s`: braked for 50 ms toward a retract that will report `report`. -/
def State.rodBraked (s : State) (report : RodReport) : DoorUnit :=
  { s.door with rod := .braking, drive := .brake, nextMove := .retract, report := report, extendTimer := none, holdTimer := none,
                deadTimer := some (s.time.clock + 50) }

/-- R151: the Door Unit after a homing errand began: braked for 50 ms toward a retract, or until the supply is READY. -/
def State.rodHoming (s : State) (cause : HomingCause) : DoorUnit :=
  if s.time.supply = .ready then
    { s.door with errand := .homing, cause := some cause, rod := .braking, drive := .brake, supplyHold := false,
                  nextMove := .retract, deadTimer := some (s.time.clock + 50) }
  else { s.door with errand := .homing, cause := some cause, rod := .braking, drive := .brake, supplyHold := true }

/-- R147: the Door Unit after its rod came home and an OPENING errand was settled; `ajar` is the door mode. -/
def State.rodSettled (s : State) (ajar : Bool) : DoorUnit :=
  { s.door with rod := .home, drive := .brake, retractTimer := none, errand := .none, cause := none, report := .none, ajar := ajar }

/-! ### Starts and regenerations -/

/-- R72 to R74: the DOSE lane's start attempt is due, with the supply READY, no flood, the latch CLEAR, no ACTIVE FILL, and no attempt of a
FILL that comes first. -/
def State.attemptsDose (s : State) (h : StepRec) (rest : List StepRec) : Prop :=
  (s.lane .dose).state = .ready ∧ (s.lane .dose).attemptDue = true ∧ (s.lane .dose).queue = h :: rest
  ∧ s.time.supply = .ready ∧ s.guard.flood = false ∧ s.guard.latched = false
  ∧ ¬ (∃ w, s.head .water = some w ∧ w.work.isFill = true
    ∧ (w.status = .active ∨ (s.lane .water).state = .ready ∧ (s.lane .water).attemptDue = true))

/-- R72 to R75: the WATER lane's start attempt is due, with the supply READY, no flood and the latch CLEAR. -/
abbrev State.attemptsWater (s : State) (h : StepRec) (rest : List StepRec) : Prop :=
  (s.lane .water).state = .ready ∧ (s.lane .water).attemptDue = true ∧ (s.lane .water).queue = h :: rest
  ∧ s.time.supply = .ready ∧ s.guard.flood = false ∧ s.guard.latched = false

/-- R113 and R121: `t` is the part after its regeneration of `s` was abandoned: no demand, phase NONE, no counts, the pending count
exempt, and the account as it stood. -/
def State.abandoned (s t : State) : Prop :=
  (∀ o, t.demands o .softener = false)
  ∧ t.softener = { s.softener with
      phase := .none, brine := 0, soak := 0, rinse := 0, noFlow := none, exempt := (t.time.flow - t.time.mark).toNat }

/-- R118 and Table 7-5: `t` is the part after the regeneration of `s`, whose step is `h` before `rest`, was complete with `counts` counts
of water, SHORT or not: the account restored by the salt, and the step done. -/
def State.regenerated (s t : State) (h : StepRec) (rest : List StepRec) (counts : Nat) (short : Bool) : Prop :=
  t.settled = true ∧ (∀ o, t.demands o .softener = false) ∧ t.softener.phase = .none
  ∧ t.softener.valid = (s.softener.valid || s.saltClear)
  ∧ t.softener.remaining = (if s.saltClear then s.cFull else if s.softener.valid then
      min s.cFull (s.softener.remaining + 3 * s.cFull / 10) else s.softener.remaining)
  ∧ t.softener.pendingFlag = (s.softener.pendingFlag && !s.saltClear
      && !(s.softener.valid && decide (s.regenThreshold
        ≤ min s.cFull (s.softener.remaining + 3 * s.cFull / 10) * 10000 / s.cFull)))
  ∧ t.softener.tally = (if s.saltClear && !s.softener.valid then 0 else s.softener.tally)
  ∧ (t.lane .water).queue = rest
  ∧ (t.lane .water).last = some { manner := .done, step := { h with
      status := .done, result := .ok, endTime := some s.time.clock, actual := fit32 (s.toMl counts),
      flags := { ResultFlags.clear with short := short, weak := !s.saltClear } } }

end Sys2Proof.Machine

namespace Sys2Proof

open Machine

/-- Whether a command is a reset (section 0.12). -/
def Instr.isReset : Instr → Bool
  | .powerOn _ => true
  | .resetLine _ => true
  | .resetPart _ => true
  | _ => false

/-- Table 10-3: the rights class of a request; none for NULL, which has none, and for what is no request. -/
def Instr.rightsClass (i : Instr) : Option RightsClass :=
  match i with
  | .subscribe _ | .takeNotices _ | .readPort _ | .readTimeBase _ | .readInputs _ | .readSamples _ | .readOutputs _
  | .readActions _ | .readLane _ | .readStep _ | .readSoftener _ | .readDosing _ | .readDoor _ | .readProfile _
  | .readSettings _ | .readCycle _ => some .query
  | .sampleNow _ | .postAction _ | .cancelAction _ => some .action
  | .clearFault _ | .testOutput _ | .clearRodFault _ => some .service
  | .claimLane _ | .releaseLane _ | .takeLane _ | .postStep _ | .skipStep _ | .retryStep _ | .flushLane _ | .holdLane _
  | .resumeLane _ | .beginCycle _ | .endCycle _ => some .lane
  | .resetResin _ | .setStock _ | .loadAccounts _ => some .accounts
  | .refill _ => some .refill
  | .profileField _ | .profileLock _ | .resetPart _ => some .profile
  | .writeSetting _ => some .settings
  | _ => none

/-- Table 12-2: the payload length of a request. -/
def Instr.payloadLength (i : Instr) : Option Nat :=
  match i with
  | .null _ | .takeNotices _ | .sampleNow _ | .beginCycle _ | .endCycle _ | .resetResin _ | .clearFault _
  | .clearRodFault _ | .profileLock _ | .resetPart _ => some 0
  | .readPort _ | .readTimeBase _ | .readInputs _ | .readSamples _ | .readOutputs _ | .readActions _ | .readSoftener _
  | .readDosing _ | .readDoor _ | .readProfile _ | .readSettings _ | .readCycle _ | .cancelAction _ | .claimLane _
  | .releaseLane _ | .takeLane _ | .skipStep _ | .retryStep _ | .flushLane _ | .holdLane _ | .resumeLane _ => some 1
  | .readLane _ | .testOutput _ => some 2
  | .subscribe _ | .readStep _ => some 3
  | .writeSetting _ | .refill _ | .setStock _ | .profileField _ => some 5
  | .postAction _ => some 9
  | .postStep _ => some 10
  | .loadAccounts _ => some 13
  | _ => none

end Sys2Proof

namespace Sys2Proof.Machine

/-! ### What only a command of its own changes -/

/-- The routing, the reply slot and the cut exchange of a port, which no notice changes (R154, R157, R160, R164). -/
structure PortFace where
  reply : Reply
  classes : BitVec 6
  inputMask : BitVec 6
  threshold : Nat
  rights : Rights
  waitCs : Bool
deriving DecidableEq, Repr

/-- A port without its notices. -/
def PortRec.face (p : PortRec) : PortFace :=
  { reply := p.reply, classes := p.classes, inputMask := p.inputMask, threshold := p.threshold, rights := p.rights,
    waitCs := p.waitCs }

/-- The state that no event inside the part changes but the one that the spec gives for it: pins, filtered inputs, clock, flow
counter, supply monitor, temperature reading, flood, fault latch, latch drain, Action Table, lane holders, ports apart from their
notices, profile, settings, reset cause, and the queue of commands. -/
structure Surroundings where
  resetHeld : Bool
  pins : Pins
  inputs : PerInput FilteredInput
  clock : Word
  flow : Word
  edgeMode : EdgeMode
  strayThreshold : Option Nat
  supply : Supply
  zcPresent : Bool
  lossWindow : Timer
  settle : Timer
  lossCause : Option LossCause
  temp : TempReading
  tempTimer : Timer
  actions : List (Option ActionEntry)
  waterHolder : Option Port
  doseHolder : Option Port
  faceA : PortFace
  faceB : PortFace
  faceC : PortFace
  configured : Bool
  profile : List (Option Int)
  lastRefused : Nat
  settings : List Nat
  resetKind : ResetKind
  warmCount : Nat
  flood : Bool
  floodStart : Option Word
  latched : Bool
  record : Option FaultRecord
  cleanCount : Nat
  latchDrain : Timer
  drainAtReady : Bool
  pending : List Instr
deriving DecidableEq, Repr

/-- The surroundings of a state. -/
def State.surroundings (s : State) : Surroundings :=
  { resetHeld := s.resetHeld, pins := s.pins, inputs := s.inputs, clock := s.time.clock, flow := s.time.flow,
    edgeMode := s.time.edgeMode, strayThreshold := s.time.strayThreshold, supply := s.time.supply,
    zcPresent := s.time.zcPresent, lossWindow := s.time.lossWindow, settle := s.time.settle, lossCause := s.time.lossCause,
    temp := s.sampler.temp, tempTimer := s.sampler.tempTimer, actions := s.actions,
    waterHolder := s.engine.lanes.water.holder, doseHolder := s.engine.lanes.dose.holder,
    faceA := s.ports.a.face, faceB := s.ports.b.face, faceC := s.ports.c.face,
    configured := s.store.configured, profile := s.store.profile, lastRefused := s.store.lastRefused,
    settings := s.store.settings, resetKind := s.store.resetKind, warmCount := s.store.warmCount, flood := s.guard.flood,
    floodStart := s.guard.floodStart, latched := s.guard.latched, record := s.guard.record,
    cleanCount := s.guard.cleanCount, latchDrain := s.guard.latchDrain, drainAtReady := s.guard.drainAtReady,
    pending := s.pending }

end Sys2Proof.Machine
end

