-- ==== Sys2Proof/WellFormed.lean ====
section
/-! DEFINITION. Which terms of `Instr` stand for a command the part can be given: frames that fit the frame check, codes of the
right table, and an order that names each receiver of its event once. -/

namespace Sys2Proof.Machine

/-- An order of an event's receivers: each of them once and no other block. -/
def orderOk (order all : List Receiver) : Bool :=
  order.isPerm all

/-- A request's payload has a length a frame can carry (R155). -/
def Request.wf (q : Request) : Bool :=
  q.payload.length ≤ 28

end Sys2Proof.Machine

namespace Sys2Proof

open Machine

/-- A command the part can be given. -/
def Instr.wf (i : Instr) : Bool :=
  match i with
  | .lossWindowExpiry order => orderOk order Receiver.ofSupply
  | .railOkFall order => orderOk order Receiver.ofSupply
  | .supplySettleExpiry order => orderOk order Receiver.ofSupply
  | .debounceTimerExpiry input order => orderOk order (Receiver.ofInput input)
  | .tempSampleTimerExpiry _ order => orderOk order Receiver.ofSample
  | .badFrame _ bytes =>
    match checkFrame bytes with
    | .bad _ => true
    | .noByte => true
    | .taken _ _ _ => false
  | .unknownRequest p code tag payload =>
    decide (payload.length ≤ 28) && (requestOf code { port := p, tag := tag, payload := payload }).isNone
  | .resetPart q => q.wf && decide (q.port ∉ q.busy)
  | i =>
    match codeOf i with
    | some cq => cq.2.wf
    | none => true

end Sys2Proof
end

