-- ==== Sys2Proof/Certificates/Slice0/Obligations.lean ====
section
/-! DEFINITION. The statements for the provers. -/

open Sys2Proof Sys2Proof.Machine

/-! ### The machine as a whole -/

/-- One step takes the command at the front of the queue and runs it with the queue's rest; on an empty queue the part idles (the
model's own queue, log 1). -/
def Obligations.StepTakesFrontCommand : Prop :=
  ∀ (s : State), (∀ (c : Instr) (rest : List Instr), s.pending = c :: rest → step s = exec c (s.withPending rest))
    ∧ (s.pending = [] → step s = .next s)

/-- Every command answers a next state in every state, and leaves the queue of the commands that wait alone. -/
def Obligations.EveryCommandAnswersNext : Prop :=
  ∀ (c : Instr) (s : State), ∃ t, exec c s = .next t ∧ t.pending = s.pending

/-- R154 to R156: a well-formed command that an exchange brings is read back from the bytes that spell it; and the end of every exchange
brings a command, which is well formed and is on the port of the exchange, whatever other ports have one in progress.  That a BAD_FRAME
of no bytes carries the end of an exchange with no whole byte is the model's choice (log 30). -/
def Obligations.ExchangesSpellCommands : Prop :=
  (∀ (i : Instr) (p : Port) (bytes : List Byte), i.wf = true → exchangeOf i = some (p, bytes) →
    commandOfExchange p i.cuts bytes = some i)
  ∧ (∀ (p : Port) (busy : List Port) (bytes : List Byte), p ∉ busy →
    ∃ i, commandOfExchange p busy bytes = some i ∧ i.wf = true
      ∧ (∃ bytes', exchangeOf i = some (p, bytes') ∧ (bytes = [] → bytes' = [])))

/-- R34, R36, R38 and R43: the outputs are as their demand sets and permits give them, and a held reset finds the supply LOST: every step
keeps both; and outputs that are so keep the interlocks of the inlet, the heater, the relay and the latch. -/
def Obligations.OutputsStaySettled : Prop :=
  (∀ (s t : State), s.settled = true → s.heldLost = true → step s = .next t → t.settled = true ∧ t.heldLost = true)
  ∧ (∀ (s : State), s.settled = true → s.safe = true)

/-- The state after reset has every invariant of the model. -/
def Obligations.InvariantsHoldAtReset : Prop :=
  State.reset.settled = true ∧ State.reset.heldLost = true ∧ State.reset.bounded = true ∧ State.reset.safe = true
    ∧ State.reset.settingsOk = true

/-- R52, R65, R70, R159: every step keeps the bounds of the notice queues, of the Action Table and of the step queues, and each step of a
queue of a kind of its lane. -/
def Obligations.QueuesStayBounded : Prop :=
  ∀ (s t : State), s.bounded = true → step s = .next t → t.bounded = true

/-- R167: every step keeps the settings in their ranges and in their order. -/
def Obligations.SettingsStayOrdered : Prop :=
  ∀ (s t : State), s.settingsOk = true → step s = .next t → t.settingsOk = true

/-- R1, R4, R43, R45, R67, R68, R157, R165, R167, R171: outside a reset, each of these pieces of state is changed by its own commands
and by no other. -/
def Obligations.EachStateHasItsCommands : Prop :=
  ∀ (c : Instr) (s t : State), c.isReset = false → exec c s = .next t →
    (c ≠ .runClockTick → t.time.clock = s.time.clock)
    ∧ ((∀ up, c ≠ .flowEdge up) → t.time.flow = s.time.flow)
    ∧ ((∀ o, c ≠ .lossWindowExpiry o) → (∀ o, c ≠ .railOkFall o) → (∀ o, c ≠ .supplySettleExpiry o) →
        t.time.supply = s.time.supply)
    ∧ ((∀ q, c ≠ .profileField q) → t.store.profile = s.store.profile)
    ∧ ((∀ q, c ≠ .profileLock q) → t.store.configured = s.store.configured ∧ t.time.edgeMode = s.time.edgeMode
        ∧ t.time.strayThreshold = s.time.strayThreshold ∧ ∀ p, (t.port p).rights = (s.port p).rights)
    ∧ ((∀ q, c ≠ .writeSetting q) → t.store.settings = s.store.settings)
    ∧ t.store.resetKind = s.store.resetKind ∧ t.store.warmCount = s.store.warmCount ∧ t.resetHeld = s.resetHeld
    ∧ ((∀ o, c ≠ .stuckOnWindowExpiry o) → t.guard.record = s.guard.record
        ∧ (s.guard.latched = false → t.guard.latched = false))
    ∧ ((∀ q, c ≠ .clearFault q) → s.guard.latched = true → t.guard.latched = true)
    ∧ ((∀ q, c ≠ .claimLane q) → (∀ q, c ≠ .releaseLane q) → (∀ q, c ≠ .takeLane q) →
        ∀ l, (t.lane l).holder = (s.lane l).holder)

/-- R154 and R156: outside a reset, a port's reply slot changes only at an exchange on that port, and the reply to a request echoes
its tag; an exchange shifts out the frame of the slot, byte by byte, and 00H for every byte after it. -/
def Obligations.ReplySlotsBelongToTheirPorts : Prop :=
  (∀ (c : Instr) (s t : State), c.isReset = false → exec c s = .next t →
    (∀ p, (∀ bytes, exchangeOf c ≠ some (p, bytes)) → (t.port p).reply = (s.port p).reply)
    ∧ (∀ code q, codeOf c = some (code, q) → s.takes q.port → (t.port q.port).reply.tag = q.tag))
  ∧ (∀ (s : State) (p : Port) (n : Nat), (s.port p).reply.payload.length ≤ 28 →
    (s.shiftsOut p n).length = n
    ∧ (∀ i, i < n → (s.shiftsOut p n)[i]? = some
        (if i = 0 then BitVec.ofNat 8 (s.port p).reply.status.number
         else if i = 1 then (s.port p).reply.tag
         else if i = 2 then BitVec.ofNat 8 (s.port p).reply.payload.length
         else if i < 3 + (s.port p).reply.payload.length then (s.port p).reply.payload.getD (i - 3) 0
         else if i = 3 + (s.port p).reply.payload.length then
           crc8 (BitVec.ofNat 8 (s.port p).reply.status.number :: (s.port p).reply.tag
             :: BitVec.ofNat 8 (s.port p).reply.payload.length :: (s.port p).reply.payload)
         else 0)))

/-! ### The frame of a request (Chapter 10) -/

/-- R156, R157 and Table 12-2: a request of a class that its port does not hold is answered NOT_PERMITTED, one of another payload
length than its own BAD_FIELD, and neither changes anything but the reply slot. -/
def Obligations.PortRefusesBeforeTheBlock : Prop :=
  ∀ (i : Instr) (code : Byte) (q : Request) (s : State), codeOf i = some (code, q) → s.takes q.port →
    (∀ cls, i.rightsClass = some cls → (s.port q.port).rights.has cls = false →
      exec i s = .next (s.reply q .notPermitted))
    ∧ (∀ len, i.payloadLength = some len → q.payload.length ≠ len →
      (∀ cls, i.rightsClass = some cls → (s.port q.port).rights.has cls = true) →
      exec i s = .next (s.reply q .badField))

/-- R155, R156: BAD_FRAME, UNKNOWN_REQUEST and NULL set the reply slot of their port, and change nothing else; R154: the end of an exchange
with no whole byte changes nothing; R164: an exchange that a reset has cut takes no request, and its end, with a whole byte or none, ends
the port's wait.  That a BAD_FRAME of no bytes carries the end of an exchange with no whole byte is the model's choice (log 30). -/
def Obligations.FramesThatReachNoBlock : Prop :=
  (∀ (p : Port) (bytes : List Byte) (tag : Byte) (s : State), s.takes p → checkFrame bytes = .bad tag →
    exec (.badFrame p bytes) s = .next (s.setReply p { status := .badFrame, tag := tag, payload := [] }))
  ∧ (∀ (p : Port) (code tag : Byte) (payload : List Byte) (s : State), s.takes p →
    requestOf code { port := p, tag := tag, payload := payload } = none →
    exec (.unknownRequest p code tag payload) s
      = .next (s.setReply p { status := .unknownRequest, tag := tag, payload := [] }))
  ∧ (∀ (q : Request) (s : State), s.takes q.port → q.payload = [] → exec (.null q) s = .next (s.reply q .ok))
  ∧ (∀ (p : Port) (s : State), s.takes p → exec (.badFrame p []) s = .next s)
  ∧ (∀ (c : Instr) (p : Port) (bytes : List Byte) (s : State), exchangeOf c = some (p, bytes) → s.resetHeld = false →
    (s.port p).waitCs = true → exec c s = .next (s.withPort p { s.port p with waitCs := false }))

/-- R155: what makes a frame bad: fewer than four bytes, a length above 28, fewer bytes than the length announces, or a CRC byte
that is not the CRC-8 of the bytes before it; every other frame of at least one byte is taken, and bytes after the CRC are ignored. -/
def Obligations.FrameCheckFollowsTheTable : Prop :=
  (∀ b : Byte, checkFrame [b] = .bad 0) ∧ (∀ b tag : Byte, checkFrame [b, tag] = .bad tag)
  ∧ ∀ (code tag len : Byte) (rest : List Byte),
      (28 < len.toNat ∨ rest.length ≤ len.toNat → checkFrame (code :: tag :: len :: rest) = .bad tag)
      ∧ ∀ (payload tail : List Byte) (crc : Byte), payload.length = len.toNat → len.toNat ≤ 28 →
          rest = payload ++ crc :: tail →
          checkFrame (code :: tag :: len :: rest)
            = if crc = crc8 (code :: tag :: len :: payload) then .taken code tag payload else .bad tag

/-- R160: an accepted SUBSCRIBE sets the routing of its port, and returns it; R161: TAKE NOTICES removes the two oldest notices. -/
def Obligations.RoutingAndTakingNotices : Prop :=
  (∀ (q : Request) (s : State) (classes mask threshold : Byte), s.hands q .query 3 →
    q.payload = [classes, mask, threshold] →
    exec (.subscribe q) s = .next (
      if classes.toNat ≤ 63 ∧ mask.toNat ≤ 63 ∧ 1 ≤ threshold.toNat ∧ threshold.toNat ≤ 16 then
        (s.withPort q.port { s.port q.port with
          classes := classes.setWidth 6, inputMask := mask.setWidth 6, threshold := threshold.toNat }).reply q .ok
            [classes, mask, threshold]
      else s.reply q .badField))
  ∧ (∀ (q : Request) (s : State), s.hands q .query 0 → ∃ u : State,
    exec (.takeNotices q) s = .next (u.reply q .ok
      (BitVec.ofNat 8 (min 2 (s.port q.port).queue.length) :: (if (s.port q.port).lost then 1 else 0)
        :: BitVec.ofNat 8 (u.port q.port).queue.length :: ((s.port q.port).queue.take 2).flatMap Notice.bytes))
    ∧ u = s.withPort q.port (u.port q.port) ∧ (u.port q.port).face = (s.port q.port).face
    ∧ (u.port q.port).lost = false
    ∧ (u.port q.port).queue ++ (u.port q.port).held = (s.port q.port).queue.drop 2 ++ (s.port q.port).held
    ∧ ((u.port q.port).held ≠ [] → 16 ≤ (u.port q.port).queue.length))

/-- R159: where a notice entered for a port goes: the queue while it has fewer than 16 notices; then the held-urgent set for an urgent
notice, in place of one of its kind (which counts as lost); an ordinary one is lost. -/
def Obligations.NoticePlacement : Prop :=
  ∀ (p : PortRec) (n : Notice),
    (p.queue.length < 16 → p.enter n = { p with queue := p.queue ++ [n] })
    ∧ (16 ≤ p.queue.length → n.kind.urgent = false → p.enter n = { p with lost := true })
    ∧ (16 ≤ p.queue.length → n.kind.urgent = true → (∀ h ∈ p.held, h.kind ≠ n.kind) →
        p.enter n = { p with held := p.held ++ [n] })
    ∧ (16 ≤ p.queue.length → n.kind.urgent = true → (∃ h ∈ p.held, h.kind = n.kind) →
        (p.enter n).queue = p.queue ∧ (p.enter n).lost = true ∧ n ∈ (p.enter n).held
          ∧ (p.enter n).held.map Notice.kind = p.held.map Notice.kind)

/-! ### Time Base (Chapter 1) -/

/-- R1, R44, R72, R76, R97, R100, R104, R116 and R170: one millisecond: what counts, and that nothing else changes; the mark that a READY
lane's start attempt is due is the model's (log 4), as is a count past 32 bits (log 12). -/
def Obligations.TickCountsOneMillisecond : Prop :=
  ∀ (s : State), s.resetHeld = false → ∃ t, exec .runClockTick s = .next t
    ∧ t.time = { s.time with clock := s.time.clock + 1 }
    ∧ (∀ l, t.lane l = { s.lane l with
        running := (s.lane l).running + (if (s.lane l).inTry then 1 else 0),
        attemptDue := decide ((s.lane l).state = .ready), queue := (t.lane l).queue })
    ∧ t.engine = { s.engine with lanes := t.engine.lanes }
    ∧ (t.lane .dose).queue = (s.lane .dose).queue
    ∧ ((s.lane .water).state ≠ .running
        ∨ (∀ h, s.head .water = some h → (∀ d, h.work ≠ .pause d) ∧ (∀ d x, h.work ≠ .circulate d x) ∧ ∀ r, h.work ≠ .drain r) →
        (t.lane .water).queue = (s.lane .water).queue)
    ∧ (∀ h rest d, (s.lane .water).queue = h :: rest → (s.lane .water).state = .running →
        (h.work = .pause d ∨ (∃ x, h.work = .circulate d x)) →
        (t.lane .water).queue
          = { h with progress := h.progress + 1, actual := fit32 (h.progress + 1) } :: rest)
    ∧ (∀ h rest r, (s.lane .water).queue = h :: rest → (s.lane .water).state = .running → h.work = .drain r →
        (t.lane .water).queue
          = { h with runOn := h.runOn + (if s.accepted .levelLow = some false then 1 else 0) } :: rest)
    ∧ t.guard = { s.guard with cleanCount :=
        if s.guard.latched ∧ s.pins.inletSn = false ∧ s.pins.heaterSn = false then min 10000 (s.guard.cleanCount + 1)
        else s.guard.cleanCount }
    ∧ t.store = { s.store with cycle := { s.store.cycle with heaterMs :=
        (if s.energised Output.heater ∧ s.store.cycle.state = CycleState.open then
          min 4294967295 (s.store.cycle.heaterMs + 1)
        else s.store.cycle.heaterMs) } }
    ∧ t.pins = s.pins ∧ t.inputs = s.inputs ∧ t.sampler = s.sampler ∧ t.actions = s.actions ∧ t.dosing = s.dosing
    ∧ t.door = s.door ∧ t.ports = s.ports ∧ t.resetHeld = s.resetHeld
    ∧ (∀ h force, (s.lane .water).state = .running → s.head .water = some h → h.work = .regenerate force →
        s.softener.phase = .soak → t.softener = { s.softener with soak := s.softener.soak + 1 })
    ∧ ((s.lane .water).state ≠ .running ∨ s.softener.phase ≠ .soak
        ∨ (∀ h force, s.head .water = some h → h.work ≠ .regenerate force) → t.softener = s.softener)

/-- R4, R5, R9 and R10: an edge that the edge mode counts adds one to the flow counter and one it does not count changes nothing; a counted
edge that no step takes is met by the stray-flow detector, which raises one STRAY_FLOW at its threshold.  R91 and R95: an ACTIVE FILL
counts every counted edge, and its no-flow window starts anew while its demand holds INLET open.  R8, R9, R39, R111 to R113 and R170: an
inlet closing, here the end of an output test of INLET, moves the closing mark, ends the stray interval, debits the resin account by
the counts that are not exempt (none during a regeneration) and gives its water to an OPEN cycle record. -/
def Obligations.FlowEdgesAndStrayFlow : Prop :=
  (∀ (up : Bool) (s : State), s.resetHeld = false →
    (s.time.edgeMode = .rising → up = false → exec (.flowEdge up) s = .next s)
    ∧ (s.time.edgeMode = .both ∨ up = true → ∃ t, exec (.flowEdge up) s = .next t
        ∧ t.surroundings = { s.surroundings with flow := s.time.flow + 1 }
        ∧ (s.settled = true → t.settled = true) ∧ (s.bounded = true → t.bounded = true)))
  ∧ (∀ (s : State), s.resetHeld = false → s.head .water = none → s.softener.phase = .none →
    ∃ t, exec (.flowEdge true) s = .next t
    ∧ (s.time.stray = .disarmed ∨ s.time.stray = .passive → t = s.withTime { s.time with flow := s.time.flow + 1 })
    ∧ (s.time.stray = .reported → t = s.withTime
        { s.time with flow := s.time.flow + 1, strayCount := min (s.time.strayCount + 1) 4294967295 })
    ∧ (s.time.stray = .watching → s.time.strayThreshold ≠ some (s.time.strayCount + 1) → t = s.withTime
        { s.time with flow := s.time.flow + 1, strayCount := s.time.strayCount + 1 })
    ∧ (∀ n, s.time.stray = .watching → s.time.strayThreshold = some n → s.time.strayCount + 1 = n →
        t.time = { s.time with flow := s.time.flow + 1, strayCount := n, stray := .reported }
        ∧ ∀ p, t.port p = if (s.port p).classes.getLsbD 1 then
            (s.port p).enter { kind := .strayFlow, subject := 0, reference := BitVec.ofNat 16 n, value := BitVec.ofNat 32 n,
                               time := s.time.clock }
          else s.port p))
  ∧ (∀ (h : StepRec) (rest : List StepRec) (s : State), s.resetHeld = false → s.softener.phase = .none →
    (s.lane .water).queue = h :: rest → h.status = .active → h.work.isFill = true →
    h.count + 1 ≠ h.countTarget ∨ (s.lane .water).tryInProgress = false →
    ∃ t, exec (.flowEdge true) s = .next t ∧ t.surroundings = { s.surroundings with flow := s.time.flow + 1 }
    ∧ t.lane .water = { s.lane .water with
        queue := { h with count := h.count + 1, actual := fit32 (s.toMl (h.count + 1)) } :: rest }
    ∧ t.lane .dose = s.lane .dose ∧ t.engine = { s.engine with
        lanes := t.engine.lanes,
        fillNoFlow := if s.energised .inlet ∧ s.demands .inlet .water then s.timer 5000 else s.engine.fillNoFlow }
    ∧ t.guard = s.guard ∧ t.softener = s.softener ∧ t.dosing = s.dosing ∧ t.door = s.door ∧ t.store = s.store
    ∧ t.time.mark = s.time.mark)
  ∧ (∀ (counts v left bp : Nat) (s : State), s.resetHeld = false → s.settled = true → s.guard.test = some .inlet →
    s.due s.guard.testTimer = true → s.energised .inlet = true → (∀ src, src ≠ .test → s.demands .inlet src = false) →
    counts = (s.time.flow - s.time.mark).toNat → v = s.toMl (counts - s.softener.exempt) →
    left = s.softener.remaining - (s.inletHardness - s.residual) * v / 100 → bp = left * 10000 / s.cFull →
    ∃ t, exec .testTimerExpiry s = .next t ∧ t.surroundings = s.surroundings ∧ t.energised .inlet = false
    ∧ t.time = { s.time with
        mark := s.time.flow, stray := if s.time.stray = .passive then .watching else s.time.stray,
        strayCount := if s.time.stray = .passive then 0 else s.time.strayCount }
    ∧ t.store.cycle = (if s.store.cycle.state = .open then
        { s.store.cycle with water := min 4294967295 (s.store.cycle.water + s.toMl counts) } else s.store.cycle)
    ∧ t.engine = { s.engine with fillNoFlow := none } ∧ t.dosing = s.dosing ∧ t.door = s.door
    ∧ (s.softener.phase ≠ .none → t.softener = { s.softener with exempt := 0, noFlow := none } ∧ t.ports = s.ports)
    ∧ (s.softener.phase = .none → s.softener.valid = false → t.ports = s.ports
        ∧ t.softener = { s.softener with
            exempt := 0, noFlow := none, tally := min 4294967295 (s.softener.tally + s.inletHardness * v / 100) })
    ∧ (s.softener.phase = .none → s.softener.valid = true →
        t.softener = { s.softener with
          exempt := 0, noFlow := none, remaining := left,
          pendingFlag := s.softener.pendingFlag || decide (bp < s.regenThreshold) }
        ∧ ∀ p, t.port p = if s.softener.pendingFlag = false ∧ bp < s.regenThreshold ∧ (s.port p).classes.getLsbD 3 = true then
            (s.port p).enter { kind := .regenPending, subject := 0, reference := BitVec.ofNat 16 bp, value := BitVec.ofNat 32 left,
                               time := s.time.clock }
          else s.port p))

/-- R6 and R7: counts are converted to mL by the floor and mL to a count target by the ceiling of the exact quotient, and the two conversions
agree in one direction each; a stray-flow threshold of 200 mL reads back as 200 mL or more. -/
def Obligations.ConversionsAgree : Prop :=
  ∀ (s : State), 0 < s.kCounts →
    (∀ counts, s.toMl counts = counts * 1000 / s.kCounts)
    ∧ (∀ ml c, s.toCounts ml ≤ c ↔ ml * s.kCounts ≤ c * 1000)
    ∧ (∀ ml, ml ≤ s.toMl (s.toCounts ml)) ∧ (∀ counts, s.toCounts (s.toMl counts) ≤ counts)
    ∧ 200 ≤ s.toMl (s.toCounts 200)

/-- R11 to R13: a rising edge of ZERO_CROSS and a rise of RAIL_OK, which start the settle timer where both conditions then hold in
LOST; and in LOST, the expiry of the loss window and a fall of RAIL_OK, which stop it. -/
def Obligations.SupplyConditions : Prop :=
  (∀ (s : State), s.resetHeld = false → exec .zeroCrossEdge s = .next (s.withTime
    { s.time with
      zcPresent := true, lossWindow := some (s.time.clock + 61),
      settle := if s.time.supply = .lost ∧ s.time.zcPresent = false ∧ s.pins.railOk = true then some (s.time.clock + 200)
                else s.time.settle }))
  ∧ (∀ (s : State), s.resetHeld = false → s.pins.railOk = false → exec .railOkRise s = .next
    ((s.withPins { s.pins with railOk := true }).withTime
      { s.time with settle := if s.time.supply = .lost ∧ s.time.zcPresent = true then some (s.time.clock + 200)
                              else s.time.settle }))
  ∧ (∀ (s : State) (order : List Receiver), s.resetHeld = false → s.time.supply = .lost →
    (s.due s.time.lossWindow = true → exec (.lossWindowExpiry order) s = .next
      (s.withTime { s.time with lossWindow := none, zcPresent := false, settle := none }))
    ∧ (s.pins.railOk = true → exec (.railOkFall order) s = .next
      ((s.withPins { s.pins with railOk := false }).withTime { s.time with settle := none })))

/-- R13, R34 and R36: in READY, the expiry of the loss window and a fall of RAIL_OK make the supply LOST with its cause, and leave every
output de-energised, whatever the order of the receivers. -/
def Obligations.SupplyLossOpensEveryOutput : Prop :=
  ∀ (s : State) (order : List Receiver), s.resetHeld = false → s.time.supply = .ready →
    (s.due s.time.lossWindow = true → ∃ t, exec (.lossWindowExpiry order) s = .next t
      ∧ t.surroundings = { s.surroundings with
          supply := .lost, zcPresent := false, lossWindow := none, settle := none, lossCause := some .zeroCross }
      ∧ (∀ o, t.energised o = false))
    ∧ (s.pins.railOk = true → ∃ t, exec (.railOkFall order) s = .next t
      ∧ t.surroundings = { s.surroundings with
          pins := { s.pins with railOk := false }, supply := .lost, settle := none, lossCause := some .railOk }
      ∧ (∀ o, t.energised o = false))

/-- R12, R38 and R46: the settle timer's expiry makes the supply READY, closes the relay of a configured part whose latch is CLEAR, and
starts the latch drain that a warm reset left for it, whatever the order of the receivers. -/
def Obligations.SettledSupplyIsReady : Prop :=
  ∀ (s : State) (order : List Receiver), s.resetHeld = false → s.due s.time.settle = true →
    ∃ t, exec (.supplySettleExpiry order) s = .next t
    ∧ t.surroundings = { s.surroundings with
        supply := .ready, settle := none,
        latchDrain := if s.guard.drainAtReady then some (s.time.clock + 120000) else s.guard.latchDrain,
        drainAtReady := false }
    ∧ t.settled = true ∧ t.energised .mainsRelay = (s.store.configured && !s.guard.latched)

/-! ### Inputs and samples (Chapter 2) -/

/-- R18 and R21: a change of a filtered pin starts the debounce timer toward its level, or stops it where the pin is back at the
accepted level. -/
def Obligations.PinChangeStartsDebounce : Prop :=
  ∀ (i : Input) (level : Bool) (s : State), s.resetHeld = false → s.pins.level i ≠ level →
    exec (.filteredPinChange i level) s = .next ((s.withPins (s.pins.withLevel i level)).withInputs (s.inputs.set i
      { accepted := s.accepted i,
        candidate := if s.accepted i = some level then none else some level,
        debounce := if s.accepted i = some level then none else s.timer (match i with
          | .door => 50 | .levelLow => 300 | .levelHigh => 300 | .float => 500 | .saltLow => 2000 | .rodHome => 20),
        lastEvent := (s.inputs.get i).lastEvent }))

/-- R18, R19, R21 and R47: the debounce timer's expiry accepts the candidate, and an input TRIPPED at FLOAT starts a flood where there
is none; the rest of the surroundings is untouched and the outputs are settled, whatever the order of the receivers. -/
def Obligations.DebounceAcceptsCandidate : Prop :=
  ∀ (i : Input) (order : List Receiver) (s : State) (level : Bool), s.resetHeld = false → s.settled = true →
    (s.inputs.get i).candidate = some level → s.due (s.inputs.get i).debounce = true →
    ∃ t, exec (.debounceTimerExpiry i order) s = .next t
    ∧ t.surroundings = { s.surroundings with
        inputs := s.inputs.set i
          { accepted := some level, candidate := none, debounce := none,
            lastEvent := if (s.accepted i).isSome then some s.time.clock else (s.inputs.get i).lastEvent },
        flood := s.guard.flood || (decide (i = .float) && !level),
        floodStart := if i = .float ∧ level = false ∧ s.guard.flood = false then some s.time.clock else s.guard.floodStart }
    ∧ t.settled = true

/-- R41, R42, R44 and R132: a change of a sense line. -/
def Obligations.SenseLineChange : Prop :=
  ∀ (l : SenseLine) (on : Bool) (s : State), s.resetHeld = false → s.pins.sense l ≠ on →
    ∃ t, exec (.senseLineChange l on) s = .next t
    ∧ t.surroundings = { s.surroundings with
        pins := s.pins.withSense l on,
        cleanCount := if s.guard.latched ∧ on ∧ (l = .inletSn ∨ l = .heaterSn) then 0 else s.guard.cleanCount }
    ∧ t.guard.outs = s.guard.outs
    ∧ (∀ o : Checked, t.guard.checks.get o =
        if o.line ≠ l then s.guard.checks.get o
        else if on then
          { s.guard.checks.get o with
            stuckOff := none, offMark := false,
            stuckOn := if s.energised o.output then none else some (s.time.clock + 200) }
        else
          { s.guard.checks.get o with
            stuckOn := none, onMark := false,
            stuckOff := if s.energised o.output then some (s.time.clock + 2000) else none })
    ∧ t.dosing = { s.dosing with record := s.dosing.record.map (fun r =>
        if on ∧ l = r.agent.line ∧ s.energised r.agent.pump ∧ r.phase = .on then { r with feedback := true } else r) }
    ∧ t.engine = s.engine ∧ t.door = s.door ∧ t.softener = s.softener ∧ t.ports = s.ports

/-- R23 to R26: a temperature sample leaves the reading that its code gives, starts the sample timer anew and settles the outputs,
whatever the order of the receivers. -/
def Obligations.TemperatureSample : Prop :=
  ∀ (code : Code) (order : List Receiver) (s : State), s.resetHeld = false → s.due s.sampler.tempTimer = true →
    ∃ t, exec (.tempSampleTimerExpiry code order) s = .next t
    ∧ t.surroundings = { s.surroundings with tempTimer := some (s.time.clock + 500), temp :=
        if s.store.configured = false then
          { s.sampler.temp with value := none, status := .noTable, code := some code, sampleTime := some s.time.clock }
        else if code = 0 ∨ code = 1023 then
          { s.sampler.temp with status := .sensorFault, code := some code, sampleTime := some s.time.clock }
        else
          { value := some (convertCode code.toNat s.tempTable), status := .valid, code := some code,
            sampleTime := some s.time.clock, validTime := some s.time.clock } }
    ∧ t.settled = true

/-- R24: through a table whose codes ascend, a code on a point gives that point's temperature, a code below the first or above the last
gives theirs, and every result lies between the least and the greatest temperature of the table. -/
def Obligations.ConversionStaysInTable : Prop :=
  ∀ (table : List (Nat × Int)), table.Pairwise (fun a b => a.1 < b.1) → ∀ (c : Nat),
    (∀ p ∈ table, p.1 = c → convertCode c table = p.2)
    ∧ (∀ first, table.head? = some first → c < first.1 → convertCode c table = first.2)
    ∧ (∀ last, table.getLast? = some last → last.1 < c → convertCode c table = last.2)
    ∧ (∀ lo hi : Int, table ≠ [] → (∀ p ∈ table, lo ≤ p.2 ∧ p.2 ≤ hi) →
        lo ≤ convertCode c table ∧ convertCode c table ≤ hi)

/-- R27 to R29 and R32: SAMPLE NOW starts a sample or joins the one in flight; the LED timer's expiry completes it with the number of
thresholds at or below the code as the soil class. -/
def Obligations.TurbiditySample : Prop :=
  (∀ (q : Request) (s : State), s.hands q .action 0 → exec (.sampleNow q) s = .next
    ((s.withTurb { s.sampler.turb with
        lit := true,
        ledTimer := if s.sampler.turb.lit then s.sampler.turb.ledTimer else some (s.time.clock + 30),
        portReq := s.sampler.turb.portReq.set q.port true }).reply q .ok [if s.sampler.turb.lit then 1 else 0]))
  ∧ (∀ (code : Code) (s : State), s.resetHeld = false → s.due s.sampler.turb.ledTimer = true →
      ∃ t, exec (.ledTimerExpiry code) s = .next t
      ∧ t.sampler.turb = { lit := false, ledTimer := none, portReq := { a := false, b := false, c := false }, doseReq := false,
                           code := some code, codeTime := some s.time.clock,
                           soilClass := (([3, 4, 5].map s.setting).filter (fun threshold => threshold ≤ code.toNat)).length,
                           sampled := true }
      ∧ t.surroundings = s.surroundings
      ∧ (s.sampler.turb.doseReq = false → t = (s.withTurb t.sampler.turb).withPorts t.ports
        ∧ ∀ p, t.port p = if s.sampler.turb.portReq.get p then (s.port p).enter
            { kind := .turbidityDone, subject := BitVec.ofNat 8 t.sampler.turb.soilClass, reference := 0,
              value := code.setWidth 32, time := s.time.clock }
          else s.port p))

/-! ### Output Guard (Chapter 3) -/

/-- R41 and R43: a stuck-on fault of INLET or HEATER latches, opens the relay and de-energises all that the latch withholds; one of DRAIN
or CIRC raises its notice and changes nothing else. -/
def Obligations.StuckOnFaults : Prop :=
  (∀ (o : LatchOutput) (c : Checked) (s : State), c.output = o.output → s.resetHeld = false →
    s.due (s.guard.checks.get c).stuckOn = true → ∃ t, exec (.stuckOnWindowExpiry c) s = .next t
    ∧ t.surroundings = { s.surroundings with
        latched := true,
        record := if s.guard.latched then s.guard.record.map (fun r => { r with further := true })
                  else some { output := o, time := s.time.clock, further := false },
        cleanCount := if s.guard.latched then s.guard.cleanCount else 0,
        latchDrain := some (s.time.clock + 120000) }
    ∧ t.settled = true ∧ t.demands .drain .forced = true
    ∧ ∀ x, x ∈ [Output.mainsRelay, .inlet, .regen, .heater, .circ, .doseD, .doseR] → t.energised x = false)
  ∧ (∀ (c : Checked) (s : State), c = .drain ∨ c = .circ → s.resetHeld = false →
    s.due (s.guard.checks.get c).stuckOn = true → ∃ t, exec (.stuckOnWindowExpiry c) s = .next t
    ∧ t.guard = { s.guard with checks :=
        (s.guard.checks.set c { s.guard.checks.get c with stuckOn := none, onMark := true }) }
    ∧ t.store = { s.store with cycle := { s.store.cycle with
        fault := s.store.cycle.fault || decide (s.store.cycle.state = CycleState.open) } }
    ∧ (∀ p, t.port p = if (s.port p).classes.getLsbD 4 then (s.port p).enter
          { kind := .outputFault, subject := BitVec.ofNat 8 c.output.number, reference := 1, value := 0, time := s.time.clock }
        else s.port p)
    ∧ t.surroundings = s.surroundings ∧ t.engine = s.engine ∧ t.dosing = s.dosing ∧ t.door = s.door
    ∧ t.softener = s.softener ∧ t.sampler = s.sampler)

/-- R42 and R78: a stuck-off fault with no lane and no test behind the output raises its notice and marks the episode; one under a
RUNNING lane's demand ends that lane's try with OUTPUT_FAULT. -/
def Obligations.StuckOffFaults : Prop :=
  (∀ (c : Checked) (s : State), s.resetHeld = false → s.due (s.guard.checks.get c).stuckOff = true →
    (∀ src, src ∈ [Source.water, .softener, .dose, .test] → s.demands c.output src = false) →
    ∃ t, exec (.stuckOffWindowExpiry c) s = .next t
    ∧ t.guard = { s.guard with checks :=
        (s.guard.checks.set c { s.guard.checks.get c with stuckOff := none, offMark := true }) }
    ∧ (∀ p, t.port p = if (s.port p).classes.getLsbD 4 then (s.port p).enter
          { kind := .outputFault, subject := BitVec.ofNat 8 c.output.number, reference := 2, value := 0, time := s.time.clock }
        else s.port p)
    ∧ t.surroundings = s.surroundings ∧ t.engine = s.engine ∧ t.dosing = s.dosing ∧ t.door = s.door
    ∧ t.softener = s.softener ∧ t.sampler = s.sampler)
  ∧ (∀ (c : Checked) (h : StepRec) (s : State), s.resetHeld = false → s.due (s.guard.checks.get c).stuckOff = true →
    s.demands c.output .water = true → (s.lane .water).state = .running → s.head .water = some h →
    ∃ t, exec (.stuckOffWindowExpiry c) s = .next t ∧ t.surroundings = s.surroundings
    ∧ (s.settled = true → t.settled = true)
    ∧ ∃ h', t.head .water = some h' ∧ h'.id = h.id ∧ h'.triesUsed = h.triesUsed + 1 ∧ h'.result = .outputFault
        ∧ (t.lane .water).state = if h.triesUsed + 1 < h.tries then .retryWait else .stalled)

/-- R44 and R45: CLEAR FAULT is answered by the latch, the clean count and the flood, and the release keeps the record; the clean count's
reaching 10,000 is no change of its own (the model's reading, log 17).  That CLEAR FAULT keeps the mark of a latch drain that is to start
at the first READY is the model's reading (log 15). -/
def Obligations.ClearFaultReleasesTheLatch : Prop :=
  (∀ (s : State), exec .cleanCountReached s = .next s)
  ∧ (∀ (q : Request) (s : State), s.hands q .service 0 →
    (s.guard.latched = false → exec (.clearFault q) s = .next (s.reply q .wrongState))
    ∧ (s.guard.latched = true → s.guard.cleanCount ≠ 10000 ∨ s.guard.flood = true →
        exec (.clearFault q) s = .next (s.reply q .tooEarly))
    ∧ (s.guard.latched = true → s.guard.cleanCount = 10000 → s.guard.flood = false → ∃ u : State,
        exec (.clearFault q) s = .next (u.reply q .ok) ∧ u.surroundings = { s.surroundings with latched := false }
        ∧ u.settled = true ∧ ∀ o src, u.demands o src = s.demands o src))

/-- R46 and R48: the latch drain ends at its timer's expiry, a flood at that of the flood-clear timer, and the FORCED demand on DRAIN stays
exactly while the other reason holds.  That no flood start stands after a flood is the model's reading (log 23). -/
def Obligations.ForcedDrainEndsWithItsReasons : Prop :=
  (∀ (s : State), s.resetHeld = false → s.due s.guard.latchDrain = true → ∃ t, exec .latchDrainExpiry s = .next t
    ∧ t.surroundings = { s.surroundings with latchDrain := none } ∧ t.settled = true
    ∧ t.demands .drain .forced = s.guard.flood
    ∧ (∀ o src, (o ≠ .drain ∨ src ≠ .forced) → t.demands o src = s.demands o src))
  ∧ (∀ (s : State), s.resetHeld = false → s.guard.flood = true → s.due s.guard.floodClear = true →
    ∃ t, exec .floodClearTimerExpiry s = .next t
    ∧ t.surroundings = { s.surroundings with flood := false, floodStart := none } ∧ t.settled = true
    ∧ t.guard.floodClear = none ∧ t.demands .drain .forced = s.guard.latchDrain.isSome
    ∧ (∀ o src, (o ≠ .drain ∨ src ≠ .forced) → t.demands o src = s.demands o src))

/-- R49: TEST OUTPUT is refused before the lock, for an output it cannot name, for a duration outside 1..10 s and while a lane works; an
accepted one demands its output, in place of a test that runs, until its timer expires. -/
def Obligations.OutputTest : Prop :=
  (∀ (q : Request) (number seconds : Byte) (s : State), s.hands q .service 2 → q.payload = [number, seconds] →
    (s.store.configured = false → exec (.testOutput q) s = .next (s.reply q .notReady))
    ∧ (s.store.configured = true → number ∉ [2, 3, 4, 5, 6, 8, 9, 10] ∨ seconds < 1 ∨ 10 < seconds
          ∨ (∃ o, outputOf number.toNat = some o ∧ s.fitted o = false) →
        exec (.testOutput q) s = .next (s.reply q .badField))
    ∧ (∀ o, s.store.configured = true → outputOf number.toNat = some o → o ≠ .mainsRelay → s.fitted o = true →
        1 ≤ seconds → seconds ≤ 10 →
        ((∃ l, (s.lane l).state ∉ [LaneState.idle, .held, .stalled]) →
          exec (.testOutput q) s = .next (s.reply q .laneBusy))
        ∧ ((∀ l, (s.lane l).state ∈ [LaneState.idle, .held, .stalled]) → ∃ u : State,
          exec (.testOutput q) s = .next (u.reply q .ok) ∧ u.surroundings = s.surroundings ∧ u.settled = true
          ∧ u.guard.test = some o ∧ u.guard.testTimer = s.timer (seconds.toNat * 1000)
          ∧ u.demands o .test = true ∧ (∀ old, s.guard.test = some old → old ≠ o → u.demands old .test = false)
          ∧ (∀ x src, src ≠ .test → u.demands x src = s.demands x src) ∧ u.engine.lanes = s.engine.lanes)))
  ∧ (∀ (o : Output) (s : State), s.resetHeld = false → s.guard.test = some o → s.due s.guard.testTimer = true →
    ∃ t, exec .testTimerExpiry s = .next t ∧ t.surroundings = s.surroundings ∧ t.settled = true
    ∧ t.guard.test = none ∧ t.guard.testTimer = none ∧ t.demands o .test = false
    ∧ (∀ x src, (x ≠ o ∨ src ≠ .test) → t.demands x src = s.demands x src))

/-! ### Action Table (Chapter 4) -/

/-- R55, R56: an accepted POST ACTION takes the lowest empty slot, or is executed at once where its target is reached; a full table, an
unlocked profile and a lane that the port does not hold refuse it.  Two points are the model's choices: that a RESUME_LANE with an argument
above 1 is answered NOT_READY before the lock (log 36), and that a target exactly 2^31 counts ahead is not reached (log 34). -/
def Obligations.PostAction : Prop :=
  ∀ (q : Request) (s : State) (ref t3 t2 t1 t0 act arg notify : Byte) (r : CounterRef) (a : Action),
    s.hands q .action 9 → q.payload = [ref, t3, t2, t1, t0, act, arg, notify, 0] → notify ≤ 1 →
    (s.store.configured = false → exec (.postAction q) s = .next (s.reply q .notReady))
    ∧ (s.store.configured = true → counterOf ref.toNat = some r → actionOf act.toNat = some a → arg.toNat ≤ a.argMax →
        (∀ l, a = .resumeLane → laneOf arg.toNat = some l → (s.lane l).holder ≠ some q.port →
          exec (.postAction q) s = .next (s.reply q .notHolder))
        ∧ ((∀ l, a = .resumeLane → laneOf arg.toNat = some l → (s.lane l).holder = some q.port) →
          ((∀ x ∈ s.actions, x ≠ none) → exec (.postAction q) s = .next (s.reply q .tableFull))
          ∧ (∀ slot, slot < 256 → s.actions[slot]? = some none → (∀ i, i < slot → s.actions[i]? ≠ some none) →
            (reached (s.counter r) (t3 ++ t2 ++ t1 ++ t0) = false → exec (.postAction q) s = .next
              ((s.withActions (s.actions.set slot (some
                { owner := q.port, ref := r, target := t3 ++ t2 ++ t1 ++ t0, action := a, arg := arg,
                  notify := decide (notify = 1) }))).reply q .ok [BitVec.ofNat 8 slot, 0]))
            ∧ (reached (s.counter r) (t3 ++ t2 ++ t1 ++ t0) = true → ∃ u : State,
              exec (.postAction q) s = .next (u.reply q .ok [BitVec.ofNat 8 slot, 1]) ∧ u.surroundings = s.surroundings
              ∧ u.settled = true ∧ ∀ o v, a.demand = some (o, v) → u.demands o .action = v))))

/-- R57 and R58: a due set leaves the table, the other entries stay, and for each of DRAIN, CIRC and AUX the entry of the highest slot
decides the ACTION demand.  That a target exactly 2^31 counts ahead is not due is the model's choice (log 34). -/
def Obligations.DueSetExecutesOnce : Prop :=
  ∀ (r : CounterRef) (s : State), s.resetHeld = false →
    ((∀ e, some e ∈ s.actions → s.entryDue r e = false) → exec (.actionDueSet r) s = .next s)
    ∧ ((∃ e, some e ∈ s.actions ∧ s.entryDue r e = true) → ∃ t, exec (.actionDueSet r) s = .next t
      ∧ t.surroundings = { s.surroundings with actions :=
          (s.actions.map (fun x => x.bind (fun e => if s.entryDue r e then none else some e))) }
      ∧ t.settled = true
      ∧ ∀ o ∈ [Output.drain, .circ, .aux],
          (∀ (i : Nat) (e : ActionEntry) (v : Bool), s.actions[i]? = some (some e) → s.entryDue r e = true →
            e.action.demand = some (o, v) →
            (∀ (j : Nat) (f : ActionEntry), i < j → s.actions[j]? = some (some f) → s.entryDue r f = true →
              ∀ w, f.action.demand ≠ some (o, w)) → t.demands o .action = v)
          ∧ ((∀ e w, some e ∈ s.actions → s.entryDue r e = true → e.action.demand ≠ some (o, w)) →
              t.demands o .action = s.demands o .action))

/-- R61: CANCEL ACTION. -/
def Obligations.CancelAction : Prop :=
  ∀ (q : Request) (slot : Byte) (s : State), s.hands q .action 1 → q.payload = [slot] →
    (15 < slot → exec (.cancelAction q) s = .next (s.reply q .badField))
    ∧ (slot ≤ 15 → s.actions[slot.toNat]? = some none → exec (.cancelAction q) s = .next (s.reply q .notFound))
    ∧ (∀ e, slot ≤ 15 → s.actions[slot.toNat]? = some (some e) →
        (e.owner ≠ q.port → exec (.cancelAction q) s = .next (s.reply q .notOwner))
        ∧ (e.owner = q.port → exec (.cancelAction q) s = .next
            ((s.withActions (s.actions.set slot.toNat none)).reply q .ok e.bytes)))

/-! ### Lanes (Chapter 5) -/

/-- R62, R67, R68: CLAIM LANE, RELEASE LANE and TAKE LANE, by holder and lane state; a change of holder removes the former holder's
resume entries of the lane, with an ACTION_DROPPED for each where that port subscribes to ACTION. -/
def Obligations.LaneHolders : Prop :=
  ∀ (q : Request) (lane : Byte) (s : State), s.hands q .lane 1 → q.payload = [lane] →
    (1 < lane → exec (.claimLane q) s = .next (s.reply q .badField) ∧ exec (.releaseLane q) s = .next (s.reply q .badField)
      ∧ exec (.takeLane q) s = .next (s.reply q .badField))
    ∧ ∀ l, laneOf lane.toNat = some l →
      ((s.lane l).holder = some q.port → exec (.claimLane q) s = .next (s.reply q .ok)
        ∧ exec (.takeLane q) s = .next (s.reply q .ok))
      ∧ ((s.lane l).holder = none → exec (.claimLane q) s
          = .next ((s.withLane l { s.lane l with holder := some q.port }).reply q .ok))
      ∧ (∀ p, (s.lane l).holder = some p → p ≠ q.port → exec (.claimLane q) s = .next (s.reply q .heldByOther))
      ∧ ((s.lane l).holder ≠ some q.port → exec (.releaseLane q) s = .next (s.reply q .notHolder)
        ∧ ((s.lane l).state ∈ [LaneState.ready, .running, .waiting, .retryWait, .paused] →
            exec (.takeLane q) s = .next (s.reply q .laneBusy))
        ∧ ((s.lane l).holder = none → (s.lane l).state ∈ [LaneState.idle, .held, .stalled, .halted] →
            exec (.takeLane q) s = .next ((s.withLane l { s.lane l with holder := some q.port }).reply q .ok)))
      ∧ ∀ p, (s.lane l).holder = some p →
        ∀ (c : Instr) (new : Option Port), c = .releaseLane q ∧ p = q.port ∧ new = none
          ∨ c = .takeLane q ∧ p ≠ q.port ∧ new = some q.port
            ∧ (s.lane l).state ∈ [LaneState.idle, .held, .stalled, .halted] →
        ∃ u : State, exec c s = .next (u.reply q .ok)
        ∧ u = ((s.withLane l { s.lane l with holder := new }).withActions u.actions).withPorts u.ports
        ∧ u.actions = s.actions.map (fun x => x.bind (fun e =>
            if e.owner = p ∧ e.action = .resumeLane ∧ e.arg.toNat = l.number then none else some e))
        ∧ (∀ p', p' ≠ p → u.port p' = s.port p')
        ∧ u.port p = if (s.port p).classes.getLsbD 2 then
            (entriesWhere (fun e => decide (e.owner = p ∧ e.action = .resumeLane ∧ e.arg.toNat = l.number)) 0 s.actions).foldl
              (fun r e => r.enter { kind := .actionDropped, subject := BitVec.ofNat 8 e.1, reference := 9,
                                    value := BitVec.ofNat 32 l.number, time := s.time.clock }) (s.port p)
          else s.port p

/-- R70 to R72: POST STEP is refused to a port that does not hold the lane, before the lock, for a kind, parameter, count of tries or time
limit that it cannot carry and for a full queue; an accepted step joins the tail with a free id, and an IDLE lane becomes READY.  The quantities of
a posted step that R71 does not name are 0, by the model's choice (log 32). -/
def Obligations.PostStep : Prop :=
  ∀ (q : Request) (s : State) (lane kind tries flags l1 l0 p6 p7 p8 p9 : Byte) (l : Lane), s.hands q .lane 10 →
    q.payload = [lane, kind, tries, flags, l1, l0, p6, p7, p8, p9] → laneOf lane.toNat = some l → flags ≤ 3 →
    stepBytesOk q.payload = true →
    ((s.lane l).holder ≠ some q.port → exec (.postStep q) s = .next (s.reply q .notHolder))
    ∧ ((s.lane l).holder = some q.port → s.store.configured = false → exec (.postStep q) s = .next (s.reply q .notReady))
    ∧ ((s.lane l).holder = some q.port → s.store.configured = true →
      (tries < 1 ∨ 4 < tries ∨ 36000 < (l1 ++ l0).toNat ∨ workOf q.payload = none
          ∨ (∃ w, workOf q.payload = some w ∧ (w.lane ≠ l ∨ s.aboveTub w = true ∨ s.needsAbsent w = true)) →
        exec (.postStep q) s = .next (s.reply q .badField))
      ∧ ∀ w, workOf q.payload = some w → w.lane = l → 1 ≤ tries → tries ≤ 4 → (l1 ++ l0).toNat ≤ 36000 →
        s.aboveTub w = false → s.needsAbsent w = false →
        (8 ≤ (s.lane l).queue.length → exec (.postStep q) s = .next (s.reply q .queueFull))
        ∧ ((s.lane l).queue.length < 8 → ∃ id, (∀ x ∈ (s.lane l).queue, x.id ≠ id)
          ∧ ((∀ x ∈ (s.lane l).queue, x.id ≠ (s.lane l).nextId) → id = (s.lane l).nextId)
          ∧ exec (.postStep q) s = .next ((s.withLane l { s.lane l with
              queue := (s.lane l).queue ++ [stepPosted id w tries.toNat (flags.getLsbD 0) (flags.getLsbD 1) (l1 ++ l0).toNat],
              nextId := if id = 65535 then 1 else id + 1,
              state := if (s.lane l).state = .idle then .ready else (s.lane l).state,
              waitCause := if (s.lane l).state = .idle then none else (s.lane l).waitCause,
              attemptDue := !decide ((s.lane l).state = .idle) && (s.lane l).attemptDue }).reply q .ok
              [BitVec.ofNat 8 (id / 256), BitVec.ofNat 8 id, BitVec.ofNat 8 ((s.lane l).queue.length + 1)])))

/-- R72 to R74: the tests of a start attempt before a try begins: supply, flood, latch, the consistency check of a HEAT, exclusion.  The
attempt of DOSE is here one that no due attempt of a FILL comes before. -/
def Obligations.StartAttemptTests : Prop :=
  ∀ (l : Lane) (h : StepRec) (rest : List StepRec) (s : State), s.resetHeld = false → (s.lane l).state = .ready →
    (s.lane l).attemptDue = true → (s.lane l).queue = h :: rest →
    (l = .dose → ¬ ((s.lane .water).state = .ready ∧ (s.lane .water).attemptDue = true
      ∧ ∃ w, s.head .water = some w ∧ w.work.isFill = true)) →
    (s.time.supply = .lost → exec (.startAttempt l) s = .next (s.withLane l
      { s.lane l with state := .waiting, waitCause := some .supply, attemptDue := false }))
    ∧ (∀ r, s.time.supply = .ready → s.guard.flood = true ∧ r = .flood ∨ s.guard.flood = false ∧ s.guard.latched = true ∧ r = .fault →
      ∃ t, exec (.startAttempt l) s = .next t ∧ t.surroundings = s.surroundings ∧ t.guard = s.guard
      ∧ t.lane l = { s.lane l with
          state := .stalled, waitCause := none, pauseDoor := false, pauseSupply := false, pausedFromWait := false,
          retry := none, laneSettle := none, attemptDue := false,
          queue := { h with status := .failed, result := r, endTime := some s.time.clock } :: rest,
          last := some { step := { h with status := .failed, result := r, endTime := some s.time.clock }, manner := .failed } })
    ∧ (s.time.supply = .ready → s.guard.flood = false → s.guard.latched = false →
      (∀ target x, h.work = .heat target x → s.heaterCutoff < target →
        ∃ t, exec (.startAttempt l) s = .next t
        ∧ t = (s.withLane l { s.lane l with state := .halted, waitCause := none, attemptDue := false }).withPorts t.ports
        ∧ ∀ p, t.port p = if (s.lane l).holder = some p ∨ (s.port p).classes.getLsbD 4 = true then (s.port p).enter
              { kind := .laneHalted, subject := BitVec.ofNat 8 l.number, reference := BitVec.ofNat 16 h.id, value := 1,
                time := s.time.clock }
            else s.port p)
      ∧ (l = .water ∧ h.work.isFill = true ∧ s.headActive .dose = true
          ∨ l = .dose ∧ (∃ w, s.head .water = some w ∧ w.status = .active ∧ w.work.isFill = true)
            ∧ (∀ target x, h.work ≠ .heat target x) →
        exec (.startAttempt l) s = .next (s.withLane l
          { s.lane l with state := .waiting, waitCause := some .exclusion, attemptDue := false })))

/-- R75, R90 to R92, R97, R99, R101, R104: a start attempt of the WATER lane that passes its tests begins a try: a FILL, DRAIN,
CIRCULATE, HEAT or PAUSE that meets no end and no wait at its start runs with its demands, or is PAUSED where the open door pauses
it.  R90, R92, R99, R101, R105, R107: a step whose start condition lies on an UNSETTLED input, a REGENERATE under a high level and an
AUTO_OPEN under a heater take a start wait.  R77, R92, R97, R101, R105, R107: a step that is at its end when it starts succeeds at
once, with its flags.  R105, R113, R114: a REGENERATE that is handed over debits the pending counts and begins BRINE.  An actual value past
32 bits is a free value (log 12). -/
def Obligations.StartAttemptBeginsTry : Prop :=
  (∀ (h : StepRec) (rest : List StepRec) (outs : List Output) (s : State), s.resetHeld = false →
    (s.lane .water).state = .ready → (s.lane .water).attemptDue = true → (s.lane .water).queue = h :: rest →
    s.time.supply = .ready → s.guard.flood = false → s.guard.latched = false →
    ((∃ target levelStop, h.work = .fill target levelStop ∧ s.headActive .dose = false
        ∧ (if h.started then h.count < h.countTarget else 0 < s.toCounts target)
        ∧ (levelStop = true → s.accepted .levelHigh = some false) ∧ outs = [.inlet])
      ∨ (∃ runOn, h.work = .drain runOn ∧ (runOn ≠ 0 ∨ s.accepted .levelLow ≠ some false) ∧ outs = [.drain])
      ∨ (∃ duration x, h.work = .circulate duration x ∧ s.accepted .levelLow = some true ∧ outs = [.circ])
      ∨ (∃ target x, h.work = .heat target x ∧ target ≤ s.heaterCutoff ∧ s.accepted .levelLow = some true
        ∧ s.sampler.temp.status ≠ .sensorFault
        ∧ (∀ v, s.sampler.temp.status = .valid → s.sampler.temp.value = some v → v < (target : Int))
        ∧ outs = [.circ, .heater])
      ∨ (∃ duration, h.work = .pause duration ∧ outs = [])) →
    ∃ t, exec (.startAttempt .water) s = .next t ∧ t.surroundings = s.surroundings
    ∧ (s.settled = true → t.settled = true) ∧ t.guard.test = none
    ∧ (t.lane .water).state = (if h.work.doorPauses && !s.doorClosed then .paused else .running)
    ∧ (t.lane .water).pauseDoor = ((h.work.doorPauses && !s.doorClosed) || (s.lane .water).pauseDoor)
    ∧ (t.lane .water).running = 0 ∧ (t.lane .water).attemptDue = false ∧ (t.lane .water).waitCause = none
    ∧ (∀ o, t.demands o .water = (s.demands o .water || (decide (o ∈ outs) && !(h.work.doorPauses && !s.doorClosed))))
    ∧ (∀ o src, src ≠ .water → src ≠ .test → t.demands o src = s.demands o src)
    ∧ (∀ d x, h.work = .circulate d x ∨ h.work = .heat d x → t.guard.diverter = x)
    ∧ ∃ h', (t.lane .water).queue = h' :: rest ∧ h'.id = h.id ∧ h'.work = h.work ∧ h'.status = .active ∧ h'.started = true
      ∧ h'.triesUsed = h.triesUsed ∧ h'.runOn = (match h.work with | .drain _ => 0 | _ => h.runOn)
      ∧ (h.started = true → h'.count = h.count ∧ h'.countTarget = h.countTarget ∧ h'.progress = h.progress)
      ∧ (∀ target levelStop, h.work = .fill target levelStop → h.started = false →
          h'.count = 0 ∧ h'.countTarget = s.toCounts target))
  ∧ (∀ (h : StepRec) (rest : List StepRec) (s : State), s.resetHeld = false → s.attemptsWater h rest → s.guard.test = none →
    ((∃ target, h.work = .fill target true ∧ s.headActive .dose = false ∧ s.accepted .levelHigh = none
        ∧ (if h.started then h.count < h.countTarget else 0 < s.toCounts target))
      ∨ (∃ duration x, h.work = .circulate duration x ∧ s.accepted .levelLow = none)
      ∨ (∃ target x, h.work = .heat target x ∧ target ≤ s.heaterCutoff ∧ s.accepted .levelLow = none)
      ∨ (∃ force, h.work = .regenerate force ∧ (s.softener.pendingFlag || force) = true ∧ s.accepted .levelHigh ≠ some false)
      ∨ (h.work = .autoOpen ∧ s.autoOpenSetting = true ∧ (s.accepted .door = none
          ∨ s.accepted .door = some true ∧ (s.accepted .levelLow = none
            ∨ s.accepted .levelLow = some false ∧ s.energised .heater = true)))) →
    ∃ t, exec (.startAttempt .water) s = .next t ∧ t.surroundings = s.surroundings
    ∧ (h.work.doorPauses = true → s.doorClosed = false → (t.lane .water).state = .paused
        ∧ (t.lane .water).pauseDoor = true ∧ (t.lane .water).pausedFromWait = true)
    ∧ (h.work.doorPauses = false ∨ s.doorClosed = true →
        (t.lane .water).state = .waiting ∧ (t.lane .water).waitCause = some .start)
    ∧ (t.lane .water).running = 0 ∧ (t.lane .water).attemptDue = false ∧ (t.lane .water).last = (s.lane .water).last
    ∧ t.guard = { s.guard with diverter := t.guard.diverter } ∧ t.softener = s.softener ∧ t.door = s.door ∧ t.dosing = s.dosing
    ∧ (∀ d x, h.work = .circulate d x ∨ h.work = .heat d x → t.guard.diverter = x)
    ∧ ∃ h', (t.lane .water).queue = h' :: rest ∧ h'.id = h.id ∧ h'.work = h.work ∧ h'.status = .active ∧ h'.started = true
      ∧ h'.triesUsed = h.triesUsed ∧ h'.result = h.result)
  ∧ (∀ (h : StepRec) (rest : List StepRec) (flags : ResultFlags) (actual : Nat) (s : State), s.resetHeld = false →
    s.attemptsWater h rest → s.guard.test = none →
    ((∃ target levelStop, h.work = .fill target levelStop ∧ s.headActive .dose = false ∧ h.started = true
        ∧ h.countTarget ≤ h.count ∧ flags = ResultFlags.clear ∧ actual = s.toMl h.count)
      ∨ (∃ target, h.work = .fill target true ∧ s.headActive .dose = false ∧ s.accepted .levelHigh = some true
        ∧ (if h.started then h.count < h.countTarget else 0 < s.toCounts target)
        ∧ flags = { ResultFlags.clear with short := true } ∧ actual = if h.started then s.toMl h.count else 0)
      ∨ (h.work = .drain 0 ∧ s.accepted .levelLow = some false ∧ flags = ResultFlags.clear ∧ actual = 0)
      ∨ (∃ target x v, h.work = .heat target x ∧ target ≤ s.heaterCutoff ∧ s.accepted .levelLow = some true
        ∧ s.sampler.temp.status = .valid ∧ s.sampler.temp.value = some v ∧ (target : Int) ≤ v
        ∧ flags = ResultFlags.clear ∧ actual = v.toNat)
      ∨ (h.work = .regenerate false ∧ s.softener.pendingFlag = false
        ∧ flags = { ResultFlags.clear with notNeeded := true } ∧ actual = 0)
      ∨ (h.work = .autoOpen ∧ actual = 0 ∧ (s.autoOpenSetting = false ∧ flags = { ResultFlags.clear with disabled := true }
          ∨ s.autoOpenSetting = true ∧ s.accepted .door = some false
            ∧ flags = { ResultFlags.clear with alreadyOpen := true }))) →
    ∃ t, exec (.startAttempt .water) s = .next t ∧ t.surroundings = s.surroundings ∧ t.settled = true
    ∧ (∀ o, t.demands o .water = false) ∧ (t.lane .water).queue = rest
    ∧ (t.lane .water).state = (if h.hold || (s.lane .water).holdAfter then .held else if rest = [] then .idle else .ready)
    ∧ t.engine.refVolume = (if h.work.isFill then some (fit32 actual) else s.engine.refVolume)
    ∧ ∃ r, (t.lane .water).last = some { step := r, manner := .done } ∧ r.id = h.id ∧ r.work = h.work ∧ r.status = .done
      ∧ r.started = true ∧ r.result = .ok ∧ r.flags = flags ∧ r.actual = fit32 actual ∧ r.endTime = some s.time.clock)
  ∧ (∀ (h : StepRec) (rest : List StepRec) (force : Bool) (v left : Nat) (s : State), s.resetHeld = false →
    s.attemptsWater h rest → s.guard.test = none → h.work = .regenerate force → (s.softener.pendingFlag || force) = true →
    s.accepted .levelHigh = some false → v = s.toMl (s.time.flow - s.time.mark).toNat →
    left = s.softener.remaining - (s.inletHardness - s.residual) * v / 100 →
    ∃ t, exec (.startAttempt .water) s = .next t ∧ t.surroundings = s.surroundings
    ∧ t.softener = { s.softener with
        phase := .brine, brine := 0, soak := 0, rinse := 0, exempt := 0, noFlow := t.softener.noFlow,
        brineTarget := s.toCounts (s.fieldNat 13), rinseTarget := s.toCounts (s.fieldNat 15),
        remaining := if s.softener.valid then left else s.softener.remaining,
        pendingFlag := s.softener.pendingFlag
          || (s.softener.valid && decide (left * 10000 / s.cFull < s.regenThreshold)),
        tally := if s.softener.valid then s.softener.tally
                 else min 4294967295 (s.softener.tally + s.inletHardness * v / 100) }
    ∧ (t.lane .water).state = (if s.doorClosed then .running else .paused)
    ∧ (∀ o src, t.demands o src = (s.demands o src
        || (s.doorClosed && decide (src = .softener ∧ o ∈ [Output.inlet, .regen]))))
    ∧ ∃ h', (t.lane .water).queue = h' :: rest ∧ h'.id = h.id ∧ h'.work = h.work ∧ h'.status = .active ∧ h'.started = true
      ∧ h'.actual = 0 ∧ h'.triesUsed = h.triesUsed)

/-- R76, R78, R95, R98, R100, R103, R119, R134: a time limit, a no-flow window and a dry window that expire under a RUNNING try end it as a
counted failure with the result of its rule: the next try waits 5 s for its retry, and after the last one the step fails for good.
R113, R121: with it a regeneration in progress is abandoned: its demands and counts go, and the counts that await a closing are exempt. -/
def Obligations.CountedFailures : Prop :=
  ∀ (c : Instr) (l : Lane) (r : StepResult) (h : StepRec) (rest : List StepRec) (s : State), s.resetHeld = false →
    (s.lane l).state = .running → (s.lane l).queue = h :: rest →
    ((∃ d, c = .timeLimitExpiry l ∧ h.work.defaultLimit = some d
        ∧ (if h.limit = 0 then d else h.limit) * 100 ≤ (s.lane l).running
        ∧ r = match h.work with | .drain _ => .notDrained | _ => .timeout)
      ∨ (c = .fillNoFlowExpiry ∧ l = .water ∧ h.status = .active ∧ h.work.isFill = true ∧ s.due s.engine.fillNoFlow = true
        ∧ r = .noFlow)
      ∨ (c = .regenNoFlowExpiry ∧ l = .water ∧ s.softener.phase ≠ .none ∧ s.due s.softener.noFlow = true ∧ r = .noFlow)
      ∨ (c = .waterDryWindowExpiry ∧ l = .water ∧ s.due s.engine.waterDry = true ∧ r = .noWater)
      ∨ (∃ d, c = .doseDryWindowExpiry ∧ l = .dose ∧ s.dosing.record = some d ∧ s.due d.dry = true ∧ r = .noWater)) →
    ∃ t, exec c s = .next t ∧ t.surroundings = s.surroundings ∧ t.settled = true
    ∧ (∀ o, t.demands o l.source = false)
    ∧ (∀ o src, src ≠ l.source → src ≠ .softener → t.demands o src = s.demands o src)
    ∧ (∀ force, l = .water → h.work = .regenerate force → s.softener.phase ≠ .none → s.abandoned t)
    ∧ ∃ h', (t.lane l).queue = h' :: rest ∧ h'.id = h.id ∧ h'.work = h.work ∧ h'.tries = h.tries
      ∧ h'.triesUsed = h.triesUsed + 1 ∧ h'.result = r ∧ h'.count = h.count ∧ h'.countTarget = h.countTarget
      ∧ h'.progress = h.progress ∧ (l = .water → h'.actual = h.actual)
      ∧ (h.triesUsed + 1 < h.tries → (t.lane l).state = .retryWait ∧ (t.lane l).retry = s.timer 5000
          ∧ h'.status = h.status ∧ (t.lane l).last = (s.lane l).last)
      ∧ (h.tries ≤ h.triesUsed + 1 → (t.lane l).state = .stalled ∧ h'.status = .failed ∧ h'.endTime = some s.time.clock
          ∧ (t.lane l).last = some { step := h', manner := .failed })

/-- R78 and R72: the retry timer's expiry makes the lane READY; R81: the settle timer's expiry ends the pause of a lane that was RUNNING,
and its step enters its demands anew; R40, R90: a lane that was in a start wait returns to it with its tests made again and the
diverter set.  R80, R120, R135: an event of DOOR to OPEN and a supply loss begin the pause of a RUNNING step, whose demands are withdrawn,
but for the demand of a stroke in ON that a door pause leaves to its on-timer; a regeneration keeps its phase and its counts.  R120: a
REGENERATE resumes by its phase: BRINE with INLET and REGEN, SOAK with no demand, RINSE with INLET or, where LEVEL_HIGH reads REACHED, with
its completion.  R131, R135: at the resume of a DOSE a stroke is due at once: it is issued, or deferred with the dry window where LEVEL_LOW
reads DRY, or the try ends where the stock no longer holds it; a stroke still in ON is left to its on-timer, and a step that waited for its
class goes on waiting.  That a phase OFF stands at the begin of a pause is the model's reading (log 25), and an actual value past 32 bits a
free value (log 12). -/
def Obligations.RetryAndPauseEnd : Prop :=
  (∀ (l : Lane) (s : State), s.resetHeld = false → (s.lane l).state = .retryWait → s.due (s.lane l).retry = true →
    exec (.retryTimerExpiry l) s = .next (s.withLane l
      { s.lane l with state := .ready, waitCause := none, retry := none, attemptDue := false }))
  ∧ (∀ (h : StepRec) (rest : List StepRec) (outs : List Output) (s : State), s.resetHeld = false →
    (s.lane .water).state = .paused → (s.lane .water).pausedFromWait = false → s.due (s.lane .water).laneSettle = true →
    (s.lane .water).queue = h :: rest →
    ((∃ target levelStop, h.work = .fill target levelStop ∧ (levelStop = true → s.highReached = false) ∧ outs = [.inlet])
      ∨ (∃ runOn, h.work = .drain runOn ∧ outs = [.drain])
      ∨ (∃ duration x, h.work = .circulate duration x ∧ outs = [.circ])
      ∨ (∃ target x, h.work = .heat target x ∧ outs = [.circ, .heater])
      ∨ (∃ duration, h.work = .pause duration ∧ outs = [])) →
    ∃ t, exec (.pauseSettleExpiry .water) s = .next t ∧ t.surroundings = s.surroundings
    ∧ (s.settled = true → t.settled = true) ∧ t.guard.test = none
    ∧ t.lane .water = { s.lane .water with state := .running, waitCause := none, laneSettle := none, pausedFromWait := false }
    ∧ (∀ o, t.demands o .water = (s.demands o .water || decide (o ∈ outs)))
    ∧ (∀ o src, src ≠ .water → src ≠ .test → t.demands o src = s.demands o src)
    ∧ (∀ d x, h.work = .circulate d x ∨ h.work = .heat d x → t.guard.diverter = x
        ∧ t.engine.waterDry = if s.levelWet then s.engine.waterDry else s.timer 2000))
  ∧ (∀ (h : StepRec) (rest : List StepRec) (x : Diverter) (s : State), s.resetHeld = false → s.guard.test = none →
    (s.lane .water).state = .paused → (s.lane .water).pausedFromWait = true → s.due (s.lane .water).laneSettle = true →
    (s.lane .water).queue = h :: rest → (∃ d, h.work = .circulate d x ∨ h.work = .heat d x) →
    (s.accepted .levelLow = none → exec (.pauseSettleExpiry .water) s = .next
      ((s.withLane .water { s.lane .water with
          state := .waiting, waitCause := some .start, laneSettle := none, pausedFromWait := false }).withGuard
        { s.guard with diverter := x }))
    ∧ (s.accepted .levelLow = some true → (∃ d, h.work = .circulate d x) →
      ∃ t, exec (.pauseSettleExpiry .water) s = .next t ∧ t.surroundings = s.surroundings ∧ t.settled = true
      ∧ t.lane .water = { s.lane .water with state := .running, waitCause := none, laneSettle := none, pausedFromWait := false }
      ∧ t.guard.diverter = x
      ∧ ∀ o src, t.demands o src = (s.demands o src || decide (o = .circ ∧ src = .water))))
  ∧ (∀ (h : StepRec) (rest : List StepRec) (force : Bool) (s : State), s.resetHeld = false →
    (s.lane .water).state = .paused → (s.lane .water).pausedFromWait = false → s.due (s.lane .water).laneSettle = true →
    (s.lane .water).queue = h :: rest → h.work = .regenerate force → s.softener.phase ≠ .none →
    (∀ outs, s.softener.phase = .brine ∧ outs = [Output.inlet, .regen]
          ∨ s.softener.phase = .soak ∧ outs = []
          ∨ s.softener.phase = .rinse ∧ s.highReached = false ∧ outs = [.inlet] →
      ∃ t, exec (.pauseSettleExpiry .water) s = .next t ∧ t.surroundings = s.surroundings
      ∧ (s.settled = true → t.settled = true) ∧ t.guard.test = none
      ∧ t.lane .water = { s.lane .water with state := .running, waitCause := none, laneSettle := none, pausedFromWait := false }
      ∧ (∀ o, t.demands o .softener = (s.demands o .softener || decide (o ∈ outs)))
      ∧ (∀ o src, src ≠ .softener → src ≠ .test → t.demands o src = s.demands o src)
      ∧ t.softener = { s.softener with exempt := t.softener.exempt, noFlow := t.softener.noFlow })
    ∧ (s.softener.phase = .rinse → s.highReached = true → (∀ o, s.demands o .water = false) →
      ∃ t, exec (.pauseSettleExpiry .water) s = .next t ∧ t.surroundings = s.surroundings
      ∧ s.regenerated t h rest (s.softener.brine + s.softener.rinse) true))
  ∧ (∀ (h : StepRec) (rest : List StepRec) (base : Nat) (agent : Agent) (r : DoseRec) (s : State), s.resetHeld = false →
    (s.lane .dose).state = .paused → s.due (s.lane .dose).laneSettle = true →
    (s.lane .dose).queue = h :: rest → h.work = .dose base agent → s.dosing.record = some r →
    ((s.lane .dose).pausedFromWait = true → r.computed = false → s.guard.test = none →
      exec (.pauseSettleExpiry .dose) s = .next (s.withLane .dose { s.lane .dose with
        state := .waiting, waitCause := some .start, laneSettle := none, pausedFromWait := false }))
    ∧ ((s.lane .dose).pausedFromWait = false → r.phase = .on → s.accepted .levelLow = some true → s.guard.test = none →
      exec (.pauseSettleExpiry .dose) s = .next (s.withLane .dose { s.lane .dose with
        state := .running, waitCause := none, laneSettle := none, pausedFromWait := false }))
    ∧ ((s.lane .dose).pausedFromWait = false → r.phase ≠ .on → s.accepted .levelLow = some false → s.guard.test = none →
      exec (.pauseSettleExpiry .dose) s = .next ((s.withLane .dose { s.lane .dose with
        state := .running, waitCause := none, laneSettle := none, pausedFromWait := false }).withDose
          (some { r with phase := .idle, dry := s.timer 2000 })))
    ∧ ((s.lane .dose).pausedFromWait = false → r.phase ≠ .on → s.accepted .levelLow = some true →
      (r.issuedInTry = true → (s.account r.agent).valid = true → s.strokeVolume r.agent ≤ (s.account r.agent).stock) →
      ∃ t, exec (.pauseSettleExpiry .dose) s = .next t ∧ t.surroundings = s.surroundings ∧ t.settled = true
      ∧ t.guard.test = none
      ∧ t.lane .dose = { s.lane .dose with state := .running, waitCause := none, laneSettle := none, pausedFromWait := false }
      ∧ (∀ o, t.demands o .dose = (s.demands o .dose || decide (o = r.agent.pump)))
      ∧ (∀ o src, src ≠ .dose → src ≠ .test → t.demands o src = s.demands o src)
      ∧ t.dosing.accounts = s.dosing.accounts
      ∧ ∃ r', t.dosing.record = some r' ∧ r' = { r with
          phase := .on, onTimer := s.timer (s.strokePeriod / 2), offTimer := none, issuedInTry := true,
          pumpOn := r'.pumpOn, pumpCut := r'.pumpCut, feedback := r'.feedback })
    ∧ ((s.lane .dose).pausedFromWait = false → r.phase ≠ .on → s.accepted .levelLow = some true → r.issuedInTry = true →
      (s.account r.agent).valid = true → (s.account r.agent).stock < s.strokeVolume r.agent →
      ∃ t, exec (.pauseSettleExpiry .dose) s = .next t ∧ t.surroundings = s.surroundings ∧ (∀ o, t.demands o .dose = false)
      ∧ (0 < r.delivered → (t.lane .dose).queue = rest
          ∧ (t.lane .dose).last = some { manner := .done, step := { h with
              status := .done, result := .ok, endTime := some s.time.clock,
              actual := fit32 (r.delivered * s.strokeVolume r.agent),
              flags := { ResultFlags.clear with shortSupply := true } } })
      ∧ (r.delivered = 0 → (t.lane .dose).state = .stalled
          ∧ (t.lane .dose).queue
              = { h with status := .failed, result := .noSupply, endTime := some s.time.clock } :: rest)))
  ∧ (∀ (c : Instr) (order : List Receiver) (supply : Bool) (s : State), s.resetHeld = false → s.bounded = true →
    (c = .debounceTimerExpiry .door order ∧ (s.inputs.get .door).candidate = some false
        ∧ s.due (s.inputs.get .door).debounce = true ∧ (s.accepted .door).isSome = true ∧ supply = false
      ∨ c = .lossWindowExpiry order ∧ s.time.supply = .ready ∧ s.due s.time.lossWindow = true ∧ supply = true) →
    ∃ t, exec c s = .next t
    ∧ (∀ h, (s.lane .water).state = .running → s.head .water = some h → h.status = .active →
        supply = true ∨ h.work.doorPauses = true →
        t.lane .water = { s.lane .water with
          state := .paused, waitCause := none, pausedFromWait := false, laneSettle := none,
          pauseDoor := (s.lane .water).pauseDoor || !supply, pauseSupply := (s.lane .water).pauseSupply || supply }
        ∧ (h.work ≠ .autoOpen → (∀ force, h.work ≠ .regenerate force) → ∀ o, t.demands o .water = false)
        ∧ (∀ force, h.work = .regenerate force → (∀ o, t.demands o .softener = false)
            ∧ (s.softener.phase ≠ .none →
              t.softener = { s.softener with exempt := t.softener.exempt, noFlow := t.softener.noFlow }))
        ∧ (∀ d x, h.work = .circulate d x ∨ h.work = .heat d x → t.engine.waterDry = none))
    ∧ (∀ h base agent r, (s.lane .dose).state = .running → s.head .dose = some h → h.status = .active →
        h.work = .dose base agent → s.dosing.record = some r →
        t.lane .dose = { s.lane .dose with
          state := .paused, waitCause := none, pausedFromWait := false, laneSettle := none,
          pauseDoor := (s.lane .dose).pauseDoor || !supply, pauseSupply := (s.lane .dose).pauseSupply || supply }
        ∧ (∃ r', t.dosing.record = some r' ∧ r' = { r with
            offTimer := none, dry := none, pumpOn := r'.pumpOn, pumpCut := r'.pumpCut, feedback := r'.feedback })
        ∧ (supply = true → ∀ o, t.demands o .dose = false)
        ∧ (supply = false → (∀ o, t.demands o .dose = s.demands o .dose)
            ∧ ∀ a : Agent, s.settled = true → s.demands a.pump .dose = true → s.energised a.pump = true →
              t.energised a.pump = true)))

/-- R77, R93, R97, R100, R104: a DRAIN succeeds at the end of its run-on, a CIRCULATE and a PAUSE at the end of their time, a FILL at the
counted edge that completes its target: the step leaves the queue with its actual value, its notice is raised where it asked for one,
and the lane goes on.  That the lane's running time stands until the next try is the model's reading (log 24), and an actual value past
32 bits is a free value (log 12). -/
def Obligations.StepsSucceed : Prop :=
  ∀ (c : Instr) (h done : StepRec) (rest : List StepRec) (s : State), s.resetHeld = false →
    (s.lane .water).queue = h :: rest → h.status = .active →
    ((s.lane .water).state = .running
      ∧ ((∃ runOn, c = .drainRunOnComplete ∧ h.work = .drain runOn ∧ runOn * 1000 ≤ h.runOn
            ∧ s.accepted .levelLow = some false ∧ done = { h with actual := fit32 (s.lane .water).running })
        ∨ (∃ d x, c = .circulateComplete ∧ h.work = .circulate d x ∧ d * 100 ≤ h.progress ∧ done = h)
        ∨ (∃ d, c = .pauseStepComplete ∧ h.work = .pause d ∧ d * 100 ≤ h.progress ∧ done = h))
      ∨ (s.lane .water).state ∈ [LaneState.running, .paused] ∧ c = .flowEdge true ∧ h.work.isFill = true
        ∧ s.softener.phase = .none ∧ h.count + 1 = h.countTarget
        ∧ done = { h with count := h.count + 1, actual := fit32 (s.toMl (h.count + 1)) }) →
    ∃ t, exec c s = .next t
    ∧ t.surroundings = { s.surroundings with flow := s.time.flow + (if c = .flowEdge true then 1 else 0) }
    ∧ t.settled = true ∧ (∀ o, t.demands o .water = false)
    ∧ (∀ o src, src ≠ .water → t.demands o src = s.demands o src)
    ∧ t.engine.refVolume = (if h.work.isFill then some done.actual else s.engine.refVolume)
    ∧ t.lane .water = { s.lane .water with
        queue := rest, waitCause := none, pauseDoor := false, pauseSupply := false, pausedFromWait := false, retry := none,
        laneSettle := none, attemptDue := false, holdAfter := false,
        state := if h.hold || (s.lane .water).holdAfter then .held else if rest = [] then .idle else .ready,
        last := some { step := { done with status := .done, result := .ok, flags := ResultFlags.clear,
                                           endTime := some s.time.clock }, manner := .done } }
    ∧ (∀ p, (s.lane .water).holder = some p → h.notify = true → ∃ r : PortRec, t.port p = r.enter
        { kind := .stepDone, subject := 0, reference := BitVec.ofNat 16 h.id, value := BitVec.ofNat 32 done.actual,
          time := s.time.clock })

/-- R69, R82, R83: SKIP STEP removes the head of a STALLED lane, and that of one in RETRY_WAIT; RETRY STEP gives a STALLED head its tries
anew; both are refused in every other state. -/
def Obligations.SkipAndRetry : Prop :=
  ∀ (q : Request) (lane : Byte) (l : Lane) (s : State), s.hands q .lane 1 → q.payload = [lane] → laneOf lane.toNat = some l →
    ((s.lane l).holder ≠ some q.port → exec (.skipStep q) s = .next (s.reply q .notHolder)
      ∧ exec (.retryStep q) s = .next (s.reply q .notHolder))
    ∧ ((s.lane l).holder = some q.port →
      ((s.lane l).state ∉ [LaneState.stalled, .retryWait] → exec (.skipStep q) s = .next (s.reply q .wrongState))
      ∧ ((s.lane l).state ≠ .stalled → exec (.retryStep q) s = .next (s.reply q .wrongState))
      ∧ (∀ h rest, (s.lane l).queue = h :: rest →
        ((s.lane l).state = .stalled → exec (.retryStep q) s = .next ((s.withLane l { s.lane l with
            state := .ready, waitCause := none, attemptDue := false,
            queue := { h with triesUsed := 0, result := .none, endTime := none, status := .queued } :: rest }).reply q .ok
              [BitVec.ofNat 8 (h.id / 256), BitVec.ofNat 8 h.id]))
        ∧ ((s.lane l).state ∈ [LaneState.stalled, .retryWait] → ∃ u : State,
          exec (.skipStep q) s = .next (u.reply q .ok [BitVec.ofNat 8 (h.id / 256), BitVec.ofNat 8 h.id])
          ∧ u.surroundings = s.surroundings ∧ (s.settled = true → u.settled = true)
          ∧ (u.lane l).queue = rest ∧ (u.lane l).retry = none ∧ (u.lane l).holdAfter = false
          ∧ (u.lane l).state = (if (s.lane l).holdAfter then .held else if rest = [] then .idle else .ready)
          ∧ (l = .dose → u.dosing.record = none)
          ∧ (∃ r, (u.lane l).last = some { step := r, manner := .skipped } ∧ r.id = h.id ∧ r.work = h.work ∧ r.status = .failed
              ∧ r.result = h.result ∧ r.endTime = some s.time.clock)
          ∧ ((s.lane l).state = .stalled → u.guard = s.guard ∧ u.softener = s.softener ∧ u.door = s.door ∧ u.ports = s.ports))))

/-- R84: FLUSH LANE empties the lane in every state; a try in progress ends, and an ACTIVE head becomes the last result as FLUSHED.  R121: it
abandons a regeneration in progress.  R150: it makes the errand of an AUTO_OPEN a homing one, or ends it with the rod at home; that an
errand NONE has no cause is the model's choice (log 40). -/
def Obligations.FlushEmptiesTheLane : Prop :=
  ∀ (q : Request) (lane : Byte) (l : Lane) (s : State), s.hands q .lane 1 → q.payload = [lane] → laneOf lane.toNat = some l →
    ((s.lane l).holder ≠ some q.port → exec (.flushLane q) s = .next (s.reply q .notHolder))
    ∧ ((s.lane l).holder = some q.port → ∃ u : State,
      exec (.flushLane q) s = .next (u.reply q .ok [BitVec.ofNat 8 (s.lane l).queue.length])
      ∧ u.surroundings = s.surroundings ∧ (s.settled = true → u.settled = true)
      ∧ (u.lane l).state = .idle ∧ (u.lane l).queue = [] ∧ (u.lane l).waitCause = none ∧ (u.lane l).pauseDoor = false
      ∧ (u.lane l).pauseSupply = false ∧ (u.lane l).holdAfter = false ∧ (u.lane l).retry = none
      ∧ (u.lane l).laneSettle = none ∧ (u.lane l).nextId = (s.lane l).nextId
      ∧ (l = .dose → u.dosing.record = none)
      ∧ (s.headActive l = false → (u.lane l).last = (s.lane l).last ∧ u.guard = s.guard)
      ∧ (∀ h, s.head l = some h → h.status = .active → (s.lane l).state ∈ [LaneState.running, .paused] →
          (∀ o, u.demands o l.source = false)
          ∧ ∃ r, (u.lane l).last = some { step := r, manner := .flushed } ∧ r.id = h.id ∧ r.work = h.work
            ∧ r.status = .failed ∧ r.result = .flushed ∧ r.endTime = some s.time.clock)
      ∧ (∀ h, l = .water → s.head .water = some h → h.status = .active → (s.lane .water).state ∈ [LaneState.running, .paused] →
          (∀ force, h.work = .regenerate force → s.softener.phase ≠ .none → s.abandoned u)
          ∧ (h.work = .autoOpen → s.settled = true → s.door.errand = .opening →
            (s.door.rod = .jammed → u.door = s.door)
            ∧ (s.door.rod = .home → u.door = { s.door with errand := .none, cause := none, supplyHold := false })
            ∧ (s.door.rod ∈ [RodState.extending, .holding] → s.door.supplyHold = false → u.door = { s.door with
                rod := .braking, drive := .brake, errand := .homing, cause := some .tryEnd, nextMove := .retract, report := .none,
                extendTimer := none, holdTimer := none, deadTimer := some (s.time.clock + 50) })
            ∧ (s.door.rod ∈ [RodState.braking, .retracting] → s.door.supplyHold = false → u.door = { s.door with
                errand := .homing, cause := some .tryEnd, report := .none, extendTimer := none, holdTimer := none,
                nextMove := if s.door.nextMove = .extend then .retract else s.door.nextMove })
            ∧ (s.door.rod = .braking → s.door.supplyHold = true → u.door =
                (if s.supplyReady then { s.door with
                  errand := .homing, cause := some .tryEnd, report := .none, extendTimer := none, holdTimer := none,
                  supplyHold := false, drive := .brake, nextMove := .retract, deadTimer := some (s.time.clock + 50) }
                else { s.door with
                  errand := .homing, cause := some .tryEnd, report := .none, extendTimer := none, holdTimer := none,
                  nextMove := if s.door.nextMove = .extend then .retract else s.door.nextMove })))))

/-- R85: HOLD LANE stops an IDLE lane, and a READY one with a QUEUED head, at once, and leaves the hold-after flag on a lane at work;
RESUME LANE takes a HELD lane to READY, or to IDLE with an empty queue. -/
def Obligations.HoldAndResume : Prop :=
  ∀ (q : Request) (lane : Byte) (l : Lane) (s : State), s.hands q .lane 1 → q.payload = [lane] → laneOf lane.toNat = some l →
    ((s.lane l).holder ≠ some q.port → exec (.holdLane q) s = .next (s.reply q .notHolder)
      ∧ exec (.resumeLane q) s = .next (s.reply q .notHolder))
    ∧ ((s.lane l).holder = some q.port →
      ((s.lane l).state = .idle → exec (.holdLane q) s
        = .next ((s.withLane l { s.lane l with state := .held }).reply q .ok))
      ∧ ((s.lane l).state = .ready → s.headActive l = false → exec (.holdLane q) s
        = .next ((s.withLane l { s.lane l with state := .held, attemptDue := false }).reply q .ok))
      ∧ ((s.lane l).state = .ready ∧ s.headActive l = true
          ∨ (s.lane l).state ∈ [LaneState.running, .waiting, .paused, .retryWait] → exec (.holdLane q) s
        = .next ((s.withLane l { s.lane l with holdAfter := true }).reply q .ok))
      ∧ ((s.lane l).state = .held → exec (.holdLane q) s = .next (s.reply q .ok))
      ∧ ((s.lane l).state ∈ [LaneState.stalled, .halted] → exec (.holdLane q) s = .next (s.reply q .wrongState))
      ∧ ((s.lane l).state = .held → (s.lane l).queue = [] → exec (.resumeLane q) s
        = .next ((s.withLane l { s.lane l with state := .idle }).reply q .ok))
      ∧ ((s.lane l).state = .held → (s.lane l).queue ≠ [] → exec (.resumeLane q) s
        = .next ((s.withLane l { s.lane l with state := .ready, waitCause := none, attemptDue := false }).reply q .ok))
      ∧ ((s.lane l).state ≠ .held → exec (.resumeLane q) s = .next (s.reply q .wrongState)))

/-! ### Softener Unit (Chapter 7) -/

/-- R115 to R119: the phases of a regeneration.  A counted FLOW edge in BRINE or RINSE adds to the count of its phase and brings the actual
value up to date, and starts the no-flow window anew; the edge that completes BRINE withdraws the demands and begins SOAK.  At the end of
SOAK a RUNNING regeneration goes on to RINSE with its demand on INLET.  With the tub at its high level then, at an event of LEVEL_HIGH to
REACHED in RINSE (both SHORT), and at the edge that completes RINSE, it is complete, and the account is restored in full or weakly by
the salt.  An actual value past 32 bits is a free value (log 12). -/
def Obligations.SoakEnds : Prop :=
  (∀ (h : StepRec) (rest : List StepRec) (s : State), s.resetHeld = false → s.softener.phase = .soak →
    (s.lane .water).state = .running → (s.lane .water).queue = h :: rest → s.fieldNat 14 * 1000 ≤ s.softener.soak →
    (s.highReached = false → ∃ t, exec .soakComplete s = .next t ∧ t.surroundings = s.surroundings ∧ t.settled = true
      ∧ t.demands .inlet .softener = true
      ∧ (∀ o src, o ≠ .inlet ∨ src ≠ .softener → t.demands o src = s.demands o src)
      ∧ t.engine.lanes = s.engine.lanes
      ∧ { t.softener with noFlow := none, exempt := 0 }
          = { s.softener with phase := .rinse, noFlow := none, exempt := 0 })
    ∧ (s.highReached = true → (∀ o, s.demands o .water = false) → (∃ force, h.work = .regenerate force) →
      ∃ t, exec .soakComplete s = .next t ∧ t.surroundings = s.surroundings
      ∧ s.regenerated t h rest (s.softener.brine + s.softener.rinse) true))
  ∧ (∀ (h : StepRec) (rest : List StepRec) (force : Bool) (s : State), s.resetHeld = false → (s.lane .water).queue = h :: rest →
    h.work = .regenerate force →
    (∀ brine rinse, s.softener.phase = .brine ∧ s.softener.brine + 1 ≠ s.softener.brineTarget
          ∧ brine = s.softener.brine + 1 ∧ rinse = s.softener.rinse
        ∨ s.softener.phase = .rinse ∧ s.softener.rinse + 1 ≠ s.softener.rinseTarget
          ∧ brine = s.softener.brine ∧ rinse = s.softener.rinse + 1 →
      ∃ t, exec (.flowEdge true) s = .next t ∧ t.surroundings = { s.surroundings with flow := s.time.flow + 1 }
      ∧ t.softener = { s.softener with
          brine := brine, rinse := rinse,
          noFlow := if s.energised .inlet ∧ s.demands .inlet .softener then s.timer 5000 else s.softener.noFlow }
      ∧ t.lane .water = { s.lane .water with queue := { h with actual := fit32 (s.toMl (brine + rinse)) } :: rest }
      ∧ t.lane .dose = s.lane .dose ∧ t.guard = s.guard ∧ t.dosing = s.dosing ∧ t.door = s.door ∧ t.store = s.store)
    ∧ (s.softener.phase = .brine → s.softener.brine + 1 = s.softener.brineTarget →
      ∃ t, exec (.flowEdge true) s = .next t ∧ t.surroundings = { s.surroundings with flow := s.time.flow + 1 }
      ∧ t.settled = true ∧ (∀ o, t.demands o .softener = false)
      ∧ (∀ o src, src ≠ .softener → t.demands o src = s.demands o src)
      ∧ { t.softener with noFlow := none, exempt := 0 }
          = { s.softener with phase := .soak, brine := s.softener.brineTarget, noFlow := none, exempt := 0 }
      ∧ t.lane .water = { s.lane .water with
          queue := { h with actual := fit32 (s.toMl (s.softener.brineTarget + s.softener.rinse)) } :: rest })
    ∧ (s.softener.phase = .rinse → s.softener.rinse + 1 = s.softener.rinseTarget →
      (s.lane .water).state ∈ [LaneState.running, .paused] → (∀ o, s.demands o .water = false) →
      ∃ t, exec (.flowEdge true) s = .next t ∧ t.surroundings = { s.surroundings with flow := s.time.flow + 1 }
      ∧ s.regenerated t h rest (s.softener.brine + s.softener.rinseTarget) false)
    ∧ (∀ order, s.bounded = true → s.softener.phase = .rinse → (s.lane .water).state = .running →
      (∀ o, s.demands o .water = false) →
      (s.inputs.get .levelHigh).candidate = some true → s.due (s.inputs.get .levelHigh).debounce = true →
      (s.accepted .levelHigh).isSome = true →
      ∃ t, exec (.debounceTimerExpiry .levelHigh order) s = .next t
      ∧ s.regenerated t h rest (s.softener.brine + s.softener.rinse) true))

/-- R122: RESET RESIN. -/
def Obligations.ResetResin : Prop :=
  ∀ (q : Request) (s : State), s.hands q .accounts 0 →
    (s.store.configured = false → exec (.resetResin q) s = .next (s.reply q .notReady))
    ∧ (s.store.configured = true → exec (.resetResin q) s = .next ((s.withSoftener
        { s.softener with valid := true, remaining := s.cFull, pendingFlag := false,
                          tally := if s.softener.valid then s.softener.tally else 0 }).reply q .ok
          [BitVec.ofNat 8 (s.softener.remaining * 10000 / s.cFull / 256), BitVec.ofNat 8 (s.softener.remaining * 10000 / s.cFull)]))

/-- R110 and R129: the residual hardness lies between 0 and the inlet hardness and falls as the resin account rises, and a dose computed with
the settings in order lies between the dose minimum and maximum, for a whole number of strokes that covers it.  R126, R127: the first
start of a DOSE latches its settings, volume and hardness, and computes the dose at once, or asks for a sample and waits for its class
where DETERGENT has none.  R130, R131, R134: a try whose dose is computed succeeds with no stroke left, fails or ends in SHORT_SUPPLY
without stock, waits for LEVEL_LOW to settle, and else issues its first stroke, or starts the dry window where the tub is dry.  The try
target that a record has before its first try, and keeps between tries, is the model's choice (logs 41 and 42), and an actual value past
32 bits is a free value (log 12). -/
def Obligations.ResidualAndDoseBounds : Prop :=
  (∀ (s : State), 0 < s.knee → s.residual ≤ s.inletHardness)
  ∧ (∀ (s : State) (r : Nat), 0 < s.knee → s.softener.valid = true → s.softener.remaining ≤ r →
      (s.withSoftener { s.softener with remaining := r }).residual ≤ s.residual)
  ∧ (∀ (r : DoseRec) (vref stroke : Nat) (c : Option Nat), 0 < stroke →
      (r.agent = .rinse → (r.compute vref stroke c).dose ≤ r.latched.doseMax)
      ∧ (r.agent = .detergent → r.latched.doseMin ≤ r.latched.doseMax →
          r.latched.doseMin ≤ (r.compute vref stroke c).dose ∧ (r.compute vref stroke c).dose ≤ r.latched.doseMax)
      ∧ (r.compute vref stroke c).dose ≤ (r.compute vref stroke c).strokes * stroke
      ∧ (r.compute vref stroke c).strokes * stroke < (r.compute vref stroke c).dose + stroke
      ∧ 700 ≤ (r.compute vref stroke c).fv ∧ (r.compute vref stroke c).fv ≤ 1400 ∧ (r.compute vref stroke c).fh ≤ 2000)
  ∧ (∀ (h : StepRec) (rest : List StepRec) (base : Nat) (a : Agent) (s : State), s.resetHeld = false → s.attemptsDose h rest →
    s.guard.test = none → h.work = .dose base a → s.doorClosed = true → 0 < s.strokeVolume a →
    (h.started = false → a = .detergent → s.sampler.turb.sampled = false →
      ∃ t, exec (.startAttempt .dose) s = .next t ∧ t.surroundings = s.surroundings
      ∧ (t.lane .dose).state = .waiting ∧ (t.lane .dose).waitCause = some .start
      ∧ t.guard = s.guard ∧ t.dosing.accounts = s.dosing.accounts
      ∧ t.sampler.turb = { s.sampler.turb with
          doseReq := true, lit := true, ledTimer := if s.sampler.turb.lit then s.sampler.turb.ledTimer else s.timer 30 }
      ∧ ∃ r, t.dosing.record = some r ∧ r.computed = false ∧ r.agent = a ∧ r.stepId = h.id ∧ r.base = base ∧ r.delivered = 0
        ∧ r.phase = .idle ∧ r.hr = some s.residual ∧ (∀ v, s.engine.refVolume = some v → r.vr = v)
        ∧ r.latched = { detergentBase := s.setting 10, rinseBase := s.setting 11, slope := s.setting 2, f0 := s.setting 6,
                        f1 := s.setting 7, f2 := s.setting 8, f3 := s.setting 9, doseMin := s.setting 12,
                        doseMax := s.setting 13 })
    ∧ (∀ r : DoseRec, r.agent = a →
      (h.started = false ∧ (a = .rinse ∨ s.sampler.turb.sampled = true)
          ∧ r = (s.newDose h.id base a).compute s.vref (s.strokeVolume a)
              (if a = .detergent then some s.sampler.turb.soilClass else none)
        ∨ h.started = true ∧ s.dosing.record = some r ∧ r.computed = true ∧ r.phase ≠ .on) →
      ∃ t, exec (.startAttempt .dose) s = .next t ∧ t.surroundings = s.surroundings
      ∧ (r.strokes = 0 ∨ r.delivered = r.strokes →
          (t.lane .dose).queue = rest ∧ t.dosing.record = none ∧ (∀ o, t.demands o .dose = false)
          ∧ (t.lane .dose).last = some { manner := .done, step := { h with
              status := .done, started := true, result := .ok, flags := ResultFlags.clear,
              actual := fit32 (r.delivered * s.strokeVolume a), endTime := some s.time.clock } })
      ∧ (r.strokes ≠ 0 → r.delivered ≠ r.strokes → (s.account a).valid = true → (s.account a).stock < s.strokeVolume a →
          (0 < r.delivered → (t.lane .dose).queue = rest ∧ t.dosing.record = none
            ∧ (t.lane .dose).last = some { manner := .done, step := { h with
              status := .done, started := true, result := .ok, flags := { ResultFlags.clear with shortSupply := true },
              actual := fit32 (r.delivered * s.strokeVolume a), endTime := some s.time.clock } })
          ∧ (r.delivered = 0 → (t.lane .dose).state = .stalled ∧ (t.lane .dose).queue = { h with
              status := .failed, started := true, result := .noSupply, endTime := some s.time.clock } :: rest))
      ∧ (r.strokes ≠ 0 → r.delivered ≠ r.strokes → ((s.account a).valid = true → s.strokeVolume a ≤ (s.account a).stock) →
          t.dosing.accounts = s.dosing.accounts
          ∧ (t.lane .dose).queue = { h with status := .active, started := true } :: rest
          ∧ (s.accepted .levelLow = none → (t.lane .dose).state = .waiting ∧ (t.lane .dose).waitCause = some .start
            ∧ t.dosing.record = some r)
          ∧ (∀ left, left = (if (s.account a).valid = true then
                min (r.strokes - r.delivered) ((s.account a).stock / s.strokeVolume a) else r.strokes - r.delivered) →
            (s.accepted .levelLow = some false → (t.lane .dose).state = .running ∧ t.guard = s.guard
              ∧ t.dosing.record = some { r with
                  tryTarget := r.delivered + left, issuedInTry := false, dry := s.timer 2000, phase := .idle })
            ∧ (s.accepted .levelLow = some true → (t.lane .dose).state = .running ∧ t.settled = true
              ∧ (∀ o src, t.demands o src = (s.demands o src || decide (o = a.pump ∧ src = .dose)))
              ∧ ∃ r', t.dosing.record = some r' ∧ r' = { r with
                  tryTarget := r.delivered + left, issuedInTry := true, phase := .on, offTimer := none,
                  onTimer := s.timer (s.strokePeriod / 2), pumpOn := r'.pumpOn, pumpCut := r'.pumpCut,
                  feedback := r'.feedback })))))

/-! ### Dosing Unit (Chapter 8) -/

/-- R125, R137, R138: REFILL and SET STOCK; the level follows the stock, a change to LOW or EMPTY raises STOCK, and a SET STOCK during a
stroke of the agent is held. -/
def Obligations.StockRequests : Prop :=
  ∀ (q : Request) (s : State) (agent v3 v2 v1 v0 : Byte) (v : Nat), q.payload = [agent, v3, v2, v1, v0] →
    v = (v3 ++ v2 ++ v1 ++ v0).toNat →
    (s.hands q .refill 5 →
      (1 < agent ∨ v < 1 ∨ 2000000 < v → exec (.refill q) s = .next (s.reply q .badField))
      ∧ ∀ a, agentOf agent.toNat = some a → 1 ≤ v → v ≤ 2000000 →
        (s.store.configured = false ∨ (s.account a).valid = false → exec (.refill q) s = .next (s.reply q .notReady))
        ∧ (s.store.configured = true → (s.account a).valid = true → ∃ u : State,
            exec (.refill q) s = .next (u.reply q (if (s.account a).stock + v ≤ s.capacity a then .ok else .clamped)
              (be 4 (min (s.capacity a) ((s.account a).stock + v))))
            ∧ s.takesAccount u a { s.account a with stock := min (s.capacity a) ((s.account a).stock + v) }))
    ∧ (s.hands q .accounts 5 →
      (1 < agent → exec (.setStock q) s = .next (s.reply q .badField))
      ∧ ∀ a, agentOf agent.toNat = some a →
        (s.store.configured = false → exec (.setStock q) s = .next (s.reply q .notReady))
        ∧ (s.store.configured = true → ∃ u : State,
            exec (.setStock q) s = .next (u.reply q (if v ≤ s.capacity a then .ok else .clamped) (be 4 (min (s.capacity a) v)))
            ∧ ((∃ r, s.dosing.record = some r ∧ r.agent = a ∧ r.phase = .on) →
                u = s.withAccount a { s.account a with held := some (.set (min (s.capacity a) v)) })
            ∧ ((∀ r, s.dosing.record = some r → r.agent = a → r.phase ≠ .on) →
                s.takesAccount u a
                  { s.account a with valid := true, tally := 0, held := none, stock := min (s.capacity a) v })))

/-- R131 to R133, and the model's reading of R132 against R124 that a stock below S is left at 0 (log 38): at the expiry of the on-timer
the DOSE demand is withdrawn and the stroke judged: one with feedback counts, one of a pump that ran without it is PUMP_FAULT, one of a
pump that did not run through is issued again after its rest; at the expiry of the off-timer the next stroke is issued with LEVEL_LOW wet,
and deferred otherwise.  An actual value past 32 bits is a free value (log 12). -/
def Obligations.StrokesOfADose : Prop :=
  (∀ (r : DoseRec) (h : StepRec) (rest : List StepRec) (s : State), s.resetHeld = false → s.settled = true →
    s.dosing.record = some r → r.phase = .on → s.due r.onTimer = true → (s.account r.agent).held = none →
    (s.lane .dose).queue = h :: rest → (∃ base, h.work = .dose base r.agent) → (s.lane .dose).state = .running →
    (r.feedback = true → r.delivered + 1 ≠ r.tryTarget → ∃ t, exec .doseOnTimerExpiry s = .next t
      ∧ t.surroundings = s.surroundings ∧ t.settled = true ∧ (∀ o, t.demands o .dose = false)
      ∧ t.dosing.record = some { r with
          delivered := r.delivered + 1, phase := .off, onTimer := none,
          offTimer := s.timer (s.strokePeriod - s.strokePeriod / 2) }
      ∧ (t.lane .dose).state = .running
      ∧ (t.lane .dose).queue = { h with actual := fit32 ((r.delivered + 1) * s.strokeVolume r.agent) } :: rest
      ∧ ((s.account r.agent).valid = true →
          t.account r.agent = s.leveled r.agent { s.account r.agent with stock := (s.account r.agent).stock - s.strokeVolume r.agent })
      ∧ ((s.account r.agent).valid = false → t.account r.agent = { s.account r.agent with
          tally := min 4294967295 ((s.account r.agent).tally + s.strokeVolume r.agent) }))
    ∧ (r.feedback = true → r.delivered + 1 = r.tryTarget → ∃ t, exec .doseOnTimerExpiry s = .next t
      ∧ t.surroundings = s.surroundings ∧ (∀ o, t.demands o .dose = false) ∧ t.dosing.record = none
      ∧ (t.lane .dose).queue = rest
      ∧ (t.lane .dose).last = some { manner := .done, step := { h with
          status := .done, result := .ok, endTime := some s.time.clock,
          actual := fit32 ((r.delivered + 1) * s.strokeVolume r.agent),
          flags := { ResultFlags.clear with shortSupply := decide (r.delivered + 1 < r.strokes) } } })
    ∧ (r.feedback = false → r.pumpOn = true → r.pumpCut = false → ∃ t, exec .doseOnTimerExpiry s = .next t
      ∧ t.surroundings = s.surroundings ∧ (∀ o, t.demands o .dose = false) ∧ t.dosing.accounts = s.dosing.accounts
      ∧ (t.lane .dose).state = (if h.triesUsed + 1 < h.tries then .retryWait else .stalled)
      ∧ ∃ h', (t.lane .dose).queue = h' :: rest ∧ h'.triesUsed = h.triesUsed + 1 ∧ h'.result = .pumpFault)
    ∧ (r.feedback = false → r.pumpOn = false ∨ r.pumpCut = true → ∃ t, exec .doseOnTimerExpiry s = .next t
      ∧ t.surroundings = s.surroundings ∧ (∀ o, t.demands o .dose = false) ∧ t.dosing.accounts = s.dosing.accounts
      ∧ t.lane .dose = s.lane .dose
      ∧ t.dosing.record = some { r with
          phase := .off, onTimer := none, offTimer := s.timer (s.strokePeriod - s.strokePeriod / 2) }))
  ∧ (∀ (r : DoseRec) (s : State), s.resetHeld = false → s.dosing.record = some r → r.phase ≠ .on → s.due r.offTimer = true →
    (s.lane .dose).state = .running →
    (s.accepted .levelLow ≠ some true → exec .doseOffTimerExpiry s
      = .next (s.withDose (some { r with offTimer := none, phase := .idle })))
    ∧ (s.accepted .levelLow = some true →
      (r.issuedInTry = true → (s.account r.agent).valid = true → s.strokeVolume r.agent ≤ (s.account r.agent).stock) →
      ∃ t, exec .doseOffTimerExpiry s = .next t ∧ t.surroundings = s.surroundings ∧ t.settled = true
      ∧ (∀ o src, t.demands o src = (s.demands o src || decide (o = r.agent.pump ∧ src = .dose)))
      ∧ t.dosing.accounts = s.dosing.accounts ∧ (t.lane .dose) = (s.lane .dose)
      ∧ ∃ r', t.dosing.record = some r' ∧ r'.phase = .on ∧ r'.issuedInTry = true
        ∧ r'.onTimer = s.timer (s.strokePeriod / 2) ∧ r'.offTimer = none ∧ r'.delivered = r.delivered
        ∧ r'.tryTarget = r.tryTarget ∧ r'.strokes = r.strokes))

/-! ### Door Unit (Chapter 9) -/

/-- R108, R142, R143: a start attempt of AUTO_OPEN that passes its tests hands the try to the Door Unit, which extends the rod with its full
limit, or cuts it at once with ROD_OC asserted; that an errand OPENING has no cause is the model's choice (log 40).
R144, R145: an event of DOOR to OPEN turns an extension into a hold; an extension ends
at its limit, a hold at its time or at an event of DOOR to CLOSED, and either at an overcurrent: the rod brakes for 50 ms toward its
retract, which reports BLOCKED for the one and SUCCESS for the other.  An overcurrent of a rod that does not move, and a release, are
no more than the new level.  R146: water or heat cuts an extension and a hold toward BLOCKED. -/
def Obligations.RodDriveEnds : Prop :=
  (∀ (s : State), s.resetHeld = false →
    (s.due s.door.extendTimer = true → exec .extendTimerExpiry s = .next (s.withDoor (s.rodBraked .blocked)))
    ∧ (s.due s.door.holdTimer = true → exec .holdTimerExpiry s = .next (s.withDoor (s.rodBraked .success)))
    ∧ (s.pins.rodOc = true → exec (.rodOcChange false) s = .next (s.withPins { s.pins with rodOc := false }))
    ∧ (s.pins.rodOc = false →
      (s.door.rod ∉ [RodState.extending, .holding, .retracting] →
        exec (.rodOcChange true) s = .next (s.withPins { s.pins with rodOc := true }))
      ∧ (s.door.rod ∈ [RodState.extending, .holding] → exec (.rodOcChange true) s = .next
        ((s.withPins { s.pins with rodOc := true }).withDoor
          (s.rodBraked (if s.door.rod = .holding then .success else .blocked))))))
  ∧ (∀ (h : StepRec) (rest : List StepRec) (s : State), s.resetHeld = false → s.attemptsWater h rest → s.guard.test = none →
    h.work = .autoOpen → s.autoOpenSetting = true → s.accepted .door = some true → s.accepted .levelLow = some false →
    s.energised .heater = false → s.door.rod = .home →
    exec (.startAttempt .water) s = .next ((s.withLane .water { s.lane .water with
        queue := { h with status := .active, started := true, autoOpenOn := true } :: rest,
        state := .running, waitCause := none, running := 0, attemptDue := false }).withDoor
      (if s.pins.rodOc then
        { s.rodBraked .blocked with errand := .opening, cause := none, opened := false, extendBegan := s.time.clock }
      else
        { s.door with errand := .opening, cause := none, opened := false, report := .none, rod := .extending, drive := .extend,
                      nextMove := .none, extendBegan := s.time.clock, extendTimer := s.timer (s.fieldNat 16 * 100) })))
  ∧ (∀ (order : List Receiver) (s : State), s.resetHeld = false → s.bounded = true → (s.lane .water).startWait = false →
    (s.door.rod ∈ [RodState.extending, .holding] → s.heaterEvent true = s.withDoor (s.rodBraked .blocked))
    ∧ (s.door.rod = .extending → (s.inputs.get .door).candidate = some false → s.due (s.inputs.get .door).debounce = true →
      (s.accepted .door).isSome = true → ∃ t, exec (.debounceTimerExpiry .door order) s = .next t
      ∧ t.door = { s.door with
          position := some false, rod := .holding, extendTimer := none, opened := true,
          extendTime := (s.time.clock - s.door.extendBegan).toNat, holdTimer := s.timer (s.fieldNat 17 * 100) })
    ∧ (s.door.rod = .holding → (s.inputs.get .door).candidate = some true → s.due (s.inputs.get .door).debounce = true →
      (s.accepted .door).isSome = true → s.levelWet = false → ∃ t, exec (.debounceTimerExpiry .door order) s = .next t
      ∧ t.door = { s.rodBraked .success with position := some true, ajar := false })
    ∧ (s.door.rod ∈ [RodState.extending, .holding] → (s.inputs.get .levelLow).candidate = some true →
      s.due (s.inputs.get .levelLow).debounce = true → (s.accepted .levelLow).isSome = true →
      ∃ t, exec (.debounceTimerExpiry .levelLow order) s = .next t ∧ t.door = s.rodBraked .blocked))

/-- R148: the retract limit, or an overcurrent during the retract, jams the rod: its bridge is released, the errand ends with ROD_STATE, and
a try of AUTO_OPEN fails with ROD_FAULT.  R147, R149: a retract that finds its switch settles the errand of AUTO_OPEN by its pending
report: a success with the recorded extend time and the door AJAR where it is open, a counted failure BLOCKED, or a restart, which
succeeds where the door is open, is BLOCKED by water or heat, and else brakes toward a new extension.  That an errand NONE has no cause
is the model's choice (log 40), and an actual value past 32 bits is a free value (log 12). -/
def Obligations.RodJams : Prop :=
  (∀ (c : Instr) (jam : JamCause) (s : State), s.resetHeld = false →
    (c = .retractTimerExpiry ∧ s.due s.door.retractTimer = true ∧ jam = .retractLimit
      ∨ c = .rodOcChange true ∧ s.pins.rodOc = false ∧ s.door.rod = .retracting ∧ jam = .overcurrent) →
    ∃ t, exec c s = .next t
    ∧ t.surroundings = { s.surroundings with pins := { s.pins with rodOc := s.pins.rodOc || decide (jam = .overcurrent) } }
    ∧ (s.settled = true → t.settled = true)
    ∧ t.door = { s.door with rod := .jammed, drive := .coast, retractTimer := none, jam := jam, nextMove := .none,
                             report := .none, errand := .none, cause := none }
    ∧ (∀ p, ∃ r : PortRec, t.port p = if (s.port p).classes.getLsbD 1 then r.enter
          { kind := .rodState, subject := 6, reference := BitVec.ofNat 16 s.door.errandNumber,
            value := BitVec.ofNat 32 jam.number, time := s.time.clock } else r)
    ∧ (s.door.errand ≠ .opening → t.engine = s.engine ∧ t.guard = s.guard)
    ∧ (∀ h rest, s.door.errand = .opening → (s.lane .water).state ∈ [LaneState.running, .paused] →
        (s.lane .water).queue = h :: rest → h.status = .active → h.work = .autoOpen →
        (t.lane .water).state = .stalled
        ∧ (t.lane .water).queue
            = { h with status := .failed, result := .rodFault, endTime := some s.time.clock } :: rest))
  ∧ (∀ (order : List Receiver) (h : StepRec) (rest : List StepRec) (s : State), s.resetHeld = false →
    s.door.rod = .retracting → s.door.errand = .opening → (s.inputs.get .rodHome).candidate = some false →
    s.due (s.inputs.get .rodHome).debounce = true → (s.lane .water).state ∈ [LaneState.running, .paused] →
    (s.lane .water).queue = h :: rest → h.status = .active → h.work = .autoOpen →
    ∃ t, exec (.debounceTimerExpiry .rodHome order) s = .next t
    ∧ (∀ actual flags, s.door.report = .success ∧ actual = s.door.extendTime ∧ flags = ResultFlags.clear
          ∨ s.door.report = .restart ∧ s.doorClosed = false ∧ s.door.opened = true
            ∧ actual = s.door.extendTime ∧ flags = ResultFlags.clear
          ∨ s.door.report = .restart ∧ s.doorClosed = false ∧ s.door.opened = false
            ∧ actual = 0 ∧ flags = { ResultFlags.clear with alreadyOpen := true } →
        t.door = s.rodSettled (s.door.ajar || (!flags.alreadyOpen && !s.doorClosed))
        ∧ (t.lane .water).queue = rest
        ∧ (t.lane .water).last = some { manner := .done, step := { h with
            status := .done, result := .ok, flags := flags, actual := fit32 actual, endTime := some s.time.clock } })
    ∧ (s.door.report = .blocked
          ∨ s.door.report = .restart ∧ s.doorClosed = true ∧ (s.levelWet = true ∨ s.energised .heater = true) →
        t.door = s.rodSettled s.door.ajar
        ∧ ((s.lane .water).state = .running →
          (t.lane .water).state = (if h.triesUsed + 1 < h.tries then .retryWait else .stalled)
          ∧ ∃ h', (t.lane .water).queue = h' :: rest ∧ h'.id = h.id ∧ h'.triesUsed = h.triesUsed + 1 ∧ h'.result = .blocked))
    ∧ (s.door.report = .restart → s.doorClosed = true → s.levelWet = false → s.energised .heater = false →
        t.lane .water = s.lane .water
        ∧ t.door = { s.door with
            retractTimer := none, opened := false, report := .none, rod := .braking, drive := .brake, nextMove := .extend,
            deadTimer := some (s.time.clock + 50) }))

/-- R142, R147, R149: at the end of a dead time the rod retracts, with 5 s to reach its switch, or extends with its full limit where the
terms of an extension hold, and brakes toward BLOCKED where water or heat forbids it; a retract that finds the switch closed is at home
at once, and ends a HOMING errand with ROD_STATE.  R149: a supply loss stops a move and holds it; the supply's return takes up a HOMING
errand, and the end of the lane's pause an OPENING one, toward its restart.  R151: a rod at home without errand whose switch opens is
homed, and a rod that PROFILE LOCK left UNKNOWN is decided at the settle report of its switch.  That an errand NONE has no cause is the
model's choice (log 40), and so is that an extension whose terms fail at the end of its dead time brakes toward BLOCKED (log 20). -/
def Obligations.DeadTimeEnds : Prop :=
  (∀ (s : State), s.resetHeld = false → s.due s.door.deadTimer = true →
    (s.door.nextMove = .none → exec .deadTimeExpiry s = .next (s.withDoor { s.door with deadTimer := none }))
    ∧ (s.door.nextMove = .retract → s.pins.rodOc = false → s.homeClosed = false → exec .deadTimeExpiry s = .next (s.withDoor
      { s.door with rod := .retracting, drive := .retract, nextMove := .none, deadTimer := none,
                    retractTimer := some (s.time.clock + 5000) }))
    ∧ (s.door.nextMove = .retract → s.pins.rodOc = false → s.homeClosed = true → s.door.errand = .homing →
      ∃ t, exec .deadTimeExpiry s = .next t
      ∧ t = (s.withDoor { s.door with
          rod := .home, drive := .brake, nextMove := .none, deadTimer := none, retractTimer := none, errand := .none,
          cause := none, report := .none }).withPorts t.ports
      ∧ ∀ p, t.port p = if (s.port p).classes.getLsbD 1 then (s.port p).enter
            { kind := .rodState, subject := 1, reference := BitVec.ofNat 16 s.door.errandNumber, value := 0,
              time := s.time.clock }
          else s.port p)
    ∧ (s.door.nextMove = .extend → s.pins.rodOc = false → s.levelWet = false → s.energised .heater = false →
      (∃ h, s.head .water = some h ∧ h.status = .active ∧ h.work = .autoOpen) → exec .deadTimeExpiry s = .next (s.withDoor
      { s.door with rod := .extending, drive := .extend, nextMove := .none, deadTimer := none, extendBegan := s.time.clock,
                    extendTimer := s.timer (s.fieldNat 16 * 100) }))
    ∧ (s.door.nextMove = .extend → s.levelWet = true ∨ s.energised .heater = true →
      exec .deadTimeExpiry s = .next (s.withDoor (s.rodBraked .blocked))))
  ∧ (∀ (order : List Receiver) (s : State), s.resetHeld = false → (s.lane .water).startWait = false →
    (s.time.supply = .ready → s.due s.time.lossWindow = true → ∃ t, exec (.lossWindowExpiry order) s = .next t
      ∧ t.door = if s.door.drive ∈ [Drive.extend, .retract] ∨ s.door.deadTimer.isSome = true then
          { s.door with rod := .braking, drive := .brake, extendTimer := none, holdTimer := none, retractTimer := none,
                        deadTimer := none, supplyHold := true }
        else s.door)
    ∧ (s.due s.time.settle = true → s.door.rod = .braking → s.door.supplyHold = true →
      ∃ t, exec (.supplySettleExpiry order) s = .next t
      ∧ t.door = if s.door.errand = .homing then
          { s.door with drive := .brake, supplyHold := false, nextMove := .retract, deadTimer := some (s.time.clock + 50) }
        else s.door))
  ∧ (∀ (h : StepRec) (rest : List StepRec) (s : State), s.resetHeld = false → s.guard.test = none →
    (s.lane .water).state = .paused → (s.lane .water).pausedFromWait = false → s.due (s.lane .water).laneSettle = true →
    (s.lane .water).queue = h :: rest → h.work = .autoOpen → s.door.errand = .opening → s.door.supplyHold = true →
    ∀ d : DoorUnit,
    (s.door.rod ≠ .home ∧ d = { s.door with
          supplyHold := false, report := .restart, nextMove := .retract, deadTimer := some (s.time.clock + 50) }
      ∨ s.door.rod = .home ∧ s.doorClosed = true ∧ s.levelWet = false ∧ s.energised .heater = false ∧ d = { s.door with
          supplyHold := false, opened := false, report := .none, rod := .braking, drive := .brake, nextMove := .extend,
          deadTimer := some (s.time.clock + 50) }) →
    exec (.pauseSettleExpiry .water) s = .next ((s.withLane .water { s.lane .water with
      state := .running, waitCause := none, laneSettle := none, pausedFromWait := false }).withDoor d))
  ∧ (∀ (order : List Receiver) (s : State) (level : Bool), s.resetHeld = false → (s.inputs.get .rodHome).candidate = some level →
    s.due (s.inputs.get .rodHome).debounce = true →
    ∃ t, exec (.debounceTimerExpiry .rodHome order) s = .next t
    ∧ (level = true → (s.accepted .rodHome).isSome = true → s.door.rod = .home → s.door.errand = .none →
        t.engine = s.engine ∧ t.guard = s.guard ∧ t.door = s.rodHoming .homeLost)
    ∧ (s.accepted .rodHome = none → s.store.configured = true → s.door.rod = .unknown →
        t.engine = s.engine ∧ t.guard = s.guard
        ∧ t.door = if level then s.rodHoming .profileLock else { s.door with rod := .home }))

/-- R152: CLEAR ROD FAULT. -/
def Obligations.ClearRodFault : Prop :=
  ∀ (q : Request) (s : State), s.hands q .service 0 →
    (s.store.configured = false → exec (.clearRodFault q) s = .next (s.reply q .notReady))
    ∧ (s.store.configured = true → s.door.rod ≠ .jammed → exec (.clearRodFault q) s = .next (s.reply q .wrongState))
    ∧ (s.store.configured = true → s.door.rod = .jammed → exec (.clearRodFault q) s = .next ((s.withDoor
        (if s.supplyReady then
          { s.door with jam := .none, errand := .homing, cause := some .clearFault, rod := .braking, drive := .brake,
                        supplyHold := false, nextMove := .retract, deadTimer := some (s.time.clock + 50) }
        else
          { s.door with jam := .none, errand := .homing, cause := some .clearFault, rod := .braking, drive := .brake,
                        supplyHold := true })).reply q .ok))

/-! ### Profile, settings, accounts, cycle record (Chapter 11) -/

/-- R165: PROFILE FIELD. -/
def Obligations.ProfileField : Prop :=
  ∀ (q : Request) (s : State) (index v3 v2 v1 v0 : Byte), s.hands q .profile 5 → q.payload = [index, v3, v2, v1, v0] →
    (s.store.configured = true → exec (.profileField q) s = .next (s.reply q .locked))
    ∧ (s.store.configured = false → index < 1 ∨ 38 < index → exec (.profileField q) s = .next (s.reply q .badField))
    ∧ ∀ (lo hi v : Int), s.store.configured = false → fieldRange index.toNat = some (lo, hi) →
        v = (if 28 ≤ index ∧ index ≤ 36 then (v3 ++ v2 ++ v1 ++ v0).toInt else ((v3 ++ v2 ++ v1 ++ v0).toNat : Int)) →
        (v < lo ∨ hi < v → exec (.profileField q) s = .next (s.reply q .badField))
        ∧ (lo ≤ v → v ≤ hi → exec (.profileField q) s = .next ((s.withStore
            { s.store with profile := s.store.profile.set (index.toNat - 1) (some v) }).reply q .ok))

/-- R166: PROFILE LOCK: the index that a failing check names, in the order of the checks, and what a lock that passes does to the part.
R151: a rod whose position is not known is at home where its switch reads CLOSED, with ROD_STATE, is homed where it reads OPEN, and waits
for its settle report where it is UNSETTLED. -/
def Obligations.ProfileLock : Prop :=
  ∀ (q : Request) (s : State), s.hands q .profile 0 →
    (s.store.configured = true → exec (.profileLock q) s = .next (s.reply q .locked))
    ∧ (∀ i, s.store.configured = false →
        ((1 ≤ i ∧ s.store.profile[i - 1]? = some none ∧ ∀ j, j < i - 1 → s.store.profile[j]? ≠ some none)
          ∨ ((∀ x ∈ s.store.profile, x ≠ none)
            ∧ ((20 ≤ i ∧ i ≤ 27 ∧ s.field i ≤ s.field (i - 1) ∧ ∀ j, 20 ≤ j → j < i → s.field (j - 1) < s.field j)
              ∨ ((∀ j, 20 ≤ j → j ≤ 27 → s.field (j - 1) < s.field j)
                ∧ (s.field 4 < s.field 3 ∧ i = 4
                  ∨ s.field 3 ≤ s.field 4 ∧ s.field 9 < s.field 6 ∧ i = 9
                  ∨ s.field 3 ≤ s.field 4 ∧ s.field 6 ≤ s.field 9 ∧ s.field 10 < s.field 7 ∧ i = 10)))) →
        exec (.profileLock q) s = .next ((s.withStore { s.store with lastRefused := i }).reply q .badField [BitVec.ofNat 8 i]))
    ∧ (s.store.configured = false → (∀ x ∈ s.store.profile, x ≠ none) →
        (∀ j, 20 ≤ j → j ≤ 27 → s.field (j - 1) < s.field j) → s.field 3 ≤ s.field 4 → s.field 6 ≤ s.field 9 →
        s.field 7 ≤ s.field 10 → ∃ u : State, exec (.profileLock q) s = .next (u.reply q .ok)
        ∧ u.surroundings = { s.surroundings with
            configured := true, lastRefused := 0, edgeMode := if s.field 2 = 1 then .both else .rising,
            strayThreshold := some (s.toCounts 200),
            faceB := { s.ports.b.face with rights := s.ports.b.rights.narrow (s.fieldNat 37) },
            faceC := { s.ports.c.face with rights := s.ports.c.rights.narrow (s.fieldNat 38) } }
        ∧ u.settled = true ∧ u.energised .mainsRelay = (s.supplyReady && !s.guard.latched)
        ∧ u.time.mark = s.time.flow ∧ u.engine.refVolume = some s.vref
        ∧ (s.door.rod = .unknown →
          (s.accepted .rodHome = none → u.door = s.door)
          ∧ (s.accepted .rodHome = some true → u.door = s.rodHoming .profileLock)
          ∧ (s.accepted .rodHome = some false → u.door = { s.door with rod := .home }
            ∧ ∀ p, (s.port p).classes.getLsbD 1 = true → (u.port p).lost = false → (u.port p).queue.getLast? = some
                { kind := .rodState, subject := 1, reference := 1, value := 0, time := s.time.clock }))
        ∧ (u.softener.valid = true → u.softener.remaining ≤ s.cFull)
        ∧ (∀ a, (u.account a).valid = (s.account a).valid ∧ (u.account a).tally = (s.account a).tally
            ∧ ((s.account a).valid = true → u.account a
              = s.leveled a { s.account a with stock := min (s.account a).stock (s.capacity a) }))))

/-- R167: WRITE SETTING stores the value clamped to its range and against its ordered neighbours, and tells the other ports of a change. -/
def Obligations.WriteSetting : Prop :=
  ∀ (q : Request) (s : State) (index v3 v2 v1 v0 : Byte) (value : Nat), s.hands q .settings 5 →
    q.payload = [index, v3, v2, v1, v0] → value = (v3 ++ v2 ++ v1 ++ v0).toNat →
    (index < 1 ∨ 18 < index → exec (.writeSetting q) s = .next (s.reply q .badField))
    ∧ ∀ (lo hi v : Nat), settingRange index.toNat = some (lo, hi) →
      v = (if index = 3 then min (clampNat lo hi value) (s.setting 4)
          else if index = 4 then clampNat (s.setting 3) (s.setting 5) (clampNat lo hi value)
          else if index = 5 then max (clampNat lo hi value) (s.setting 4)
          else if index = 12 then min (clampNat lo hi value) (s.setting 13)
          else if index = 13 then max (clampNat lo hi value) (s.setting 12)
          else clampNat lo hi value) →
      ∃ u : State, exec (.writeSetting q) s = .next (u.reply q (if v = value then .ok else .clamped) (be 4 v))
      ∧ u.surroundings = { s.surroundings with settings := s.store.settings.set (index.toNat - 1) v }
      ∧ (index = 18 → u.settled = true)
      ∧ (index ∉ [14, 15, 18] →
          u = (s.withStore { s.store with settings := s.store.settings.set (index.toNat - 1) v }).withPorts u.ports
          ∧ ∀ p, u.port p = if v ≠ s.setting index.toNat ∧ p ≠ q.port ∧ (s.port p).classes.getLsbD 5 = true then
              (s.port p).enter
                { kind := .settingChanged, subject := index, reference := BitVec.ofNat 16 q.port.number,
                  value := BitVec.ofNat 32 v, time := s.time.clock }
            else s.port p)

/-- R168: LOAD ACCOUNTS is refused before the lock, where it names no account and where it names one that is VALID; it loads each account it
names, less its tally, and no other. -/
def Obligations.LoadAccounts : Prop :=
  ∀ (q : Request) (s : State) (flags r3 r2 r1 r0 d3 d2 d1 d0 n3 n2 n1 n0 : Byte), s.hands q .accounts 13 →
    q.payload = [flags, r3, r2, r1, r0, d3, d2, d1, d0, n3, n2, n1, n0] →
    (7 < flags → exec (.loadAccounts q) s = .next (s.reply q .badField))
    ∧ (flags ≤ 7 → s.store.configured = false → exec (.loadAccounts q) s = .next (s.reply q .notReady))
    ∧ (flags = 0 → s.store.configured = true → exec (.loadAccounts q) s = .next (s.reply q .badField))
    ∧ (flags ≤ 7 → s.store.configured = true →
      (flags.getLsbD 0 = true ∧ s.softener.valid = true → exec (.loadAccounts q) s = .next (s.reply q .wrongState [0]))
      ∧ ((flags.getLsbD 0 && s.softener.valid) = false → flags.getLsbD 1 = true ∧ (s.account .detergent).valid = true →
          exec (.loadAccounts q) s = .next (s.reply q .wrongState [1]))
      ∧ ((flags.getLsbD 0 && s.softener.valid) = false → (flags.getLsbD 1 && (s.account .detergent).valid) = false →
          flags.getLsbD 2 = true ∧ (s.account .rinse).valid = true →
          exec (.loadAccounts q) s = .next (s.reply q .wrongState [2])))
    ∧ (flags ≠ 0 → flags ≤ 7 → s.store.configured = true → (flags.getLsbD 0 && s.softener.valid) = false →
      (flags.getLsbD 1 && (s.account .detergent).valid) = false → (flags.getLsbD 2 && (s.account .rinse).valid) = false →
      (∀ r, s.dosing.record = some r → r.phase ≠ .on) →
      ∃ u : State,
      exec (.loadAccounts q) s = .next (u.reply q
        (if (flags.getLsbD 0 && decide (s.cFull < (r3 ++ r2 ++ r1 ++ r0).toNat
                ∨ min s.cFull (r3 ++ r2 ++ r1 ++ r0).toNat < s.softener.tally))
            || (flags.getLsbD 1 && decide (s.capacity .detergent < (d3 ++ d2 ++ d1 ++ d0).toNat
                ∨ min (s.capacity .detergent) (d3 ++ d2 ++ d1 ++ d0).toNat < (s.account .detergent).tally))
            || (flags.getLsbD 2 && decide (s.capacity .rinse < (n3 ++ n2 ++ n1 ++ n0).toNat
                ∨ min (s.capacity .rinse) (n3 ++ n2 ++ n1 ++ n0).toNat < (s.account .rinse).tally))
          then .clamped else .ok)
        (be 4 u.softener.remaining ++ be 4 (u.account .detergent).stock ++ be 4 (u.account .rinse).stock))
      ∧ u.surroundings = s.surroundings ∧ u.guard = s.guard ∧ u.engine = s.engine ∧ u.dosing.record = s.dosing.record
      ∧ u.softener = (if flags.getLsbD 0 then
          { s.softener with
            valid := true, remaining := min s.cFull (r3 ++ r2 ++ r1 ++ r0).toNat - s.softener.tally, tally := 0,
            pendingFlag := decide ((min s.cFull (r3 ++ r2 ++ r1 ++ r0).toNat - s.softener.tally) * 10000 / s.cFull
              < s.regenThreshold) }
        else s.softener)
      ∧ u.account .detergent = (if flags.getLsbD 1 then s.leveled .detergent
          { s.account .detergent with
            valid := true, tally := 0, held := none,
            stock := min (s.capacity .detergent) (d3 ++ d2 ++ d1 ++ d0).toNat - (s.account .detergent).tally }
        else s.account .detergent)
      ∧ u.account .rinse = (if flags.getLsbD 2 then s.leveled .rinse
          { s.account .rinse with
            valid := true, tally := 0, held := none,
            stock := min (s.capacity .rinse) (n3 ++ n2 ++ n1 ++ n0).toNat - (s.account .rinse).tally }
        else s.account .rinse))

/-- R30, R59, R86, R169: BEGIN CYCLE opens a fresh record, sets the reference volume to Vref and the soil class to 1 with no sample, and
withdraws the ACTION demands; END CYCLE closes the record and withdraws them. -/
def Obligations.BeginAndEndCycle : Prop :=
  ∀ (q : Request) (s : State), s.hands q .lane 0 →
    (s.store.configured = false → exec (.beginCycle q) s = .next (s.reply q .notReady))
    ∧ (s.store.configured = true → s.store.cycle.state = .open → exec (.beginCycle q) s = .next (s.reply q .wrongState))
    ∧ (s.store.cycle.state ≠ .open → exec (.endCycle q) s = .next (s.reply q .wrongState))
    ∧ (s.store.configured = true → s.store.cycle.state ≠ .open → ∃ u : State,
      exec (.beginCycle q) s = .next (u.reply q .ok (be 2 ((s.store.cycle.number + 1) % 65536)))
      ∧ u.surroundings = s.surroundings ∧ u.settled = true
      ∧ (s.settled = true → u.store.cycle =
          { number := (s.store.cycle.number + 1) % 65536, state := .open, start := some s.time.clock, endTime := none,
            water := 0, detergent := 0, rinse := 0, heaterMs := 0, full := 0, weak := 0, peak := none, fault := false })
      ∧ u.sampler.turb = { s.sampler.turb with soilClass := 1, sampled := false }
      ∧ u.engine.refVolume = some s.vref
      ∧ (∀ o src, u.demands o src = (s.demands o src && !decide (src = .action ∧ o ∈ [Output.drain, .circ, .aux]))))
    ∧ (s.store.cycle.state = .open → ∃ u : State,
      exec (.endCycle q) s = .next (u.reply q .ok (be 2 s.store.cycle.number))
      ∧ u.surroundings = s.surroundings ∧ u.settled = true
      ∧ u.store.cycle = { s.store.cycle with state := .closed, endTime := some s.time.clock }
      ∧ (∀ o src, u.demands o src = (s.demands o src && !decide (src = .action ∧ o ∈ [Output.drain, .circ, .aux]))))

/-! ### Reading (R87, R173) -/

/-- R173 and the READ rules of each chapter: a READ answers with a page of its content stream as the state stands, changes nothing else,
and names the last page where the page is beyond it; READ STEP answers with the step record of 25 bytes.  The layout of a
stream where Chapter 12 leaves it open is the model's choice (log 11), as is what the stream shows of a field to which the rules give no
value (logs 24, 25, 32 and 39 to 42). -/
def Obligations.ReadsAnswerWithPages : Prop :=
  (∀ (q : Request) (page : Byte) (s : State), s.hands q .query 1 → q.payload = [page] →
    exec (.readTimeBase q) s = .next (s.replyPage q page s.streamTimeBase)
    ∧ exec (.readInputs q) s = .next (s.replyPage q page s.streamInputs)
    ∧ exec (.readSamples q) s = .next (s.replyPage q page s.streamSamples)
    ∧ exec (.readOutputs q) s = .next (s.replyPage q page s.streamOutputs)
    ∧ exec (.readActions q) s = .next (s.replyPage q page s.streamActions)
    ∧ exec (.readSoftener q) s = .next (s.replyPage q page s.streamSoftener)
    ∧ exec (.readDosing q) s = .next (s.replyPage q page s.streamDosing)
    ∧ exec (.readDoor q) s = .next (s.replyPage q page s.streamDoor)
    ∧ exec (.readProfile q) s = .next (s.replyPage q page s.streamProfile)
    ∧ exec (.readSettings q) s = .next (s.replyPage q page s.streamSettings)
    ∧ exec (.readCycle q) s = .next (s.replyPage q page s.streamCycle)
    ∧ exec (.readPort q) s = .next (s.replyPage q page (s.streamPort q.port)))
  ∧ (∀ (q : Request) (lane page : Byte) (s : State), s.hands q .query 2 → q.payload = [lane, page] →
    (∀ l, laneOf lane.toNat = some l → exec (.readLane q) s = .next (s.replyPage q page (s.streamLane l)))
    ∧ (1 < lane → exec (.readLane q) s = .next (s.reply q .badField)))
  ∧ (∀ (q : Request) (lane i1 i0 : Byte) (l : Lane) (s : State), s.hands q .query 3 → q.payload = [lane, i1, i0] →
    laneOf lane.toNat = some l →
    ((∀ x ∈ (s.lane l).queue, x.id ≠ (i1 ++ i0).toNat) → exec (.readStep q) s = .next (s.reply q .notFound))
    ∧ (∀ before x rest, (s.lane l).queue = before ++ x :: rest → (∀ y ∈ before, y.id ≠ (i1 ++ i0).toNat) →
        x.id = (i1 ++ i0).toNat →
        exec (.readStep q) s = .next (s.reply q .ok (x.bytes l)) ∧ (x.bytes l).length = 25))
  ∧ (∀ (s : State), s.actions.length = 16 → s.streamActions.length = 121)

/-! ### Resets (section 0.12) -/

/-- R15, R21, R31, R44, R51, R64, R88, R140, R164, R165, R171: what each kind of reset leaves of every chapter, whatever stood before it; a
warm reset keeps the latch with its record, the accounts, the settings and the cycle record, an OPEN one as INTERRUPTED.  A port with an
exchange in progress waits for its end.  The rise of RESET_N ends a RESET_LINE, and the inputs and sense lines are read there.  The
softener, engine and door at their values after reset hold fields that no reset rule names (the model's choice, log 32; the errand cause,
log 40). -/
def Obligations.ResetsLeaveTheResetState : Prop :=
  (∀ (c : Instr) (kind : ResetKind) (busy : List Port) (s : State),
    ((∃ pins, c = .powerOn { levels := pins, busy := busy } ∧ kind = .powerOn)
      ∨ (c = .resetLine (.falls busy) ∧ s.resetHeld = false ∧ kind = .resetLine)
      ∨ (∃ q : ResetRequest, c = .resetPart q ∧ q.busy = busy ∧ s.hands q.toRequest .profile 0 ∧ kind = .resetRequest)) →
    ∃ t, exec c s = .next t
    ∧ t.resetHeld = decide (kind = .resetLine) ∧ t.pins = (match c with | .powerOn pins => pins.levels | _ => s.pins)
    ∧ t.time = State.reset.time ∧ t.sampler = State.reset.sampler ∧ t.actions = State.reset.actions
    ∧ t.engine = State.reset.engine ∧ t.door = State.reset.door
    ∧ (∀ p, t.port p = { State.reset.port p with waitCs := decide (p ∈ busy) })
    ∧ (∀ i, t.inputs.get i = { accepted := none, candidate := some (t.pins.level i),
                               debounce := (State.reset.inputs.get i).debounce, lastEvent := none })
    ∧ (∀ o, t.energised o = false ∧ ∀ src, t.demands o src = false)
    ∧ (∀ o : Checked, t.guard.checks.get o = { stuckOn := if t.pins.sense o.line then some 200 else none, stuckOff := none,
                                               onMark := false, offMark := false })
    ∧ t.guard.diverter = .lower ∧ t.guard.flood = false ∧ t.guard.floodStart = none ∧ t.guard.floodClear = none
    ∧ t.guard.latchDrain = none ∧ t.guard.test = none ∧ t.guard.testTimer = none
    ∧ t.store.configured = false ∧ t.store.profile = List.replicate 38 none ∧ t.store.lastRefused = 0
    ∧ t.store.resetKind = kind ∧ t.dosing.record = none ∧ t.softener.phase = .none ∧ t.softener.exempt = 0
    ∧ t.pending = s.pending ∧ t.settled = true ∧ t.heldLost = true
    ∧ (kind = .powerOn → t.guard.latched = false ∧ t.guard.record = none ∧ t.guard.cleanCount = 0
        ∧ t.softener = State.reset.softener ∧ t.dosing = State.reset.dosing ∧ t.store = State.reset.store)
    ∧ (kind ≠ .powerOn → t.guard.latched = s.guard.latched ∧ t.guard.record = s.guard.record
        ∧ t.softener.valid = s.softener.valid ∧ t.softener.remaining = s.softener.remaining
        ∧ t.softener.tally = s.softener.tally ∧ t.softener.pendingFlag = s.softener.pendingFlag
        ∧ (∀ a, t.account a = { s.account a with held := none })
        ∧ t.store.settings = s.store.settings ∧ t.store.warmCount = (s.store.warmCount + 1) % 256
        ∧ t.store.cycle = { s.store.cycle with
            state := if s.store.cycle.state = .open then .interrupted else s.store.cycle.state }))
  ∧ (∀ (s : State) (busy : List Port), s.resetHeld = true → ∃ t, exec (.resetLine (.rises busy)) s = .next t
    ∧ (∀ p, t.port p = { s.port p with waitCs := decide (p ∈ busy) })
    ∧ t = (((s.withResetHeld false).withPorts t.ports).withInputs
      { door := { accepted := none, candidate := some s.pins.door, debounce := some 50, lastEvent := none },
        levelLow := { accepted := none, candidate := some s.pins.levelLow, debounce := some 300, lastEvent := none },
        levelHigh := { accepted := none, candidate := some s.pins.levelHigh, debounce := some 300, lastEvent := none },
        float := { accepted := none, candidate := some s.pins.float, debounce := some 500, lastEvent := none },
        saltLow := { accepted := none, candidate := some s.pins.saltLow, debounce := some 2000, lastEvent := none },
        rodHome := { accepted := none, candidate := some s.pins.rodHome, debounce := some 20, lastEvent := none } }).withGuard
      { s.guard with
        checks := CheckRec.resetAll s.pins,
        cleanCount := if s.guard.latched ∧ (s.pins.inletSn = true ∨ s.pins.heaterSn = true) then 0 else s.guard.cleanCount })
end

