-- ==== Sys2Proof/Laws/State.lean ====
section
/-! SUPPORT. Each block of the state after each update of a block. -/

namespace Sys2Proof.Machine

@[simp] theorem State.withResetHeld_resetHeld (s : State) (v : Bool) : (s.withResetHeld v).resetHeld = v := rfl
@[simp] theorem State.withResetHeld_pins (s : State) (v : Bool) : (s.withResetHeld v).pins = s.pins := rfl
@[simp] theorem State.withResetHeld_time (s : State) (v : Bool) : (s.withResetHeld v).time = s.time := rfl
@[simp] theorem State.withResetHeld_inputs (s : State) (v : Bool) : (s.withResetHeld v).inputs = s.inputs := rfl
@[simp] theorem State.withResetHeld_sampler (s : State) (v : Bool) : (s.withResetHeld v).sampler = s.sampler := rfl
@[simp] theorem State.withResetHeld_guard (s : State) (v : Bool) : (s.withResetHeld v).guard = s.guard := rfl
@[simp] theorem State.withResetHeld_actions (s : State) (v : Bool) : (s.withResetHeld v).actions = s.actions := rfl
@[simp] theorem State.withResetHeld_engine (s : State) (v : Bool) : (s.withResetHeld v).engine = s.engine := rfl
@[simp] theorem State.withResetHeld_softener (s : State) (v : Bool) : (s.withResetHeld v).softener = s.softener := rfl
@[simp] theorem State.withResetHeld_dosing (s : State) (v : Bool) : (s.withResetHeld v).dosing = s.dosing := rfl
@[simp] theorem State.withResetHeld_door (s : State) (v : Bool) : (s.withResetHeld v).door = s.door := rfl
@[simp] theorem State.withResetHeld_ports (s : State) (v : Bool) : (s.withResetHeld v).ports = s.ports := rfl
@[simp] theorem State.withResetHeld_store (s : State) (v : Bool) : (s.withResetHeld v).store = s.store := rfl
@[simp] theorem State.withResetHeld_pending (s : State) (v : Bool) : (s.withResetHeld v).pending = s.pending := rfl

@[simp] theorem State.withPins_resetHeld (s : State) (v : Pins) : (s.withPins v).resetHeld = s.resetHeld := rfl
@[simp] theorem State.withPins_pins (s : State) (v : Pins) : (s.withPins v).pins = v := rfl
@[simp] theorem State.withPins_time (s : State) (v : Pins) : (s.withPins v).time = s.time := rfl
@[simp] theorem State.withPins_inputs (s : State) (v : Pins) : (s.withPins v).inputs = s.inputs := rfl
@[simp] theorem State.withPins_sampler (s : State) (v : Pins) : (s.withPins v).sampler = s.sampler := rfl
@[simp] theorem State.withPins_guard (s : State) (v : Pins) : (s.withPins v).guard = s.guard := rfl
@[simp] theorem State.withPins_actions (s : State) (v : Pins) : (s.withPins v).actions = s.actions := rfl
@[simp] theorem State.withPins_engine (s : State) (v : Pins) : (s.withPins v).engine = s.engine := rfl
@[simp] theorem State.withPins_softener (s : State) (v : Pins) : (s.withPins v).softener = s.softener := rfl
@[simp] theorem State.withPins_dosing (s : State) (v : Pins) : (s.withPins v).dosing = s.dosing := rfl
@[simp] theorem State.withPins_door (s : State) (v : Pins) : (s.withPins v).door = s.door := rfl
@[simp] theorem State.withPins_ports (s : State) (v : Pins) : (s.withPins v).ports = s.ports := rfl
@[simp] theorem State.withPins_store (s : State) (v : Pins) : (s.withPins v).store = s.store := rfl
@[simp] theorem State.withPins_pending (s : State) (v : Pins) : (s.withPins v).pending = s.pending := rfl

@[simp] theorem State.withTime_resetHeld (s : State) (v : TimeBase) : (s.withTime v).resetHeld = s.resetHeld := rfl
@[simp] theorem State.withTime_pins (s : State) (v : TimeBase) : (s.withTime v).pins = s.pins := rfl
@[simp] theorem State.withTime_time (s : State) (v : TimeBase) : (s.withTime v).time = v := rfl
@[simp] theorem State.withTime_inputs (s : State) (v : TimeBase) : (s.withTime v).inputs = s.inputs := rfl
@[simp] theorem State.withTime_sampler (s : State) (v : TimeBase) : (s.withTime v).sampler = s.sampler := rfl
@[simp] theorem State.withTime_guard (s : State) (v : TimeBase) : (s.withTime v).guard = s.guard := rfl
@[simp] theorem State.withTime_actions (s : State) (v : TimeBase) : (s.withTime v).actions = s.actions := rfl
@[simp] theorem State.withTime_engine (s : State) (v : TimeBase) : (s.withTime v).engine = s.engine := rfl
@[simp] theorem State.withTime_softener (s : State) (v : TimeBase) : (s.withTime v).softener = s.softener := rfl
@[simp] theorem State.withTime_dosing (s : State) (v : TimeBase) : (s.withTime v).dosing = s.dosing := rfl
@[simp] theorem State.withTime_door (s : State) (v : TimeBase) : (s.withTime v).door = s.door := rfl
@[simp] theorem State.withTime_ports (s : State) (v : TimeBase) : (s.withTime v).ports = s.ports := rfl
@[simp] theorem State.withTime_store (s : State) (v : TimeBase) : (s.withTime v).store = s.store := rfl
@[simp] theorem State.withTime_pending (s : State) (v : TimeBase) : (s.withTime v).pending = s.pending := rfl

@[simp] theorem State.withInputs_resetHeld (s : State) (v : PerInput FilteredInput) : (s.withInputs v).resetHeld = s.resetHeld := rfl
@[simp] theorem State.withInputs_pins (s : State) (v : PerInput FilteredInput) : (s.withInputs v).pins = s.pins := rfl
@[simp] theorem State.withInputs_time (s : State) (v : PerInput FilteredInput) : (s.withInputs v).time = s.time := rfl
@[simp] theorem State.withInputs_inputs (s : State) (v : PerInput FilteredInput) : (s.withInputs v).inputs = v := rfl
@[simp] theorem State.withInputs_sampler (s : State) (v : PerInput FilteredInput) : (s.withInputs v).sampler = s.sampler := rfl
@[simp] theorem State.withInputs_guard (s : State) (v : PerInput FilteredInput) : (s.withInputs v).guard = s.guard := rfl
@[simp] theorem State.withInputs_actions (s : State) (v : PerInput FilteredInput) : (s.withInputs v).actions = s.actions := rfl
@[simp] theorem State.withInputs_engine (s : State) (v : PerInput FilteredInput) : (s.withInputs v).engine = s.engine := rfl
@[simp] theorem State.withInputs_softener (s : State) (v : PerInput FilteredInput) : (s.withInputs v).softener = s.softener := rfl
@[simp] theorem State.withInputs_dosing (s : State) (v : PerInput FilteredInput) : (s.withInputs v).dosing = s.dosing := rfl
@[simp] theorem State.withInputs_door (s : State) (v : PerInput FilteredInput) : (s.withInputs v).door = s.door := rfl
@[simp] theorem State.withInputs_ports (s : State) (v : PerInput FilteredInput) : (s.withInputs v).ports = s.ports := rfl
@[simp] theorem State.withInputs_store (s : State) (v : PerInput FilteredInput) : (s.withInputs v).store = s.store := rfl
@[simp] theorem State.withInputs_pending (s : State) (v : PerInput FilteredInput) : (s.withInputs v).pending = s.pending := rfl

@[simp] theorem State.withSampler_resetHeld (s : State) (v : Sampler) : (s.withSampler v).resetHeld = s.resetHeld := rfl
@[simp] theorem State.withSampler_pins (s : State) (v : Sampler) : (s.withSampler v).pins = s.pins := rfl
@[simp] theorem State.withSampler_time (s : State) (v : Sampler) : (s.withSampler v).time = s.time := rfl
@[simp] theorem State.withSampler_inputs (s : State) (v : Sampler) : (s.withSampler v).inputs = s.inputs := rfl
@[simp] theorem State.withSampler_sampler (s : State) (v : Sampler) : (s.withSampler v).sampler = v := rfl
@[simp] theorem State.withSampler_guard (s : State) (v : Sampler) : (s.withSampler v).guard = s.guard := rfl
@[simp] theorem State.withSampler_actions (s : State) (v : Sampler) : (s.withSampler v).actions = s.actions := rfl
@[simp] theorem State.withSampler_engine (s : State) (v : Sampler) : (s.withSampler v).engine = s.engine := rfl
@[simp] theorem State.withSampler_softener (s : State) (v : Sampler) : (s.withSampler v).softener = s.softener := rfl
@[simp] theorem State.withSampler_dosing (s : State) (v : Sampler) : (s.withSampler v).dosing = s.dosing := rfl
@[simp] theorem State.withSampler_door (s : State) (v : Sampler) : (s.withSampler v).door = s.door := rfl
@[simp] theorem State.withSampler_ports (s : State) (v : Sampler) : (s.withSampler v).ports = s.ports := rfl
@[simp] theorem State.withSampler_store (s : State) (v : Sampler) : (s.withSampler v).store = s.store := rfl
@[simp] theorem State.withSampler_pending (s : State) (v : Sampler) : (s.withSampler v).pending = s.pending := rfl

@[simp] theorem State.withGuard_resetHeld (s : State) (v : Guard) : (s.withGuard v).resetHeld = s.resetHeld := rfl
@[simp] theorem State.withGuard_pins (s : State) (v : Guard) : (s.withGuard v).pins = s.pins := rfl
@[simp] theorem State.withGuard_time (s : State) (v : Guard) : (s.withGuard v).time = s.time := rfl
@[simp] theorem State.withGuard_inputs (s : State) (v : Guard) : (s.withGuard v).inputs = s.inputs := rfl
@[simp] theorem State.withGuard_sampler (s : State) (v : Guard) : (s.withGuard v).sampler = s.sampler := rfl
@[simp] theorem State.withGuard_guard (s : State) (v : Guard) : (s.withGuard v).guard = v := rfl
@[simp] theorem State.withGuard_actions (s : State) (v : Guard) : (s.withGuard v).actions = s.actions := rfl
@[simp] theorem State.withGuard_engine (s : State) (v : Guard) : (s.withGuard v).engine = s.engine := rfl
@[simp] theorem State.withGuard_softener (s : State) (v : Guard) : (s.withGuard v).softener = s.softener := rfl
@[simp] theorem State.withGuard_dosing (s : State) (v : Guard) : (s.withGuard v).dosing = s.dosing := rfl
@[simp] theorem State.withGuard_door (s : State) (v : Guard) : (s.withGuard v).door = s.door := rfl
@[simp] theorem State.withGuard_ports (s : State) (v : Guard) : (s.withGuard v).ports = s.ports := rfl
@[simp] theorem State.withGuard_store (s : State) (v : Guard) : (s.withGuard v).store = s.store := rfl
@[simp] theorem State.withGuard_pending (s : State) (v : Guard) : (s.withGuard v).pending = s.pending := rfl

@[simp] theorem State.withActions_resetHeld (s : State) (v : List (Option ActionEntry)) : (s.withActions v).resetHeld = s.resetHeld := rfl
@[simp] theorem State.withActions_pins (s : State) (v : List (Option ActionEntry)) : (s.withActions v).pins = s.pins := rfl
@[simp] theorem State.withActions_time (s : State) (v : List (Option ActionEntry)) : (s.withActions v).time = s.time := rfl
@[simp] theorem State.withActions_inputs (s : State) (v : List (Option ActionEntry)) : (s.withActions v).inputs = s.inputs := rfl
@[simp] theorem State.withActions_sampler (s : State) (v : List (Option ActionEntry)) : (s.withActions v).sampler = s.sampler := rfl
@[simp] theorem State.withActions_guard (s : State) (v : List (Option ActionEntry)) : (s.withActions v).guard = s.guard := rfl
@[simp] theorem State.withActions_actions (s : State) (v : List (Option ActionEntry)) : (s.withActions v).actions = v := rfl
@[simp] theorem State.withActions_engine (s : State) (v : List (Option ActionEntry)) : (s.withActions v).engine = s.engine := rfl
@[simp] theorem State.withActions_softener (s : State) (v : List (Option ActionEntry)) : (s.withActions v).softener = s.softener := rfl
@[simp] theorem State.withActions_dosing (s : State) (v : List (Option ActionEntry)) : (s.withActions v).dosing = s.dosing := rfl
@[simp] theorem State.withActions_door (s : State) (v : List (Option ActionEntry)) : (s.withActions v).door = s.door := rfl
@[simp] theorem State.withActions_ports (s : State) (v : List (Option ActionEntry)) : (s.withActions v).ports = s.ports := rfl
@[simp] theorem State.withActions_store (s : State) (v : List (Option ActionEntry)) : (s.withActions v).store = s.store := rfl
@[simp] theorem State.withActions_pending (s : State) (v : List (Option ActionEntry)) : (s.withActions v).pending = s.pending := rfl

@[simp] theorem State.withEngine_resetHeld (s : State) (v : Engine) : (s.withEngine v).resetHeld = s.resetHeld := rfl
@[simp] theorem State.withEngine_pins (s : State) (v : Engine) : (s.withEngine v).pins = s.pins := rfl
@[simp] theorem State.withEngine_time (s : State) (v : Engine) : (s.withEngine v).time = s.time := rfl
@[simp] theorem State.withEngine_inputs (s : State) (v : Engine) : (s.withEngine v).inputs = s.inputs := rfl
@[simp] theorem State.withEngine_sampler (s : State) (v : Engine) : (s.withEngine v).sampler = s.sampler := rfl
@[simp] theorem State.withEngine_guard (s : State) (v : Engine) : (s.withEngine v).guard = s.guard := rfl
@[simp] theorem State.withEngine_actions (s : State) (v : Engine) : (s.withEngine v).actions = s.actions := rfl
@[simp] theorem State.withEngine_engine (s : State) (v : Engine) : (s.withEngine v).engine = v := rfl
@[simp] theorem State.withEngine_softener (s : State) (v : Engine) : (s.withEngine v).softener = s.softener := rfl
@[simp] theorem State.withEngine_dosing (s : State) (v : Engine) : (s.withEngine v).dosing = s.dosing := rfl
@[simp] theorem State.withEngine_door (s : State) (v : Engine) : (s.withEngine v).door = s.door := rfl
@[simp] theorem State.withEngine_ports (s : State) (v : Engine) : (s.withEngine v).ports = s.ports := rfl
@[simp] theorem State.withEngine_store (s : State) (v : Engine) : (s.withEngine v).store = s.store := rfl
@[simp] theorem State.withEngine_pending (s : State) (v : Engine) : (s.withEngine v).pending = s.pending := rfl

@[simp] theorem State.withSoftener_resetHeld (s : State) (v : Softener) : (s.withSoftener v).resetHeld = s.resetHeld := rfl
@[simp] theorem State.withSoftener_pins (s : State) (v : Softener) : (s.withSoftener v).pins = s.pins := rfl
@[simp] theorem State.withSoftener_time (s : State) (v : Softener) : (s.withSoftener v).time = s.time := rfl
@[simp] theorem State.withSoftener_inputs (s : State) (v : Softener) : (s.withSoftener v).inputs = s.inputs := rfl
@[simp] theorem State.withSoftener_sampler (s : State) (v : Softener) : (s.withSoftener v).sampler = s.sampler := rfl
@[simp] theorem State.withSoftener_guard (s : State) (v : Softener) : (s.withSoftener v).guard = s.guard := rfl
@[simp] theorem State.withSoftener_actions (s : State) (v : Softener) : (s.withSoftener v).actions = s.actions := rfl
@[simp] theorem State.withSoftener_engine (s : State) (v : Softener) : (s.withSoftener v).engine = s.engine := rfl
@[simp] theorem State.withSoftener_softener (s : State) (v : Softener) : (s.withSoftener v).softener = v := rfl
@[simp] theorem State.withSoftener_dosing (s : State) (v : Softener) : (s.withSoftener v).dosing = s.dosing := rfl
@[simp] theorem State.withSoftener_door (s : State) (v : Softener) : (s.withSoftener v).door = s.door := rfl
@[simp] theorem State.withSoftener_ports (s : State) (v : Softener) : (s.withSoftener v).ports = s.ports := rfl
@[simp] theorem State.withSoftener_store (s : State) (v : Softener) : (s.withSoftener v).store = s.store := rfl
@[simp] theorem State.withSoftener_pending (s : State) (v : Softener) : (s.withSoftener v).pending = s.pending := rfl

@[simp] theorem State.withDosing_resetHeld (s : State) (v : Dosing) : (s.withDosing v).resetHeld = s.resetHeld := rfl
@[simp] theorem State.withDosing_pins (s : State) (v : Dosing) : (s.withDosing v).pins = s.pins := rfl
@[simp] theorem State.withDosing_time (s : State) (v : Dosing) : (s.withDosing v).time = s.time := rfl
@[simp] theorem State.withDosing_inputs (s : State) (v : Dosing) : (s.withDosing v).inputs = s.inputs := rfl
@[simp] theorem State.withDosing_sampler (s : State) (v : Dosing) : (s.withDosing v).sampler = s.sampler := rfl
@[simp] theorem State.withDosing_guard (s : State) (v : Dosing) : (s.withDosing v).guard = s.guard := rfl
@[simp] theorem State.withDosing_actions (s : State) (v : Dosing) : (s.withDosing v).actions = s.actions := rfl
@[simp] theorem State.withDosing_engine (s : State) (v : Dosing) : (s.withDosing v).engine = s.engine := rfl
@[simp] theorem State.withDosing_softener (s : State) (v : Dosing) : (s.withDosing v).softener = s.softener := rfl
@[simp] theorem State.withDosing_dosing (s : State) (v : Dosing) : (s.withDosing v).dosing = v := rfl
@[simp] theorem State.withDosing_door (s : State) (v : Dosing) : (s.withDosing v).door = s.door := rfl
@[simp] theorem State.withDosing_ports (s : State) (v : Dosing) : (s.withDosing v).ports = s.ports := rfl
@[simp] theorem State.withDosing_store (s : State) (v : Dosing) : (s.withDosing v).store = s.store := rfl
@[simp] theorem State.withDosing_pending (s : State) (v : Dosing) : (s.withDosing v).pending = s.pending := rfl

@[simp] theorem State.withDoor_resetHeld (s : State) (v : DoorUnit) : (s.withDoor v).resetHeld = s.resetHeld := rfl
@[simp] theorem State.withDoor_pins (s : State) (v : DoorUnit) : (s.withDoor v).pins = s.pins := rfl
@[simp] theorem State.withDoor_time (s : State) (v : DoorUnit) : (s.withDoor v).time = s.time := rfl
@[simp] theorem State.withDoor_inputs (s : State) (v : DoorUnit) : (s.withDoor v).inputs = s.inputs := rfl
@[simp] theorem State.withDoor_sampler (s : State) (v : DoorUnit) : (s.withDoor v).sampler = s.sampler := rfl
@[simp] theorem State.withDoor_guard (s : State) (v : DoorUnit) : (s.withDoor v).guard = s.guard := rfl
@[simp] theorem State.withDoor_actions (s : State) (v : DoorUnit) : (s.withDoor v).actions = s.actions := rfl
@[simp] theorem State.withDoor_engine (s : State) (v : DoorUnit) : (s.withDoor v).engine = s.engine := rfl
@[simp] theorem State.withDoor_softener (s : State) (v : DoorUnit) : (s.withDoor v).softener = s.softener := rfl
@[simp] theorem State.withDoor_dosing (s : State) (v : DoorUnit) : (s.withDoor v).dosing = s.dosing := rfl
@[simp] theorem State.withDoor_door (s : State) (v : DoorUnit) : (s.withDoor v).door = v := rfl
@[simp] theorem State.withDoor_ports (s : State) (v : DoorUnit) : (s.withDoor v).ports = s.ports := rfl
@[simp] theorem State.withDoor_store (s : State) (v : DoorUnit) : (s.withDoor v).store = s.store := rfl
@[simp] theorem State.withDoor_pending (s : State) (v : DoorUnit) : (s.withDoor v).pending = s.pending := rfl

@[simp] theorem State.withPorts_resetHeld (s : State) (v : PerPort PortRec) : (s.withPorts v).resetHeld = s.resetHeld := rfl
@[simp] theorem State.withPorts_pins (s : State) (v : PerPort PortRec) : (s.withPorts v).pins = s.pins := rfl
@[simp] theorem State.withPorts_time (s : State) (v : PerPort PortRec) : (s.withPorts v).time = s.time := rfl
@[simp] theorem State.withPorts_inputs (s : State) (v : PerPort PortRec) : (s.withPorts v).inputs = s.inputs := rfl
@[simp] theorem State.withPorts_sampler (s : State) (v : PerPort PortRec) : (s.withPorts v).sampler = s.sampler := rfl
@[simp] theorem State.withPorts_guard (s : State) (v : PerPort PortRec) : (s.withPorts v).guard = s.guard := rfl
@[simp] theorem State.withPorts_actions (s : State) (v : PerPort PortRec) : (s.withPorts v).actions = s.actions := rfl
@[simp] theorem State.withPorts_engine (s : State) (v : PerPort PortRec) : (s.withPorts v).engine = s.engine := rfl
@[simp] theorem State.withPorts_softener (s : State) (v : PerPort PortRec) : (s.withPorts v).softener = s.softener := rfl
@[simp] theorem State.withPorts_dosing (s : State) (v : PerPort PortRec) : (s.withPorts v).dosing = s.dosing := rfl
@[simp] theorem State.withPorts_door (s : State) (v : PerPort PortRec) : (s.withPorts v).door = s.door := rfl
@[simp] theorem State.withPorts_ports (s : State) (v : PerPort PortRec) : (s.withPorts v).ports = v := rfl
@[simp] theorem State.withPorts_store (s : State) (v : PerPort PortRec) : (s.withPorts v).store = s.store := rfl
@[simp] theorem State.withPorts_pending (s : State) (v : PerPort PortRec) : (s.withPorts v).pending = s.pending := rfl

@[simp] theorem State.withStore_resetHeld (s : State) (v : Store) : (s.withStore v).resetHeld = s.resetHeld := rfl
@[simp] theorem State.withStore_pins (s : State) (v : Store) : (s.withStore v).pins = s.pins := rfl
@[simp] theorem State.withStore_time (s : State) (v : Store) : (s.withStore v).time = s.time := rfl
@[simp] theorem State.withStore_inputs (s : State) (v : Store) : (s.withStore v).inputs = s.inputs := rfl
@[simp] theorem State.withStore_sampler (s : State) (v : Store) : (s.withStore v).sampler = s.sampler := rfl
@[simp] theorem State.withStore_guard (s : State) (v : Store) : (s.withStore v).guard = s.guard := rfl
@[simp] theorem State.withStore_actions (s : State) (v : Store) : (s.withStore v).actions = s.actions := rfl
@[simp] theorem State.withStore_engine (s : State) (v : Store) : (s.withStore v).engine = s.engine := rfl
@[simp] theorem State.withStore_softener (s : State) (v : Store) : (s.withStore v).softener = s.softener := rfl
@[simp] theorem State.withStore_dosing (s : State) (v : Store) : (s.withStore v).dosing = s.dosing := rfl
@[simp] theorem State.withStore_door (s : State) (v : Store) : (s.withStore v).door = s.door := rfl
@[simp] theorem State.withStore_ports (s : State) (v : Store) : (s.withStore v).ports = s.ports := rfl
@[simp] theorem State.withStore_store (s : State) (v : Store) : (s.withStore v).store = v := rfl
@[simp] theorem State.withStore_pending (s : State) (v : Store) : (s.withStore v).pending = s.pending := rfl

@[simp] theorem State.withPending_resetHeld (s : State) (v : List Instr) : (s.withPending v).resetHeld = s.resetHeld := rfl
@[simp] theorem State.withPending_pins (s : State) (v : List Instr) : (s.withPending v).pins = s.pins := rfl
@[simp] theorem State.withPending_time (s : State) (v : List Instr) : (s.withPending v).time = s.time := rfl
@[simp] theorem State.withPending_inputs (s : State) (v : List Instr) : (s.withPending v).inputs = s.inputs := rfl
@[simp] theorem State.withPending_sampler (s : State) (v : List Instr) : (s.withPending v).sampler = s.sampler := rfl
@[simp] theorem State.withPending_guard (s : State) (v : List Instr) : (s.withPending v).guard = s.guard := rfl
@[simp] theorem State.withPending_actions (s : State) (v : List Instr) : (s.withPending v).actions = s.actions := rfl
@[simp] theorem State.withPending_engine (s : State) (v : List Instr) : (s.withPending v).engine = s.engine := rfl
@[simp] theorem State.withPending_softener (s : State) (v : List Instr) : (s.withPending v).softener = s.softener := rfl
@[simp] theorem State.withPending_dosing (s : State) (v : List Instr) : (s.withPending v).dosing = s.dosing := rfl
@[simp] theorem State.withPending_door (s : State) (v : List Instr) : (s.withPending v).door = s.door := rfl
@[simp] theorem State.withPending_ports (s : State) (v : List Instr) : (s.withPending v).ports = s.ports := rfl
@[simp] theorem State.withPending_store (s : State) (v : List Instr) : (s.withPending v).store = s.store := rfl
@[simp] theorem State.withPending_pending (s : State) (v : List Instr) : (s.withPending v).pending = v := rfl

/-! ### Entries of the per-name tables -/

@[simp] theorem PerInput.get_set {α : Type} (t : PerInput α) (k : Input) (v : α) : (t.set k v).get k = v := by cases k <;> rfl
@[simp] theorem PerInput.get_set_ne {α : Type} (t : PerInput α) (k j : Input) (v : α) (h : j ≠ k) : (t.set k v).get j = t.get j := by
  cases k <;> cases j <;> first | rfl | exact absurd rfl h

@[simp] theorem PerPort.get_set {α : Type} (t : PerPort α) (k : Port) (v : α) : (t.set k v).get k = v := by cases k <;> rfl
@[simp] theorem PerPort.get_set_ne {α : Type} (t : PerPort α) (k j : Port) (v : α) (h : j ≠ k) : (t.set k v).get j = t.get j := by
  cases k <;> cases j <;> first | rfl | exact absurd rfl h

@[simp] theorem PerLane.get_set {α : Type} (t : PerLane α) (k : Lane) (v : α) : (t.set k v).get k = v := by cases k <;> rfl
@[simp] theorem PerLane.get_set_ne {α : Type} (t : PerLane α) (k j : Lane) (v : α) (h : j ≠ k) : (t.set k v).get j = t.get j := by
  cases k <;> cases j <;> first | rfl | exact absurd rfl h

@[simp] theorem PerChecked.get_set {α : Type} (t : PerChecked α) (k : Checked) (v : α) : (t.set k v).get k = v := by cases k <;> rfl
@[simp] theorem PerChecked.get_set_ne {α : Type} (t : PerChecked α) (k j : Checked) (v : α) (h : j ≠ k) : (t.set k v).get j = t.get j := by
  cases k <;> cases j <;> first | rfl | exact absurd rfl h

@[simp] theorem PerOutput.get_set {α : Type} (t : PerOutput α) (k : Output) (v : α) : (t.set k v).get k = v := by cases k <;> rfl
@[simp] theorem PerOutput.get_set_ne {α : Type} (t : PerOutput α) (k j : Output) (v : α) (h : j ≠ k) : (t.set k v).get j = t.get j := by
  cases k <;> cases j <;> first | rfl | exact absurd rfl h

@[simp] theorem PerAgent.get_set {α : Type} (t : PerAgent α) (k : Agent) (v : α) : (t.set k v).get k = v := by cases k <;> rfl
@[simp] theorem PerAgent.get_set_ne {α : Type} (t : PerAgent α) (k j : Agent) (v : α) (h : j ≠ k) : (t.set k v).get j = t.get j := by
  cases k <;> cases j <;> first | rfl | exact absurd rfl h

@[simp] theorem State.withLane_lane (s : State) (l : Lane) (v : LaneRec) : (s.withLane l v).lane l = v := by cases l <;> rfl
@[simp] theorem State.withLane_lane_ne (s : State) (l k : Lane) (v : LaneRec) (h : k ≠ l) : (s.withLane l v).lane k = s.lane k := by
  cases l <;> cases k <;> first | rfl | exact absurd rfl h
@[simp] theorem State.withOut_out (s : State) (o : Output) (v : OutputRec) : (s.withOut o v).out o = v := by cases o <;> rfl
@[simp] theorem State.withOut_out_ne (s : State) (o k : Output) (v : OutputRec) (h : k ≠ o) : (s.withOut o v).out k = s.out k := by
  cases o <;> cases k <;> first | rfl | exact absurd rfl h
@[simp] theorem State.withPort_port (s : State) (p : Port) (v : PortRec) : (s.withPort p v).port p = v := by cases p <;> rfl
@[simp] theorem State.withPort_port_ne (s : State) (p k : Port) (v : PortRec) (h : k ≠ p) : (s.withPort p v).port k = s.port k := by
  cases p <;> cases k <;> first | rfl | exact absurd rfl h
@[simp] theorem State.withAccount_account (s : State) (a : Agent) (v : StockAccount) : (s.withAccount a v).account a = v := by
  cases a <;> rfl
@[simp] theorem State.withAccount_account_ne (s : State) (a k : Agent) (v : StockAccount) (h : k ≠ a) :
    (s.withAccount a v).account k = s.account k := by
  cases a <;> cases k <;> first | rfl | exact absurd rfl h

end Sys2Proof.Machine
end

