-- ==== Sys2Proof/Laws/Surroundings.lean ====
section
/-! SUPPORT. What happens inside the part leaves the surroundings of the state alone: one lemma for each shared operation. -/

namespace Sys2Proof.Machine

@[simp] theorem PerLane.set_water {α : Type} (t : PerLane α) (v : α) : (t.set .water v) = { t with water := v } := rfl
@[simp] theorem PerLane.set_dose {α : Type} (t : PerLane α) (v : α) : (t.set .dose v) = { t with dose := v } := rfl

/-! ### Updates of a block -/

/-- An update of the Guard that keeps flood, latch and latch drain. -/
@[simp] theorem State.withGuard_surroundings (s : State) (v : Guard) (h1 : v.flood = s.guard.flood)
    (h2 : v.floodStart = s.guard.floodStart) (h3 : v.latched = s.guard.latched) (h4 : v.record = s.guard.record)
    (h5 : v.cleanCount = s.guard.cleanCount) (h6 : v.latchDrain = s.guard.latchDrain)
    (h7 : v.drainAtReady = s.guard.drainAtReady) : (s.withGuard v).surroundings = s.surroundings := by
  simp [State.surroundings, h1, h2, h3, h4, h5, h6, h7]
@[simp] theorem State.withSoftener_surroundings (s : State) (v : Softener) :
    (s.withSoftener v).surroundings = s.surroundings := rfl
@[simp] theorem State.withDosing_surroundings (s : State) (v : Dosing) : (s.withDosing v).surroundings = s.surroundings := rfl
@[simp] theorem State.withDoor_surroundings (s : State) (v : DoorUnit) : (s.withDoor v).surroundings = s.surroundings := rfl
@[simp] theorem State.withOut_surroundings (s : State) (o : Output) (v : OutputRec) :
    (s.withOut o v).surroundings = s.surroundings := rfl
@[simp] theorem State.withAccount_surroundings (s : State) (a : Agent) (v : StockAccount) :
    (s.withAccount a v).surroundings = s.surroundings := rfl
@[simp] theorem State.withDose_surroundings (s : State) (v : Option DoseRec) :
    (s.withDose v).surroundings = s.surroundings := rfl
@[simp] theorem State.withTurb_surroundings (s : State) (v : Turbidity) : (s.withTurb v).surroundings = s.surroundings := rfl
@[simp] theorem State.withCycle_surroundings (s : State) (v : CycleRec) : (s.withCycle v).surroundings = s.surroundings := rfl

/-- An update of the engine that keeps the holders. -/
theorem State.withEngine_surroundings (s : State) (e : Engine) (hw : e.lanes.water.holder = s.engine.lanes.water.holder)
    (hd : e.lanes.dose.holder = s.engine.lanes.dose.holder) : (s.withEngine e).surroundings = s.surroundings := by
  simp [State.surroundings, hw, hd]

@[simp] theorem State.withEngine_lanes_surroundings (s : State) (v : Option Nat) (a b : Timer) :
    (s.withEngine { lanes := s.engine.lanes, refVolume := v, fillNoFlow := a, waterDry := b }).surroundings
      = s.surroundings := rfl

/-- An update of a lane that keeps its holder. -/
theorem State.withLane_surroundings (s : State) (l : Lane) (r : LaneRec) (h : r.holder = (s.lane l).holder) :
    (s.withLane l r).surroundings = s.surroundings := by
  cases l <;> simpa [State.surroundings, State.withLane, State.lane, PerLane.get] using h

@[simp] theorem State.modLane_surroundings (s : State) (l : Lane) (f : LaneRec → LaneRec)
    (h : (f (s.lane l)).holder = (s.lane l).holder) : (s.modLane l f).surroundings = s.surroundings :=
  s.withLane_surroundings l _ h

@[simp] theorem State.modHead_surroundings (s : State) (l : Lane) (f : StepRec → StepRec) :
    (s.modHead l f).surroundings = s.surroundings := by
  simp [State.modHead]

@[simp] theorem LaneRec.quiet_holder (r : LaneRec) : r.quiet.holder = r.holder := rfl
@[simp] theorem LaneRec.toReady_holder (r : LaneRec) : r.toReady.holder = r.holder := rfl
@[simp] theorem LaneRec.advance_holder (r : LaneRec) (hold : Bool) : (r.advance hold).holder = r.holder := by
  unfold LaneRec.advance; split
  · rfl
  · split <;> rfl

@[simp] theorem State.modDose_surroundings (s : State) (f : DoseRec → DoseRec) :
    (s.modDose f).surroundings = s.surroundings := by
  unfold State.modDose; split <;> rfl
@[simp] theorem State.modDoor_surroundings (s : State) (f : DoorUnit → DoorUnit) :
    (s.modDoor f).surroundings = s.surroundings := rfl
@[simp] theorem State.modSoftener_surroundings (s : State) (f : Softener → Softener) :
    (s.modSoftener f).surroundings = s.surroundings := rfl
@[simp] theorem State.modCheck_surroundings (s : State) (o : Checked) (f : CheckRec → CheckRec) :
    (s.modCheck o f).surroundings = s.surroundings := rfl

/-! ### Notices -/

@[simp] theorem PortRec.enter_face (p : PortRec) (n : Notice) : (p.enter n).face = p.face := by
  unfold PortRec.enter
  split
  · rfl
  · split
    · rfl
    · split <;> rfl

@[simp] theorem State.enterFor_surroundings (s : State) (set : List Port) (n : Notice) :
    (s.enterFor set n).surroundings = s.surroundings := by
  simp only [State.enterFor, State.surroundings, State.withPorts]
  congr 1 <;> split <;> simp

@[simp] theorem State.raiseByClass_surroundings (s : State) (n : Notice) :
    (s.raiseByClass n).surroundings = s.surroundings := by simp [State.raiseByClass]
@[simp] theorem State.raiseToAll_surroundings (s : State) (n : Notice) :
    (s.raiseToAll n).surroundings = s.surroundings := by simp [State.raiseToAll]
@[simp] theorem State.raiseStep_surroundings (s : State) (l : Lane) (n : Notice) :
    (s.raiseStep l n).surroundings = s.surroundings := by unfold State.raiseStep; split <;> simp
@[simp] theorem State.raiseHalted_surroundings (s : State) (l : Lane) (n : Notice) :
    (s.raiseHalted l n).surroundings = s.surroundings := by simp [State.raiseHalted]

/-! ### The cycle record -/

@[simp] theorem State.cycleEvent_surroundings (s : State) (f : CycleRec → CycleRec) :
    (s.cycleEvent f).surroundings = s.surroundings := by
  unfold State.cycleEvent
  split <;> simp
@[simp] theorem State.cycleWater_surroundings (s : State) (ml : Nat) :
    (s.cycleWater ml).surroundings = s.surroundings := by
  simp [State.cycleWater]
@[simp] theorem State.cycleStroke_surroundings (s : State) (a : Agent) (volume : Nat) :
    (s.cycleStroke a volume).surroundings = s.surroundings := by
  simp [State.cycleStroke]
@[simp] theorem State.cycleRegen_surroundings (s : State) (full : Bool) :
    (s.cycleRegen full).surroundings = s.surroundings := by
  simp [State.cycleRegen]
@[simp] theorem State.cycleFault_surroundings (s : State) :
    (s.cycleFault).surroundings = s.surroundings := by
  simp [State.cycleFault]
@[simp] theorem State.cyclePeak_surroundings (s : State) (t : Int) :
    (s.cyclePeak t).surroundings = s.surroundings := by
  simp [State.cyclePeak]

/-! ### Demand sets -/

@[simp] theorem State.putDemand_surroundings (s : State) (src : Source) (v : Bool) (o : Output) :
    (s.putDemand src v o).surroundings = s.surroundings := by
  rfl
@[simp] theorem State.putDemands_surroundings (s : State) (src : Source) (v : Bool) (os : List Output) :
    (s.putDemands src v os).surroundings = s.surroundings := by
  unfold State.putDemands
  induction os generalizing s with
  | nil => rfl
  | cons o os ih => exact ih _

/-! ### The resin account -/

@[simp] theorem State.raiseRegenPending_surroundings (s : State) :
    (s.raiseRegenPending).surroundings = s.surroundings := by
  simp [State.raiseRegenPending]
@[simp] theorem State.pendingTest_surroundings (s : State) :
    (s.pendingTest).surroundings = s.surroundings := by
  unfold State.pendingTest
  split <;> simp
@[simp] theorem State.debit_surroundings (s : State) (counts : Nat) :
    (s.debit counts).surroundings = s.surroundings := by
  unfold State.debit
  split <;> simp
@[simp] theorem State.softenerClosing_surroundings (s : State) (count : Nat) :
    (s.softenerClosing count).surroundings = s.surroundings := by
  unfold State.softenerClosing
  split <;> simp
@[simp] theorem State.pendingAtLoad_surroundings (s : State) :
    (s.pendingAtLoad).surroundings = s.surroundings := by
  unfold State.pendingAtLoad
  (repeat' split) <;> simp
@[simp] theorem State.restoreResin_surroundings (s : State) (full : Bool) :
    (s.restoreResin full).surroundings = s.surroundings := by
  unfold State.restoreResin
  dsimp only
  (repeat' split) <;> simp

/-! ### The lane records -/

@[simp] theorem State.releaseLane_surroundings (s : State) (l : Lane) :
    (s.releaseLane l).surroundings = s.surroundings := by
  unfold State.releaseLane
  split
  · exact s.modLane_surroundings l _ rfl
  · rfl
@[simp] theorem State.releaseExclusion_surroundings (s : State) :
    (s.releaseExclusion).surroundings = s.surroundings := by
  simp [State.releaseExclusion]
@[simp] theorem State.dropDose_surroundings (s : State) (l : Lane) :
    (s.dropDose l).surroundings = s.surroundings := by
  unfold State.dropDose
  split <;> simp
@[simp] theorem State.setRefFrom_surroundings (s : State) (t : StepRec) :
    (s.setRefFrom t).surroundings = s.surroundings := by
  unfold State.setRefFrom
  split <;> simp
@[simp] theorem State.concludeSuccess_surroundings (s : State) (l : Lane) (flags : ResultFlags) :
    (s.concludeSuccess l flags).surroundings = s.surroundings := by
  unfold State.concludeSuccess
  (repeat' split) <;> simp
@[simp] theorem State.failForGood_surroundings (s : State) (l : Lane) (result : StepResult) :
    (s.failForGood l result).surroundings = s.surroundings := by
  unfold State.failForGood
  split <;> simp
@[simp] theorem State.concludeCounted_surroundings (s : State) (l : Lane) (result : StepResult) :
    (s.concludeCounted l result).surroundings = s.surroundings := by
  unfold State.concludeCounted
  dsimp only
  (repeat' split) <;> simp

/-! ### The rod -/

@[simp] theorem State.raiseRodState_surroundings (s : State) (before : DoorUnit) (jam : JamCause) :
    (s.raiseRodState before jam).surroundings = s.surroundings := by
  simp [State.raiseRodState]
@[simp] theorem State.setAjar_surroundings (s : State) (v : Bool) :
    (s.setAjar v).surroundings = s.surroundings := by
  unfold State.setAjar
  split <;> simp
@[simp] theorem State.beginExtend_surroundings (s : State) :
    (s.beginExtend).surroundings = s.surroundings := by
  unfold State.beginExtend
  split <;> simp
@[simp] theorem State.rodHandOver_surroundings (s : State) :
    (s.rodHandOver).surroundings = s.surroundings := by
  unfold State.rodHandOver
  split <;> simp
@[simp] theorem State.extendGuard_surroundings (s : State) :
    (s.extendGuard).surroundings = s.surroundings := by
  unfold State.extendGuard
  split <;> simp
@[simp] theorem State.endHold_surroundings (s : State) :
    (s.endHold).surroundings = s.surroundings := by
  simp [State.endHold]
@[simp] theorem State.doorOpened_surroundings (s : State) :
    (s.doorOpened).surroundings = s.surroundings := by
  simp [State.doorOpened]
@[simp] theorem State.rodSupplyLost_surroundings (s : State) :
    (s.rodSupplyLost).surroundings = s.surroundings := by
  unfold State.rodSupplyLost
  split <;> simp
@[simp] theorem State.rodSupplyReady_surroundings (s : State) :
    (s.rodSupplyReady).surroundings = s.surroundings := by
  unfold State.rodSupplyReady
  split <;> simp
@[simp] theorem State.startHoming_surroundings (s : State) (cause : HomingCause) :
    (s.startHoming cause).surroundings = s.surroundings := by
  unfold State.startHoming
  split <;> simp
@[simp] theorem State.lockHoming_surroundings (s : State) (closed : Bool) :
    (s.lockHoming closed).surroundings = s.surroundings := by
  unfold State.lockHoming
  split <;> simp
@[simp] theorem State.rodTryEnd_surroundings (s : State) :
    (s.rodTryEnd).surroundings = s.surroundings := by
  unfold State.rodTryEnd
  (repeat' split) <;> simp
@[simp] theorem State.doorUnitDoor_surroundings (s : State) (closed isEvent : Bool) :
    (s.doorUnitDoor closed isEvent).surroundings = s.surroundings := by
  unfold State.doorUnitDoor
  dsimp only
  (repeat' split) <;> simp

/-! ### Output events and the evaluation -/

@[simp] theorem State.checkOutput_surroundings (s : State) (o : Checked) (on : Bool) :
    (s.checkOutput o on).surroundings = s.surroundings := by
  rfl
@[simp] theorem State.checkSense_surroundings (s : State) (o : Checked) (sense : Bool) :
    (s.checkSense o sense).surroundings = s.surroundings := by
  rfl
@[simp] theorem State.strayOpening_surroundings (s : State) :
    (s.strayOpening).surroundings = s.surroundings := by
  rfl
@[simp] theorem State.strayClosing_surroundings (s : State) :
    (s.strayClosing).surroundings = s.surroundings := by
  unfold State.strayClosing
  split <;> rfl
@[simp] theorem State.startNoFlow_surroundings (s : State) :
    (s.startNoFlow).surroundings = s.surroundings := by
  unfold State.startNoFlow
  dsimp only
  (repeat' split) <;> simp
@[simp] theorem State.stopNoFlow_surroundings (s : State) :
    (s.stopNoFlow).surroundings = s.surroundings := by
  simp [State.stopNoFlow]
@[simp] theorem State.inletOpening_surroundings (s : State) :
    (s.inletOpening).surroundings = s.surroundings := by
  simp [State.inletOpening]
@[simp] theorem State.inletClosing_surroundings (s : State) :
    (s.inletClosing).surroundings = s.surroundings := by
  simp only [State.inletClosing, State.stopNoFlow_surroundings, State.strayClosing_surroundings,
    State.cycleWater_surroundings, State.softenerClosing_surroundings]
  rfl
@[simp] theorem State.autoOpenHeater_surroundings (s : State) :
    (s.autoOpenHeater).surroundings = s.surroundings := by
  unfold State.autoOpenHeater
  (repeat' split) <;> simp
@[simp] theorem State.heaterEvent_surroundings (s : State) (on : Bool) :
    (s.heaterEvent on).surroundings = s.surroundings := by
  unfold State.heaterEvent
  split <;> simp
@[simp] theorem State.pumpEvent_surroundings (s : State) (a : Agent) (on : Bool) :
    (s.pumpEvent a on).surroundings = s.surroundings := by
  simp [State.pumpEvent]
@[simp] theorem State.settleOutput_surroundings (s : State) (o : Output) :
    (s.settleOutput o).surroundings = s.surroundings := by
  rfl
@[simp] theorem State.settleOutputs_surroundings (s : State) :
    (s.settleOutputs).surroundings = s.surroundings := by
  simp [State.settleOutputs, Output.evalOrder]
@[simp] theorem State.outputEvent_surroundings (s : State) (o : Output) (on : Bool) :
    (s.outputEvent o on).surroundings = s.surroundings := by
  unfold State.outputEvent
  (repeat' split) <;> simp
@[simp] theorem State.evaluate_surroundings (s : State) :
    (s.evaluate).surroundings = s.surroundings := by
  have h : ∀ (os : List Output) (u t : State) (g : Output → Bool), (os.foldl
      (fun u o => if g o then u else u.outputEvent o (t.energised o)) u).surroundings = u.surroundings := by
    intro os
    induction os with
    | nil => intros; rfl
    | cons o os ih => intro u t g; rw [List.foldl_cons, ih]; split <;> simp
  simpa [State.evaluate] using h Output.evalOrder s.settleOutputs s.settleOutputs
    (fun o => decide (s.energised o = s.settleOutputs.energised o))

/-! ### Stock accounts -/

@[simp] theorem State.evalLevel_surroundings (s : State) (a : Agent) :
    (s.evalLevel a).surroundings = s.surroundings := by
  unfold State.evalLevel
  dsimp only
  (repeat' split) <;> simp
@[simp] theorem State.setStock_surroundings (s : State) (a : Agent) (stock : Nat) :
    (s.setStock a stock).surroundings = s.surroundings := by
  simp [State.setStock]
@[simp] theorem State.declareStock_surroundings (s : State) (a : Agent) (stock : Nat) :
    (s.declareStock a stock).surroundings = s.surroundings := by
  simp [State.declareStock]
@[simp] theorem State.applyHeld_surroundings (s : State) (a : Agent) :
    (s.applyHeld a).surroundings = s.surroundings := by
  unfold State.applyHeld
  split <;> simp
@[simp] theorem State.countStroke_surroundings (s : State) (r : DoseRec) :
    (s.countStroke r).surroundings = s.surroundings := by
  unfold State.countStroke
  dsimp only
  split <;> simp
@[simp] theorem State.judgeStroke_surroundings (s : State) (r : DoseRec) :
    (s.judgeStroke r).surroundings = s.surroundings := by
  unfold State.judgeStroke
  split <;> simp
@[simp] theorem State.doseTryEnd_surroundings (s : State) :
    (s.doseTryEnd).surroundings = s.surroundings := by
  unfold State.doseTryEnd
  (repeat' split) <;> simp

/-! ### The ends of a try -/

@[simp] theorem State.withdrawAll_surroundings (s : State) (src : Source) :
    (s.withdrawAll src).surroundings = s.surroundings := by
  simp [State.withdrawAll]
@[simp] theorem State.enterDemands_surroundings (s : State) (src : Source) (os : List Output) :
    (s.enterDemands src os).surroundings = s.surroundings := by
  simp [State.enterDemands]
@[simp] theorem State.endRegen_surroundings (s : State) :
    (s.endRegen).surroundings = s.surroundings := by
  simp [State.endRegen]
@[simp] theorem State.abandonRegen_surroundings (s : State) :
    (s.abandonRegen).surroundings = s.surroundings := by
  unfold State.abandonRegen
  split <;> simp
@[simp] theorem State.dropDoseRequest_surroundings (s : State) :
    (s.dropDoseRequest).surroundings = s.surroundings := by
  simp [State.dropDoseRequest]
@[simp] theorem State.tellTryEnd_surroundings (s : State) (l : Lane) :
    (s.tellTryEnd l).surroundings = s.surroundings := by
  unfold State.tellTryEnd
  (repeat' split) <;> simp
@[simp] theorem State.tryEnd_surroundings (s : State) (l : Lane) :
    (s.tryEnd l).surroundings = s.surroundings := by
  unfold State.tryEnd
  split <;> simp
@[simp] theorem State.succeed_surroundings (s : State) (l : Lane) (flags : ResultFlags) (actual : Option Nat) :
    (s.succeed l flags actual).surroundings = s.surroundings := by
  unfold State.succeed
  split <;> simp
@[simp] theorem State.endCounted_surroundings (s : State) (l : Lane) (result : StepResult) :
    (s.endCounted l result).surroundings = s.surroundings := by
  simp [State.endCounted]
@[simp] theorem State.failCounted_surroundings (s : State) (l : Lane) (result : StepResult) :
    (s.failCounted l result).surroundings = s.surroundings := by
  unfold State.failCounted
  split <;> simp
@[simp] theorem State.failImmediate_surroundings (s : State) (l : Lane) (result : StepResult) :
    (s.failImmediate l result).surroundings = s.surroundings := by
  unfold State.failImmediate
  split <;> simp
@[simp] theorem State.guardReportLane_surroundings (s : State) (result : StepResult) (l : Lane) :
    (s.guardReportLane result l).surroundings = s.surroundings := by
  unfold State.guardReportLane
  split <;> simp
@[simp] theorem State.guardReport_surroundings (s : State) (result : StepResult) :
    (s.guardReport result).surroundings = s.surroundings := by
  simp [State.guardReport]
@[simp] theorem State.endTest_surroundings (s : State) :
    (s.endTest).surroundings = s.surroundings := by
  unfold State.endTest
  split <;> simp
@[simp] theorem State.putForced_surroundings (s : State) :
    (s.putForced).surroundings = s.surroundings := by
  simp [State.putForced]
@[simp] theorem State.withdrawActions_surroundings (s : State) :
    (s.withdrawActions).surroundings = s.surroundings := by
  simp [State.withdrawActions]

/-! ### Doses -/

@[simp] theorem State.requestSample_surroundings (s : State) (port : Option Port) (dose : Bool) :
    (s.requestSample port dose).surroundings = s.surroundings := by
  unfold State.requestSample
  dsimp only
  split <;> simp
@[simp] theorem State.computeDose_surroundings (s : State) (soilClass : Option Nat) :
    (s.computeDose soilClass).surroundings = s.surroundings := by
  simp [State.computeDose]
@[simp] theorem State.findClass_surroundings (s : State) (r : DoseRec) :
    (s.findClass r).surroundings = s.surroundings := by
  unfold State.findClass
  (repeat' split) <;> simp
@[simp] theorem State.setTryTarget_surroundings (s : State) :
    (s.setTryTarget).surroundings = s.surroundings := by
  simp [State.setTryTarget]
@[simp] theorem State.issueStroke_surroundings (s : State) (a : Agent) :
    (s.issueStroke a).surroundings = s.surroundings := by
  simp [State.issueStroke]
@[simp] theorem State.endDose_surroundings (s : State) (o : Outcome) :
    (s.endDose o).surroundings = s.surroundings := by
  unfold State.endDose
  split <;> simp
@[simp] theorem State.strokeDue_surroundings (s : State) :
    (s.strokeDue).surroundings = s.surroundings := by
  unfold State.strokeDue
  (repeat' split) <;> simp
@[simp] theorem State.startDoseDry_surroundings (s : State) :
    (s.startDoseDry).surroundings = s.surroundings := by
  simp [State.startDoseDry]
@[simp] theorem State.doseWork_surroundings (s : State) :
    (s.doseWork).surroundings = s.surroundings := by
  unfold State.doseWork
  split <;> simp
@[simp] theorem State.dosePause_surroundings (s : State) (supply : Bool) :
    (s.dosePause supply).surroundings = s.surroundings := by
  unfold State.dosePause
  split <;> simp
@[simp] theorem State.restStroke_surroundings (s : State) :
    (s.restStroke).surroundings = s.surroundings := by
  simp [State.restStroke]
@[simp] theorem State.strokeEnds_surroundings (s : State) :
    (s.strokeEnds).surroundings = s.surroundings := by
  unfold State.strokeEnds
  dsimp only
  (repeat' split) <;> simp

/-! ### Regenerations -/

@[simp] theorem State.regenHandOver_surroundings (s : State) :
    (s.regenHandOver).surroundings = s.surroundings := by
  simp [State.regenHandOver]
@[simp] theorem State.raiseRegenDone_surroundings (s : State) (full : Bool) :
    (s.raiseRegenDone full).surroundings = s.surroundings := by
  simp [State.raiseRegenDone]
@[simp] theorem State.regenComplete_surroundings (s : State) (short : Bool) :
    (s.regenComplete short).surroundings = s.surroundings := by
  simp [State.regenComplete]
@[simp] theorem State.rinseOrComplete_surroundings (s : State) :
    (s.rinseOrComplete).surroundings = s.surroundings := by
  unfold State.rinseOrComplete
  split <;> simp
@[simp] theorem State.regenResume_surroundings (s : State) :
    (s.regenResume).surroundings = s.surroundings := by
  unfold State.regenResume
  split <;> simp
@[simp] theorem State.brineEnds_surroundings (s : State) :
    (s.brineEnds).surroundings = s.surroundings := by
  simp [State.brineEnds]
@[simp] theorem State.soakEnds_surroundings (s : State) :
    (s.soakEnds).surroundings = s.surroundings := by
  simp [State.soakEnds]
@[simp] theorem State.regenActual_surroundings (s : State) :
    (s.regenActual).surroundings = s.surroundings := by
  simp [State.regenActual]
@[simp] theorem State.regenEdge_surroundings (s : State) :
    (s.regenEdge).surroundings = s.surroundings := by
  unfold State.regenEdge
  dsimp only
  (repeat' split) <;> simp
@[simp] theorem State.softenerLevelHigh_surroundings (s : State) (reached : Bool) :
    (s.softenerLevelHigh reached).surroundings = s.surroundings := by
  unfold State.softenerLevelHigh
  split <;> simp

/-! ### What the Door Unit settles -/

@[simp] theorem State.errandDone_surroundings (s : State) :
    (s.errandDone).surroundings = s.surroundings := by
  simp [State.errandDone]
@[simp] theorem State.rodSuccess_surroundings (s : State) (flags : ResultFlags) (actual : Nat) :
    (s.rodSuccess flags actual).surroundings = s.surroundings := by
  unfold State.rodSuccess
  split <;> simp
@[simp] theorem State.rodBlocked_surroundings (s : State) :
    (s.rodBlocked).surroundings = s.surroundings := by
  unfold State.rodBlocked
  split <;> simp
@[simp] theorem State.rodOpened_surroundings (s : State) :
    (s.rodOpened).surroundings = s.surroundings := by
  unfold State.rodOpened
  split <;> simp
@[simp] theorem State.rodRestart_surroundings (s : State) :
    (s.rodRestart).surroundings = s.surroundings := by
  unfold State.rodRestart
  (repeat' split) <;> simp
@[simp] theorem State.rodAtHome_surroundings (s : State) :
    (s.rodAtHome).surroundings = s.surroundings := by
  unfold State.rodAtHome
  (repeat' split) <;> simp
@[simp] theorem State.rodJam_surroundings (s : State) (jam : JamCause) :
    (s.rodJam jam).surroundings = s.surroundings := by
  unfold State.rodJam
  dsimp only
  split <;> simp
@[simp] theorem State.rodOcAsserted_surroundings (s : State) :
    (s.rodOcAsserted).surroundings = s.surroundings := by
  unfold State.rodOcAsserted
  split <;> simp
@[simp] theorem State.beginRetract_surroundings (s : State) :
    (s.beginRetract).surroundings = s.surroundings := by
  unfold State.beginRetract
  (repeat' split) <;> simp
@[simp] theorem State.deadTimeEnds_surroundings (s : State) :
    (s.deadTimeEnds).surroundings = s.surroundings := by
  unfold State.deadTimeEnds
  (repeat' split) <;> simp
@[simp] theorem State.rodPauseEnd_surroundings (s : State) :
    (s.rodPauseEnd).surroundings = s.surroundings := by
  unfold State.rodPauseEnd
  (repeat' split) <;> simp
@[simp] theorem State.doorUnitHome_surroundings (s : State) (closed isEvent : Bool) :
    (s.doorUnitHome closed isEvent).surroundings = s.surroundings := by
  unfold State.doorUnitHome
  (repeat' split) <;> simp

/-! ### Starts and pauses -/

@[simp] theorem State.setDiverter_surroundings (s : State) (d : Diverter) :
    (s.setDiverter d).surroundings = s.surroundings := by
  rfl
@[simp] theorem State.prepare_surroundings (s : State) (l : Lane) (t : StepRec) (first : Bool) :
    (s.prepare l t first).surroundings = s.surroundings := by
  unfold State.prepare
  dsimp only
  (repeat' split) <;> simp
@[simp] theorem State.heatReading_surroundings (s : State) (l : Lane) :
    (s.heatReading l).surroundings = s.surroundings := by
  unfold State.heatReading
  split <;> simp
@[simp] theorem State.runSetup_surroundings (s : State) (l : Lane) (w : Work) :
    (s.runSetup l w).surroundings = s.surroundings := by
  unfold State.runSetup
  split <;> simp
@[simp] theorem State.enterKind_surroundings (s : State) (w : Work) :
    (s.enterKind w).surroundings = s.surroundings := by
  unfold State.enterKind
  split <;> simp
@[simp] theorem State.runKind_surroundings (s : State) (l : Lane) (w : Work) :
    (s.runKind l w).surroundings = s.surroundings := by
  simp [State.runKind]
@[simp] theorem State.pauseAtStart_surroundings (s : State) (l : Lane) (fromWait : Bool) :
    (s.pauseAtStart l fromWait).surroundings = s.surroundings := by
  simp [State.pauseAtStart]
@[simp] theorem State.takeOutcome_surroundings (s : State) (l : Lane) (w : Work) (door : Bool) (o : Outcome) :
    (s.takeOutcome l w door o).surroundings = s.surroundings := by
  unfold State.takeOutcome
  (repeat' split) <;> simp
@[simp] theorem State.beginTry_surroundings (s : State) (l : Lane) (t : StepRec) :
    (s.beginTry l t).surroundings = s.surroundings := by
  unfold State.beginTry
  dsimp only
  split <;> simp
@[simp] theorem State.deferLane_surroundings (s : State) (l : Lane) (cause : WaitCause) :
    (s.deferLane l cause).surroundings = s.surroundings := by
  simp [State.deferLane]
@[simp] theorem State.haltLane_surroundings (s : State) (l : Lane) (t : StepRec) :
    (s.haltLane l t).surroundings = s.surroundings := by
  simp [State.haltLane]
@[simp] theorem State.attempt_surroundings (s : State) (l : Lane) :
    (s.attempt l).surroundings = s.surroundings := by
  unfold State.attempt
  (repeat' split) <;> simp
@[simp] theorem State.attemptInOrder_surroundings (s : State) (l : Lane) :
    (s.attemptInOrder l).surroundings = s.surroundings := by
  unfold State.attemptInOrder
  dsimp only
  (repeat' split) <;> simp
@[simp] theorem State.retest_surroundings (s : State) (l : Lane) :
    (s.retest l).surroundings = s.surroundings := by
  unfold State.retest
  (repeat' split) <;> simp
@[simp] theorem State.pauseKind_surroundings (s : State) (l : Lane) (supply : Bool) :
    (s.pauseKind l supply).surroundings = s.surroundings := by
  unfold State.pauseKind
  (repeat' split) <;> simp
@[simp] theorem State.addCause_surroundings (s : State) (l : Lane) (supply : Bool) :
    (s.addCause l supply).surroundings = s.surroundings := by
  unfold State.addCause
  dsimp only
  split <;> simp
@[simp] theorem State.removeCause_surroundings (s : State) (l : Lane) (supply : Bool) :
    (s.removeCause l supply).surroundings = s.surroundings := by
  unfold State.removeCause
  dsimp only
  (repeat' split) <;> simp
@[simp] theorem State.fillStopped_surroundings (s : State) (t : StepRec) :
    (s.fillStopped t).surroundings = s.surroundings := by
  simp [State.fillStopped]
@[simp] theorem State.startWaterDry_surroundings (s : State) :
    (s.startWaterDry).surroundings = s.surroundings := by
  simp [State.startWaterDry]
@[simp] theorem State.redivert_surroundings (s : State) (l : Lane) :
    (s.redivert l).surroundings = s.surroundings := by
  unfold State.redivert
  (repeat' split) <;> simp
@[simp] theorem State.resumePumping_surroundings (s : State) (w : Work) :
    (s.resumePumping w).surroundings = s.surroundings := by
  unfold State.resumePumping
  dsimp only
  split <;> simp
@[simp] theorem State.resumeKind_surroundings (s : State) (t : StepRec) :
    (s.resumeKind t).surroundings = s.surroundings := by
  unfold State.resumeKind
  (repeat' split) <;> simp
@[simp] theorem State.pauseEnds_surroundings (s : State) (l : Lane) :
    (s.pauseEnds l).surroundings = s.surroundings := by
  unfold State.pauseEnds
  dsimp only
  (repeat' split) <;> simp

/-! ### Events handed to the blocks -/

@[simp] theorem State.outputFault_surroundings (s : State) (o : Output) (kind : Nat) :
    (s.outputFault o kind).surroundings = s.surroundings := by
  simp [State.outputFault]
@[simp] theorem State.supplyBack_surroundings (s : State) (l : Lane) :
    (s.supplyBack l).surroundings = s.surroundings := by
  unfold State.supplyBack
  split
  · exact s.modLane_surroundings l _ rfl
  · rfl
@[simp] theorem State.engineSupply_surroundings (s : State) (ready : Bool) :
    (s.engineSupply ready).surroundings = s.surroundings := by
  unfold State.engineSupply
  split <;> simp
@[simp] theorem State.engineDoor_surroundings (s : State) (closed isEvent : Bool) :
    (s.engineDoor closed isEvent).surroundings = s.surroundings := by
  unfold State.engineDoor
  (repeat' split) <;> simp
@[simp] theorem State.drainLevel_surroundings (s : State) (runOn : Nat) (wet isEvent : Bool) :
    (s.drainLevel runOn wet isEvent).surroundings = s.surroundings := by
  unfold State.drainLevel
  (repeat' split) <;> simp
@[simp] theorem State.pumpingLevel_surroundings (s : State) (wet isEvent : Bool) :
    (s.pumpingLevel wet isEvent).surroundings = s.surroundings := by
  unfold State.pumpingLevel
  (repeat' split) <;> simp
@[simp] theorem State.waterLevelLow_surroundings (s : State) (wet isEvent : Bool) :
    (s.waterLevelLow wet isEvent).surroundings = s.surroundings := by
  unfold State.waterLevelLow
  (repeat' split) <;> simp
@[simp] theorem State.doseLevelLow_surroundings (s : State) (wet isEvent : Bool) :
    (s.doseLevelLow wet isEvent).surroundings = s.surroundings := by
  unfold State.doseLevelLow
  dsimp only
  (repeat' split) <;> simp
@[simp] theorem State.engineLevelHigh_surroundings (s : State) (reached : Bool) :
    (s.engineLevelHigh reached).surroundings = s.surroundings := by
  unfold State.engineLevelHigh
  (repeat' split) <;> simp
@[simp] theorem State.engineInput_surroundings (s : State) (i : Input) (level isEvent : Bool) :
    (s.engineInput i level isEvent).surroundings = s.surroundings := by
  unfold State.engineInput
  split <;> simp
@[simp] theorem State.doorUnitInput_surroundings (s : State) (i : Input) (level isEvent : Bool) :
    (s.doorUnitInput i level isEvent).surroundings = s.surroundings := by
  unfold State.doorUnitInput
  (repeat' split) <;> simp
@[simp] theorem State.raiseInputChanged_surroundings (s : State) (i : Input) (level : Bool) :
    (s.raiseInputChanged i level).surroundings = s.surroundings := by
  simp [State.raiseInputChanged]
@[simp] theorem State.heatSample_surroundings (s : State) :
    (s.heatSample).surroundings = s.surroundings := by
  unfold State.heatSample
  (repeat' split) <;> simp
@[simp] theorem State.sampleTo_surroundings (s : State) (kind : Option NoticeKind) (code : Code) (r : Receiver) :
    (State.sampleTo kind code r s).surroundings = s.surroundings := by
  unfold State.sampleTo
  (repeat' split) <;> simp

/-! ### The Action Table -/

@[simp] theorem State.resumeHeld_surroundings (s : State) (l : Lane) :
    (s.resumeHeld l).surroundings = s.surroundings := by
  unfold State.resumeHeld
  split
  · refine s.modLane_surroundings l _ ?_
    cases (s.lane l).queue.isEmpty <;> simp
  · rfl
@[simp] theorem State.actionDemand_surroundings (s : State) (e : ActionEntry) :
    (s.actionDemand e).surroundings = s.surroundings := by
  unfold State.actionDemand
  (repeat' split) <;> simp
@[simp] theorem State.actionHandOn_surroundings (s : State) (e : ActionEntry) :
    (s.actionHandOn e).surroundings = s.surroundings := by
  unfold State.actionHandOn
  (repeat' split) <;> simp
@[simp] theorem State.executeEntry_surroundings (s : State) (slot : Nat) (e : ActionEntry) :
    (s.executeEntry slot e).surroundings = s.surroundings := by
  unfold State.executeEntry
  split <;> simp
@[simp] theorem State.executeSet_surroundings (s : State) (entries : List (Nat × ActionEntry)) :
    (s.executeSet entries).surroundings = s.surroundings := by
  have hd : ∀ (es : List (Nat × ActionEntry)) (u : State),
      (es.foldl (fun s e => s.actionDemand e.2) u).surroundings = u.surroundings := by
    intro es
    induction es with
    | nil => intro u; rfl
    | cons e es ih => intro u; rw [List.foldl_cons, ih]; simp
  have he : ∀ (es : List (Nat × ActionEntry)) (u : State),
      (es.foldl (fun s e => s.executeEntry e.1 e.2) u).surroundings = u.surroundings := by
    intro es
    induction es with
    | nil => intro u; rfl
    | cons e es ih => intro u; rw [List.foldl_cons, ih]; simp
  simp [State.executeSet, hd, he]

/-! ### Flood, latch and latch drain, which their own rules change -/

@[simp] theorem State.startLatchDrain_surroundings (s : State) :
    s.startLatchDrain.surroundings = { s.surroundings with latchDrain := s.timer 120000 } := rfl

/-- R43: what a stuck-on fault of INLET or HEATER changes of the surroundings. -/
theorem State.latchFault_surroundings (s : State) (o : LatchOutput) :
    (s.latchFault o).surroundings = { s.surroundings with
      latched := true,
      record := if s.guard.latched then s.guard.record.map (fun r => { r with further := true })
                else some { output := o, time := s.now, further := false },
      cleanCount := if s.guard.latched then s.guard.cleanCount else 0,
      latchDrain := s.timer 120000 } := by
  simp only [State.latchFault, State.guardReport_surroundings, State.raiseToAll_surroundings,
    State.cycleFault_surroundings, State.evaluate_surroundings, State.startLatchDrain_surroundings]
  rfl

/-- R46: the latch drain of the first READY after a warm reset. -/
@[simp] theorem State.drainAtFirstReady_surroundings (s : State) :
    s.drainAtFirstReady.surroundings = { s.surroundings with
      latchDrain := if s.guard.drainAtReady then s.timer 120000 else s.guard.latchDrain, drainAtReady := false } := by
  unfold State.drainAtFirstReady
  split
  · rename_i h
    rw [State.startLatchDrain_surroundings]
    rfl
  · rename_i h
    simp [State.surroundings, h]

/-- R47: what a flood start changes of the surroundings. -/
@[simp] theorem State.floodStarts_surroundings (s : State) :
    s.floodStarts.surroundings = { s.surroundings with flood := true, floodStart := some s.now } := by
  simp only [State.floodStarts, State.raiseToAll_surroundings, State.withdrawActions_surroundings,
    State.guardReport_surroundings, State.cycleFault_surroundings, State.evaluate_surroundings,
    State.putForced_surroundings]
  rfl

/-- R48: what a flood end changes of the surroundings. -/
@[simp] theorem State.floodEnds_surroundings (s : State) :
    s.floodEnds.surroundings = { s.surroundings with flood := false, floodStart := none } := by
  simp only [State.floodEnds, State.raiseByClass_surroundings, State.evaluate_surroundings,
    State.putForced_surroundings]
  rfl

/-- R47 and R48: what FLOAT changes of the surroundings: TRIPPED while there is no flood starts one. -/
@[simp] theorem State.guardFloat_surroundings (s : State) (clear isEvent : Bool) :
    (s.guardFloat clear isEvent).surroundings = { s.surroundings with
      flood := s.guard.flood || !clear,
      floodStart := if clear || s.guard.flood then s.guard.floodStart else some s.now } := by
  unfold State.guardFloat
  cases clear
  · cases hf : s.guard.flood
    · simp
    · cases isEvent <;> simp [hf] <;> simp [State.surroundings, hf]
  · cases isEvent <;> cases hf : s.guard.flood <;> simp [hf] <;> simp [State.surroundings, hf]

/-! ### What each receiver of an event does to the surroundings -/

/-- R14: only the Guard's start of the latch drain, at a change to READY, touches the surroundings. -/
theorem State.supplyTo_surroundings (s : State) (cause : Option LossCause) (r : Receiver)
    (h : cause.isSome = true ∨ r ≠ .guard) : (State.supplyTo cause r s).surroundings = s.surroundings := by
  unfold State.supplyTo
  cases r <;> cases cause <;> simp_all

/-- R19 and R21: only the Guard's flood start touches the surroundings. -/
theorem State.inputTo_surroundings (s : State) (i : Input) (level isEvent : Bool) (r : Receiver)
    (h : i ≠ .float ∨ r ≠ .guard) : (State.inputTo i level isEvent r s).surroundings = s.surroundings := by
  unfold State.inputTo
  cases r
  · cases i <;> simp_all
  · simp
  · dsimp only; split <;> simp
  · simp
  · dsimp only; split <;> simp
  · rfl

/-! ### Delivery -/

/-- What every receiver's act keeps, a delivery keeps. -/
theorem deliver_keeps {α : Type} (f : State → α) (act : Receiver → State → State)
    (h : ∀ r s, f (act r s) = f s) (order left : List Receiver) (s : State) : f (deliver act order left s) = f s := by
  induction order generalizing left s with
  | nil =>
    simp only [deliver]
    induction left generalizing s with
    | nil => rfl
    | cons r rest ih => rw [List.foldl_cons, ih, h]
  | cons r rest ih =>
    simp only [deliver]
    split
    · rw [ih, h]
    · exact ih _ _

/-- A delivery in which the Guard alone changes what `f` reads, by `g`, which is the same done twice. -/
theorem deliver_guard {α : Type} (f : State → α) (g : α → α) (hg : ∀ x, g (g x) = g x) (act : Receiver → State → State)
    (h1 : ∀ s, f (act .guard s) = g (f s)) (h2 : ∀ r s, r ≠ .guard → f (act r s) = f s) (order left : List Receiver)
    (s : State) (hl : Receiver.guard ∈ left) : f (deliver act order left s) = g (f s) := by
  have key : ∀ (order left : List Receiver) (s : State),
      f (deliver act order left s) = f s ∨ f (deliver act order left s) = g (f s) := by
    intro order
    induction order with
    | nil =>
      intro left
      simp only [deliver]
      induction left with
      | nil => intro s; exact .inl rfl
      | cons r rest ih =>
        intro s
        rw [List.foldl_cons]
        by_cases hr : r = .guard
        · subst hr
          rcases ih (act .guard s) with e | e <;> rw [e, h1] <;> simp [hg]
        · rcases ih (act r s) with e | e <;> rw [e, h2 r s hr] <;> simp
    | cons r rest ih =>
      intro left s
      simp only [deliver]
      split
      · by_cases hr : r = .guard
        · subst hr
          rcases ih (left.erase .guard) (act .guard s) with e | e <;> rw [e, h1] <;> simp [hg]
        · rcases ih (left.erase r) (act r s) with e | e <;> rw [e, h2 r s hr] <;> simp
      · exact ih left s
  have fix : ∀ (order left : List Receiver) (s : State), f s = g (f s) → f (deliver act order left s) = f s := by
    intro order left s hs
    rcases key order left s with e | e
    · exact e
    · rw [e, ← hs]
  induction order generalizing left s with
  | nil =>
    have := key [] left s
    simp only [deliver] at this ⊢
    clear this
    induction left generalizing s with
    | nil => simp at hl
    | cons r rest ih =>
      rw [List.foldl_cons]
      by_cases hr : r = .guard
      · subst hr
        have := fix [] rest (act .guard s) (by rw [h1, hg])
        simp only [deliver] at this
        rw [this, h1]
      · rw [ih (act r s) (by simpa [Ne.symm hr] using hl), h2 r s hr]
  | cons r rest ih =>
    simp only [deliver]
    split
    · by_cases hr : r = .guard
      · subst hr
        rw [fix rest _ _ (by rw [h1, hg]), h1]
      · rw [ih _ _ ((List.mem_erase_of_ne (Ne.symm hr)).2 hl), h2 r s hr]
    · exact ih _ _ hl

/-- R13 and R14: a change of the supply to LOST. -/
@[simp] theorem deliver_supplyLost_surroundings (cause : LossCause) (order left : List Receiver) (s : State) :
    (deliver (State.supplyTo (some cause)) order left s).surroundings = s.surroundings :=
  deliver_keeps State.surroundings _ (fun r s => s.supplyTo_surroundings _ r (.inl rfl)) order left s

/-- R12, R14 and R46: a change of the supply to READY. -/
theorem deliver_supplyReady_surroundings (order : List Receiver) (s : State) :
    (deliver (State.supplyTo none) order Receiver.ofSupply s).surroundings = { s.surroundings with
      latchDrain := if s.guard.drainAtReady then s.timer 120000 else s.guard.latchDrain, drainAtReady := false } := by
  refine deliver_guard State.surroundings
    (fun x => { x with latchDrain := if x.drainAtReady then timerFor x.clock 120000 else x.latchDrain,
                       drainAtReady := false })
    (fun x => by simp) _ (fun s => ?_) (fun r s hr => s.supplyTo_surroundings none r (.inr hr)) order _ s (by decide)
  show (s.drainAtFirstReady.evaluate).surroundings = _
  rw [State.evaluate_surroundings, State.drainAtFirstReady_surroundings]
  rfl

/-- R19 and R21: an input event or settle report of another input than FLOAT. -/
theorem deliver_inputTo_surroundings (i : Input) (level isEvent : Bool) (order left : List Receiver) (s : State)
    (h : i ≠ .float) : (deliver (State.inputTo i level isEvent) order left s).surroundings = s.surroundings :=
  deliver_keeps State.surroundings _ (fun r s => s.inputTo_surroundings i level isEvent r (.inl h)) order left s

/-- R47 and R48: an event or settle report of FLOAT; TRIPPED while there is no flood starts one. -/
theorem deliver_float_surroundings (level isEvent : Bool) (order : List Receiver) (s : State) :
    (deliver (State.inputTo .float level isEvent) order (Receiver.ofInput .float) s).surroundings = { s.surroundings with
      flood := s.guard.flood || !level,
      floodStart := if level || s.guard.flood then s.guard.floodStart else some s.now } := by
  refine deliver_guard State.surroundings
    (fun x => { x with flood := x.flood || !level,
                       floodStart := if level || x.flood then x.floodStart else some x.clock })
    (fun x => ?_) _ (fun s => s.guardFloat_surroundings level isEvent)
    (fun r s hr => s.inputTo_surroundings .float level isEvent r (.inr hr)) order _ s (by decide)
  cases level <;> cases x.flood <;> simp

@[simp] theorem deliver_sampleTo_surroundings (kind : Option NoticeKind) (code : Code) (order left : List Receiver)
    (s : State) : (deliver (State.sampleTo kind code) order left s).surroundings = s.surroundings :=
  deliver_keeps State.surroundings _ (fun r s => s.sampleTo_surroundings kind code r) order left s

/-! ### The Action Table and the holders -/

/-- R62: the resume entries of a former holder leave the table, and nothing else of the surroundings changes. -/
theorem State.dropResume_surroundings (s : State) (l : Lane) (former : Option Port) :
    (s.dropResume l former).surroundings = { s.surroundings with
      actions := match former with
        | none => s.actions
        | some p => dropEntries (resumeEntryOf p l) s.actions } := by
  unfold State.dropResume
  cases former with
  | none => rfl
  | some p =>
    have h : ∀ (es : List (Nat × ActionEntry)) (u : State), (es.foldl (fun u e =>
        if (u.port p).classes.getLsbD 2 then u.enterFor [p] (s.notice .actionDropped e.1 9 l.number) else u)
        u).surroundings = u.surroundings := by
      intro es
      induction es with
      | nil => intro u; rfl
      | cons e es ih => intro u; rw [List.foldl_cons, ih]; split <;> simp
    rw [h]
    rfl

end Sys2Proof.Machine
end

