-- ==== Sys2Proof/Laws/Bounds.lean ====
section
/-! SUPPORT. Every queue of the part keeps its bound, and every step its lane (R52, R65, R70, R159): one lemma for each shared operation. -/

namespace Sys2Proof.Machine

/-! ### Updates of a block -/

@[simp] theorem modFirst_length (f : StepRec → StepRec) (q : List StepRec) : (modFirst f q).length = q.length := by
  cases q <;> rfl
/-- A head's change that leaves its work alone leaves the works of the queue alone. -/
@[simp] theorem modFirst_works (f : StepRec → StepRec) (q : List StepRec) (hf : ∀ t, (f t).work = t.work) :
    (modFirst f q).map StepRec.work = q.map StepRec.work := by
  cases q <;> simp [modFirst, hf]
/-- A head that is replaced by a step of its work leaves the works of the queue alone. -/
theorem modFirst_works_of (q : List StepRec) (t t' : StepRec) (h : q.head? = some t) (hw : t'.work = t.work) :
    (modFirst (fun _ => t') q).map StepRec.work = q.map StepRec.work := by
  cases q with
  | nil => rfl
  | cons u rest =>
    cases h
    simp [modFirst, hw]
@[simp] theorem LaneRec.quiet_queue (r : LaneRec) : r.quiet.queue = r.queue := rfl
@[simp] theorem LaneRec.toReady_queue (r : LaneRec) : r.toReady.queue = r.queue := rfl
@[simp] theorem LaneRec.advance_queue (r : LaneRec) (hold : Bool) : (r.advance hold).queue = r.queue := by
  unfold LaneRec.advance
  split
  · rfl
  · split <;> rfl

@[simp] theorem State.withGuard_bounded (s : State) (v : Guard) : (s.withGuard v).bounded = s.bounded := rfl
@[simp] theorem State.withTime_bounded (s : State) (v : TimeBase) : (s.withTime v).bounded = s.bounded := rfl
@[simp] theorem State.withSampler_bounded (s : State) (v : Sampler) : (s.withSampler v).bounded = s.bounded := rfl
@[simp] theorem State.withSoftener_bounded (s : State) (v : Softener) : (s.withSoftener v).bounded = s.bounded := rfl
@[simp] theorem State.withDosing_bounded (s : State) (v : Dosing) : (s.withDosing v).bounded = s.bounded := rfl
@[simp] theorem State.withDoor_bounded (s : State) (v : DoorUnit) : (s.withDoor v).bounded = s.bounded := rfl
@[simp] theorem State.withStore_bounded (s : State) (v : Store) : (s.withStore v).bounded = s.bounded := rfl
@[simp] theorem State.withInputs_bounded (s : State) (v : PerInput FilteredInput) : (s.withInputs v).bounded = s.bounded := rfl
@[simp] theorem State.withPins_bounded (s : State) (v : Pins) : (s.withPins v).bounded = s.bounded := rfl
@[simp] theorem State.withPending_bounded (s : State) (v : List Instr) : (s.withPending v).bounded = s.bounded := rfl
@[simp] theorem State.withResetHeld_bounded (s : State) (v : Bool) : (s.withResetHeld v).bounded = s.bounded := rfl
@[simp] theorem State.withOut_bounded (s : State) (o : Output) (v : OutputRec) : (s.withOut o v).bounded = s.bounded := rfl
@[simp] theorem State.withAccount_bounded (s : State) (a : Agent) (v : StockAccount) :
    (s.withAccount a v).bounded = s.bounded := rfl
@[simp] theorem State.withDose_bounded (s : State) (v : Option DoseRec) : (s.withDose v).bounded = s.bounded := rfl
@[simp] theorem State.withTurb_bounded (s : State) (v : Turbidity) : (s.withTurb v).bounded = s.bounded := rfl
@[simp] theorem State.withCycle_bounded (s : State) (v : CycleRec) : (s.withCycle v).bounded = s.bounded := rfl
@[simp] theorem State.withEngine_lanes_bounded (s : State) (v : Option Nat) (a b : Timer) :
    (s.withEngine { lanes := s.engine.lanes, refVolume := v, fillNoFlow := a, waterDry := b }).bounded = s.bounded := rfl
@[simp] theorem State.modDoor_bounded (s : State) (f : DoorUnit → DoorUnit) : (s.modDoor f).bounded = s.bounded := rfl
@[simp] theorem State.modTime_bounded (s : State) (f : TimeBase → TimeBase) : (s.modTime f).bounded = s.bounded := rfl
@[simp] theorem State.modSoftener_bounded (s : State) (f : Softener → Softener) : (s.modSoftener f).bounded = s.bounded := rfl
@[simp] theorem State.modCheck_bounded (s : State) (o : Checked) (f : CheckRec → CheckRec) :
    (s.modCheck o f).bounded = s.bounded := rfl
@[simp] theorem State.modDose_bounded (s : State) (f : DoseRec → DoseRec) : (s.modDose f).bounded = s.bounded := by
  unfold State.modDose
  split <;> rfl

/-- A lane's queue within its bound. -/
theorem State.laneBounded_of (s : State) (h : s.bounded = true) (l : Lane) : s.laneBounded l = true := by
  simp only [State.bounded, State.lanesBounded, Bool.and_eq_true] at h
  cases l
  · exact h.2.1
  · exact h.2.2
/-- R65: a lane's queue has at most 8 steps. -/
theorem State.lane_queue_le (s : State) (h : s.bounded = true) (l : Lane) : (s.lane l).queue.length ≤ 8 := by
  have hl := s.laneBounded_of h l
  simp only [State.laneBounded, Bool.and_eq_true, decide_eq_true_eq] at hl
  exact hl.1
/-- R70: a step of a lane's queue is of a kind of the lane. -/
theorem State.lane_work (s : State) (h : s.bounded = true) (l : Lane) (t : StepRec) (ht : t ∈ (s.lane l).queue) :
    t.work.lane = l := by
  have hl := s.laneBounded_of h l
  simp only [State.laneBounded, Bool.and_eq_true, List.all_eq_true, decide_eq_true_eq] at hl
  exact hl.2 t ht

/-- A lane whose queue is one within its bound. -/
theorem State.withLane_bounded_of (s : State) (l : Lane) (r : LaneRec) (h : s.bounded = true) (hn : r.queue.length ≤ 8)
    (hw : ∀ t ∈ r.queue, t.work.lane = l) : (s.withLane l r).bounded = true := by
  have hl : (s.withLane l r).laneBounded l = true := by
    simp only [State.laneBounded, State.withLane_lane, Bool.and_eq_true, List.all_eq_true, decide_eq_true_eq]
    exact ⟨hn, hw⟩
  have hwater := s.laneBounded_of h .water
  have hdose := s.laneBounded_of h .dose
  simp only [State.bounded, Bool.and_eq_true, State.lanesBounded] at h ⊢
  refine ⟨h.1, ?_⟩
  cases l
  · exact ⟨hl, hdose⟩
  · exact ⟨hwater, hl⟩
/-- A lane whose queue loses steps at most. -/
@[simp] theorem State.withLane_bounded (s : State) (l : Lane) (r : LaneRec) (h : s.bounded = true)
    (hr : r.queue.map StepRec.work <:+ (s.lane l).queue.map StepRec.work) : (s.withLane l r).bounded = true := by
  have hn := hr.length_le
  simp only [List.length_map] at hn
  refine s.withLane_bounded_of l r h (Nat.le_trans hn (s.lane_queue_le h l)) fun t ht => ?_
  obtain ⟨u, hu, e⟩ := List.mem_map.mp (hr.subset (List.mem_map_of_mem ht))
  exact e ▸ s.lane_work h l u hu
@[simp] theorem State.modLane_bounded (s : State) (l : Lane) (f : LaneRec → LaneRec) (h : s.bounded = true)
    (hf : (f (s.lane l)).queue.map StepRec.work <:+ (s.lane l).queue.map StepRec.work) : (s.modLane l f).bounded = true :=
  s.withLane_bounded l _ h hf
@[simp] theorem State.modHead_bounded (s : State) (l : Lane) (f : StepRec → StepRec) (h : s.bounded = true)
    (hf : ∀ t, (f t).work = t.work) : (s.modHead l f).bounded = true := s.modLane_bounded l _ h (by simp [hf])

/-- R159: a notice entered at a port keeps the port's bounds. -/
theorem PortRec.enter_bounded (p : PortRec) (n : Notice) (h : p.bounded = true) : (p.enter n).bounded = true := by
  simp only [PortRec.bounded, Bool.and_eq_true, Bool.or_eq_true, decide_eq_true_eq, List.isEmpty_iff] at h ⊢
  unfold PortRec.enter
  split
  · rename_i hl
    have he : p.held = [] := by
      rcases h.2 with h2 | h2
      · exact h2
      · omega
    simp only [List.length_append, List.length_cons, List.length_nil]
    exact ⟨by omega, .inl he⟩
  · have hq : p.queue.length = 16 := by omega
    (repeat' split) <;> simp [hq]

@[simp] theorem State.enterFor_bounded (s : State) (set : List Port) (n : Notice) (h : s.bounded = true) :
    (s.enterFor set n).bounded = true := by
  simp only [State.bounded, State.portsBounded, State.enterFor, Bool.and_eq_true] at h ⊢
  obtain ⟨⟨⟨⟨ha, hb⟩, hc⟩, ht⟩, hl⟩ := h
  refine ⟨⟨⟨⟨?_, ?_⟩, ?_⟩, ht⟩, hl⟩ <;> simp <;> split <;> simp_all [PortRec.enter_bounded]
@[simp] theorem State.raiseByClass_bounded (s : State) (n : Notice) (h : s.bounded = true) :
    (s.raiseByClass n).bounded = true := s.enterFor_bounded _ n h
@[simp] theorem State.raiseToAll_bounded (s : State) (n : Notice) (h : s.bounded = true) :
    (s.raiseToAll n).bounded = true := s.enterFor_bounded _ n h
@[simp] theorem State.raiseStep_bounded (s : State) (l : Lane) (n : Notice) (h : s.bounded = true) :
    (s.raiseStep l n).bounded = true := by
  unfold State.raiseStep
  split <;> simp [h]
@[simp] theorem State.raiseHalted_bounded (s : State) (l : Lane) (n : Notice) (h : s.bounded = true) :
    (s.raiseHalted l n).bounded = true := s.enterFor_bounded _ n h
@[simp] theorem State.cycleEvent_bounded (s : State) (f : CycleRec → CycleRec) : (s.cycleEvent f).bounded = s.bounded := by
  unfold State.cycleEvent
  split <;> rfl
@[simp] theorem State.putDemand_bounded (s : State) (src : Source) (v : Bool) (o : Output) :
    (s.putDemand src v o).bounded = s.bounded := rfl
@[simp] theorem State.putDemands_bounded (s : State) (src : Source) (v : Bool) (os : List Output) :
    (s.putDemands src v os).bounded = s.bounded := by
  unfold State.putDemands
  induction os generalizing s with
  | nil => rfl
  | cons o os ih => exact ih _

@[simp] theorem State.cycleWater_bounded (s : State) (ml : Nat) (h : s.bounded = true) :
    (s.cycleWater ml).bounded = true := by
  simp [State.cycleWater, h]
@[simp] theorem State.cycleStroke_bounded (s : State) (a : Agent) (volume : Nat) (h : s.bounded = true) :
    (s.cycleStroke a volume).bounded = true := by
  simp [State.cycleStroke, h]
@[simp] theorem State.cycleRegen_bounded (s : State) (full : Bool) (h : s.bounded = true) :
    (s.cycleRegen full).bounded = true := by
  simp [State.cycleRegen, h]
@[simp] theorem State.cycleFault_bounded (s : State) (h : s.bounded = true) :
    (s.cycleFault).bounded = true := by
  simp [State.cycleFault, h]
@[simp] theorem State.cyclePeak_bounded (s : State) (t : Int) (h : s.bounded = true) :
    (s.cyclePeak t).bounded = true := by
  simp [State.cyclePeak, h]

/-! ### Demand sets -/

/-! ### The resin account -/

@[simp] theorem State.raiseRegenPending_bounded (s : State) (h : s.bounded = true) :
    (s.raiseRegenPending).bounded = true := by
  simp [State.raiseRegenPending, h]
@[simp] theorem State.pendingTest_bounded (s : State) (h : s.bounded = true) :
    (s.pendingTest).bounded = true := by
  unfold State.pendingTest
  split <;> simp [h]
@[simp] theorem State.debit_bounded (s : State) (counts : Nat) (h : s.bounded = true) :
    (s.debit counts).bounded = true := by
  unfold State.debit
  split <;> simp [h]
@[simp] theorem State.softenerClosing_bounded (s : State) (count : Nat) (h : s.bounded = true) :
    (s.softenerClosing count).bounded = true := by
  unfold State.softenerClosing
  split <;> simp [h]
@[simp] theorem State.pendingAtLoad_bounded (s : State) (h : s.bounded = true) :
    (s.pendingAtLoad).bounded = true := by
  unfold State.pendingAtLoad
  (repeat' split) <;> simp [h]
@[simp] theorem State.restoreResin_bounded (s : State) (full : Bool) (h : s.bounded = true) :
    (s.restoreResin full).bounded = true := by
  unfold State.restoreResin
  dsimp only
  (repeat' split) <;> simp [h]

/-! ### The lane records -/

@[simp] theorem State.releaseLane_bounded (s : State) (l : Lane) (h : s.bounded = true) :
    (s.releaseLane l).bounded = true := by
  unfold State.releaseLane
  split
  · exact s.modLane_bounded l _ h List.suffix_rfl
  · exact h
@[simp] theorem State.releaseExclusion_bounded (s : State) (h : s.bounded = true) :
    (s.releaseExclusion).bounded = true := by
  simp [State.releaseExclusion, h]
@[simp] theorem State.dropDose_bounded (s : State) (l : Lane) (h : s.bounded = true) :
    (s.dropDose l).bounded = true := by
  unfold State.dropDose
  split <;> simp [h]
@[simp] theorem State.setRefFrom_bounded (s : State) (t : StepRec) (h : s.bounded = true) :
    (s.setRefFrom t).bounded = true := by
  unfold State.setRefFrom
  split <;> simp [h]
@[simp] theorem State.concludeSuccess_bounded (s : State) (l : Lane) (flags : ResultFlags) (h : s.bounded = true) :
    (s.concludeSuccess l flags).bounded = true := by
  unfold State.concludeSuccess
  (repeat' split) <;> simp (maxDischargeDepth := 12) [h, List.tail_suffix]
@[simp] theorem State.failForGood_bounded (s : State) (l : Lane) (result : StepResult) (h : s.bounded = true) :
    (s.failForGood l result).bounded = true := by
  unfold State.failForGood
  split
  · exact h
  · rename_i t ht
    simp (maxDischargeDepth := 12) [h, modFirst_works_of _ _ _ ht]
@[simp] theorem State.concludeCounted_bounded (s : State) (l : Lane) (result : StepResult) (h : s.bounded = true) :
    (s.concludeCounted l result).bounded = true := by
  unfold State.concludeCounted
  dsimp only
  (repeat' split) <;> simp [h]

/-! ### The rod -/

@[simp] theorem State.raiseRodState_bounded (s : State) (before : DoorUnit) (jam : JamCause) (h : s.bounded = true) :
    (s.raiseRodState before jam).bounded = true := by
  simp [State.raiseRodState, h]
@[simp] theorem State.setAjar_bounded (s : State) (v : Bool) (h : s.bounded = true) :
    (s.setAjar v).bounded = true := by
  unfold State.setAjar
  split <;> simp [h]
@[simp] theorem State.beginExtend_bounded (s : State) (h : s.bounded = true) :
    (s.beginExtend).bounded = true := by
  unfold State.beginExtend
  split <;> simp [h]
@[simp] theorem State.rodHandOver_bounded (s : State) (h : s.bounded = true) :
    (s.rodHandOver).bounded = true := by
  unfold State.rodHandOver
  split <;> simp [h]
@[simp] theorem State.extendGuard_bounded (s : State) (h : s.bounded = true) :
    (s.extendGuard).bounded = true := by
  unfold State.extendGuard
  split <;> simp [h]
@[simp] theorem State.endHold_bounded (s : State) (h : s.bounded = true) :
    (s.endHold).bounded = true := by
  simp [State.endHold, h]
@[simp] theorem State.doorOpened_bounded (s : State) (h : s.bounded = true) :
    (s.doorOpened).bounded = true := by
  simp [State.doorOpened, h]
@[simp] theorem State.rodSupplyLost_bounded (s : State) (h : s.bounded = true) :
    (s.rodSupplyLost).bounded = true := by
  unfold State.rodSupplyLost
  split <;> simp [h]
@[simp] theorem State.rodSupplyReady_bounded (s : State) (h : s.bounded = true) :
    (s.rodSupplyReady).bounded = true := by
  unfold State.rodSupplyReady
  split <;> simp [h]
@[simp] theorem State.startHoming_bounded (s : State) (cause : HomingCause) (h : s.bounded = true) :
    (s.startHoming cause).bounded = true := by
  unfold State.startHoming
  split <;> simp [h]
@[simp] theorem State.lockHoming_bounded (s : State) (closed : Bool) (h : s.bounded = true) :
    (s.lockHoming closed).bounded = true := by
  unfold State.lockHoming
  split <;> simp [h]
@[simp] theorem State.rodTryEnd_bounded (s : State) (h : s.bounded = true) :
    (s.rodTryEnd).bounded = true := by
  unfold State.rodTryEnd
  (repeat' split) <;> simp [h]
@[simp] theorem State.doorUnitDoor_bounded (s : State) (closed isEvent : Bool) (h : s.bounded = true) :
    (s.doorUnitDoor closed isEvent).bounded = true := by
  unfold State.doorUnitDoor
  dsimp only
  (repeat' split) <;> simp [h]

/-! ### Output events and the evaluation -/

@[simp] theorem State.checkOutput_bounded (s : State) (o : Checked) (on : Bool) (h : s.bounded = true) :
    (s.checkOutput o on).bounded = true := by
  simp [State.checkOutput, h]
@[simp] theorem State.checkSense_bounded (s : State) (o : Checked) (sense : Bool) (h : s.bounded = true) :
    (s.checkSense o sense).bounded = true := by
  simp [State.checkSense, h]
@[simp] theorem State.strayOpening_bounded (s : State) (h : s.bounded = true) :
    (s.strayOpening).bounded = true := by
  simp [State.strayOpening, h]
@[simp] theorem State.strayClosing_bounded (s : State) (h : s.bounded = true) :
    (s.strayClosing).bounded = true := by
  unfold State.strayClosing
  split <;> simp [h]
@[simp] theorem State.startNoFlow_bounded (s : State) (h : s.bounded = true) :
    (s.startNoFlow).bounded = true := by
  unfold State.startNoFlow
  dsimp only
  (repeat' split) <;> simp [h]
@[simp] theorem State.stopNoFlow_bounded (s : State) (h : s.bounded = true) :
    (s.stopNoFlow).bounded = true := by
  simp [State.stopNoFlow, h]
@[simp] theorem State.inletOpening_bounded (s : State) (h : s.bounded = true) :
    (s.inletOpening).bounded = true := by
  simp [State.inletOpening, h]
@[simp] theorem State.inletClosing_bounded (s : State) (h : s.bounded = true) :
    (s.inletClosing).bounded = true := by
  simp (maxDischargeDepth := 12) [State.inletClosing, h]
@[simp] theorem State.autoOpenHeater_bounded (s : State) (h : s.bounded = true) :
    (s.autoOpenHeater).bounded = true := by
  unfold State.autoOpenHeater
  (repeat' split) <;> simp [h]
@[simp] theorem State.heaterEvent_bounded (s : State) (on : Bool) (h : s.bounded = true) :
    (s.heaterEvent on).bounded = true := by
  unfold State.heaterEvent
  split <;> simp [h]
@[simp] theorem State.pumpEvent_bounded (s : State) (a : Agent) (on : Bool) (h : s.bounded = true) :
    (s.pumpEvent a on).bounded = true := by
  simp [State.pumpEvent, h]
@[simp] theorem State.settleOutput_bounded (s : State) (o : Output) (h : s.bounded = true) :
    (s.settleOutput o).bounded = true := by
  simp [State.settleOutput, h]
@[simp] theorem State.settleOutputs_bounded (s : State) (h : s.bounded = true) :
    (s.settleOutputs).bounded = true := by
  unfold State.settleOutputs
  generalize Output.evalOrder = os
  induction os generalizing s with
  | nil => exact h
  | cons o os ih => exact ih _ (s.settleOutput_bounded o h)
@[simp] theorem State.outputEvent_bounded (s : State) (o : Output) (on : Bool) (h : s.bounded = true) :
    (s.outputEvent o on).bounded = true := by
  unfold State.outputEvent
  (repeat' split) <;> simp [h]
@[simp] theorem State.evaluate_bounded (s : State) (h : s.bounded = true) :
    (s.evaluate).bounded = true := by
  have hk : ∀ (os : List Output) (u t : State) (g : Output → Bool), u.bounded = true → (os.foldl
      (fun u o => if g o then u else u.outputEvent o (t.energised o)) u).bounded = true := by
    intro os
    induction os with
    | nil => intro u t g hu; exact hu
    | cons o os ih => intro u t g hu; exact ih _ _ _ (by dsimp only; split <;> simp [hu])
  simpa [State.evaluate] using hk Output.evalOrder s.settleOutputs s.settleOutputs
    (fun o => decide (s.energised o = s.settleOutputs.energised o)) (s.settleOutputs_bounded h)

/-! ### Stock accounts -/

@[simp] theorem State.evalLevel_bounded (s : State) (a : Agent) (h : s.bounded = true) :
    (s.evalLevel a).bounded = true := by
  unfold State.evalLevel
  dsimp only
  (repeat' split) <;> simp [h]
@[simp] theorem State.setStock_bounded (s : State) (a : Agent) (stock : Nat) (h : s.bounded = true) :
    (s.setStock a stock).bounded = true := by
  simp [State.setStock, h]
@[simp] theorem State.declareStock_bounded (s : State) (a : Agent) (stock : Nat) (h : s.bounded = true) :
    (s.declareStock a stock).bounded = true := by
  simp [State.declareStock, h]
@[simp] theorem State.applyHeld_bounded (s : State) (a : Agent) (h : s.bounded = true) :
    (s.applyHeld a).bounded = true := by
  unfold State.applyHeld
  split <;> simp [h]
@[simp] theorem State.countStroke_bounded (s : State) (r : DoseRec) (h : s.bounded = true) :
    (s.countStroke r).bounded = true := by
  unfold State.countStroke
  dsimp only
  (repeat' split) <;> simp (maxDischargeDepth := 12) [h]
@[simp] theorem State.judgeStroke_bounded (s : State) (r : DoseRec) (h : s.bounded = true) :
    (s.judgeStroke r).bounded = true := by
  unfold State.judgeStroke
  split <;> simp [h]
@[simp] theorem State.doseTryEnd_bounded (s : State) (h : s.bounded = true) :
    (s.doseTryEnd).bounded = true := by
  unfold State.doseTryEnd
  (repeat' split) <;> simp [h]

/-! ### The ends of a try -/

@[simp] theorem State.withdrawAll_bounded (s : State) (src : Source) (h : s.bounded = true) :
    (s.withdrawAll src).bounded = true := by
  simp [State.withdrawAll, h]
@[simp] theorem State.enterDemands_bounded (s : State) (src : Source) (os : List Output) (h : s.bounded = true) :
    (s.enterDemands src os).bounded = true := by
  simp [State.enterDemands, h]
@[simp] theorem State.endRegen_bounded (s : State) (h : s.bounded = true) :
    (s.endRegen).bounded = true := by
  simp [State.endRegen, h]
@[simp] theorem State.abandonRegen_bounded (s : State) (h : s.bounded = true) :
    (s.abandonRegen).bounded = true := by
  unfold State.abandonRegen
  split <;> simp [h]
@[simp] theorem State.dropDoseRequest_bounded (s : State) (h : s.bounded = true) :
    (s.dropDoseRequest).bounded = true := by
  simp [State.dropDoseRequest, h]
@[simp] theorem State.tellTryEnd_bounded (s : State) (l : Lane) (h : s.bounded = true) :
    (s.tellTryEnd l).bounded = true := by
  unfold State.tellTryEnd
  (repeat' split) <;> simp [h]
@[simp] theorem State.tryEnd_bounded (s : State) (l : Lane) (h : s.bounded = true) :
    (s.tryEnd l).bounded = true := by
  unfold State.tryEnd
  (repeat' split) <;> simp (maxDischargeDepth := 12) [h]
@[simp] theorem State.succeed_bounded (s : State) (l : Lane) (flags : ResultFlags) (actual : Option Nat) (h : s.bounded = true) :
    (s.succeed l flags actual).bounded = true := by
  unfold State.succeed
  (repeat' split) <;> simp (maxDischargeDepth := 12) [h]
@[simp] theorem State.endCounted_bounded (s : State) (l : Lane) (result : StepResult) (h : s.bounded = true) :
    (s.endCounted l result).bounded = true := by
  simp [State.endCounted, h]
@[simp] theorem State.failCounted_bounded (s : State) (l : Lane) (result : StepResult) (h : s.bounded = true) :
    (s.failCounted l result).bounded = true := by
  unfold State.failCounted
  split <;> simp [h]
@[simp] theorem State.failImmediate_bounded (s : State) (l : Lane) (result : StepResult) (h : s.bounded = true) :
    (s.failImmediate l result).bounded = true := by
  unfold State.failImmediate
  split <;> simp [h]
@[simp] theorem State.guardReportLane_bounded (s : State) (result : StepResult) (l : Lane) (h : s.bounded = true) :
    (s.guardReportLane result l).bounded = true := by
  unfold State.guardReportLane
  split <;> simp [h]
@[simp] theorem State.guardReport_bounded (s : State) (result : StepResult) (h : s.bounded = true) :
    (s.guardReport result).bounded = true := by
  simp [State.guardReport, h]
@[simp] theorem State.endTest_bounded (s : State) (h : s.bounded = true) :
    (s.endTest).bounded = true := by
  unfold State.endTest
  split <;> simp [h]
@[simp] theorem State.putForced_bounded (s : State) (h : s.bounded = true) :
    (s.putForced).bounded = true := by
  simp [State.putForced, h]
@[simp] theorem State.startLatchDrain_bounded (s : State) (h : s.bounded = true) :
    (s.startLatchDrain).bounded = true := by
  simp [State.startLatchDrain, h]
@[simp] theorem State.withdrawActions_bounded (s : State) (h : s.bounded = true) :
    (s.withdrawActions).bounded = true := by
  simp [State.withdrawActions, h]

/-! ### Doses -/

@[simp] theorem State.requestSample_bounded (s : State) (port : Option Port) (dose : Bool) (h : s.bounded = true) :
    (s.requestSample port dose).bounded = true := by
  unfold State.requestSample
  dsimp only
  split <;> simp [h]
@[simp] theorem State.computeDose_bounded (s : State) (soilClass : Option Nat) (h : s.bounded = true) :
    (s.computeDose soilClass).bounded = true := by
  simp [State.computeDose, h]
@[simp] theorem State.findClass_bounded (s : State) (r : DoseRec) (h : s.bounded = true) :
    (s.findClass r).bounded = true := by
  unfold State.findClass
  (repeat' split) <;> simp [h]
@[simp] theorem State.setTryTarget_bounded (s : State) (h : s.bounded = true) :
    (s.setTryTarget).bounded = true := by
  simp [State.setTryTarget, h]
@[simp] theorem State.issueStroke_bounded (s : State) (a : Agent) (h : s.bounded = true) :
    (s.issueStroke a).bounded = true := by
  simp [State.issueStroke, h]
@[simp] theorem State.endDose_bounded (s : State) (o : Outcome) (h : s.bounded = true) :
    (s.endDose o).bounded = true := by
  unfold State.endDose
  split <;> simp [h]
@[simp] theorem State.strokeDue_bounded (s : State) (h : s.bounded = true) :
    (s.strokeDue).bounded = true := by
  unfold State.strokeDue
  (repeat' split) <;> simp [h]
@[simp] theorem State.startDoseDry_bounded (s : State) (h : s.bounded = true) :
    (s.startDoseDry).bounded = true := by
  simp [State.startDoseDry, h]
@[simp] theorem State.doseWork_bounded (s : State) (h : s.bounded = true) :
    (s.doseWork).bounded = true := by
  unfold State.doseWork
  split <;> simp [h]
@[simp] theorem State.dosePause_bounded (s : State) (supply : Bool) (h : s.bounded = true) :
    (s.dosePause supply).bounded = true := by
  unfold State.dosePause
  split <;> simp [h]
@[simp] theorem State.restStroke_bounded (s : State) (h : s.bounded = true) :
    (s.restStroke).bounded = true := by
  simp [State.restStroke, h]
@[simp] theorem State.strokeEnds_bounded (s : State) (h : s.bounded = true) :
    (s.strokeEnds).bounded = true := by
  unfold State.strokeEnds
  dsimp only
  (repeat' split) <;> simp (maxDischargeDepth := 12) [h]

/-! ### Regenerations -/

@[simp] theorem State.regenHandOver_bounded (s : State) (h : s.bounded = true) :
    (s.regenHandOver).bounded = true := by
  simp [State.regenHandOver, h]
@[simp] theorem State.raiseRegenDone_bounded (s : State) (full : Bool) (h : s.bounded = true) :
    (s.raiseRegenDone full).bounded = true := by
  simp [State.raiseRegenDone, h]
@[simp] theorem State.regenComplete_bounded (s : State) (short : Bool) (h : s.bounded = true) :
    (s.regenComplete short).bounded = true := by
  simp (maxDischargeDepth := 12) [State.regenComplete, h]
@[simp] theorem State.rinseOrComplete_bounded (s : State) (h : s.bounded = true) :
    (s.rinseOrComplete).bounded = true := by
  unfold State.rinseOrComplete
  split <;> simp [h]
@[simp] theorem State.regenResume_bounded (s : State) (h : s.bounded = true) :
    (s.regenResume).bounded = true := by
  unfold State.regenResume
  split <;> simp [h]
@[simp] theorem State.brineEnds_bounded (s : State) (h : s.bounded = true) :
    (s.brineEnds).bounded = true := by
  simp [State.brineEnds, h]
@[simp] theorem State.soakEnds_bounded (s : State) (h : s.bounded = true) :
    (s.soakEnds).bounded = true := by
  simp [State.soakEnds, h]
@[simp] theorem State.regenActual_bounded (s : State) (h : s.bounded = true) :
    (s.regenActual).bounded = true := by
  simp [State.regenActual, h]
@[simp] theorem State.regenEdge_bounded (s : State) (h : s.bounded = true) :
    (s.regenEdge).bounded = true := by
  unfold State.regenEdge
  dsimp only
  (repeat' split) <;> simp [h]
@[simp] theorem State.softenerLevelHigh_bounded (s : State) (reached : Bool) (h : s.bounded = true) :
    (s.softenerLevelHigh reached).bounded = true := by
  unfold State.softenerLevelHigh
  split <;> simp [h]

/-! ### What the Door Unit settles -/

@[simp] theorem State.errandDone_bounded (s : State) (h : s.bounded = true) :
    (s.errandDone).bounded = true := by
  simp [State.errandDone, h]
@[simp] theorem State.rodSuccess_bounded (s : State) (flags : ResultFlags) (actual : Nat) (h : s.bounded = true) :
    (s.rodSuccess flags actual).bounded = true := by
  unfold State.rodSuccess
  split <;> simp [h]
@[simp] theorem State.rodBlocked_bounded (s : State) (h : s.bounded = true) :
    (s.rodBlocked).bounded = true := by
  unfold State.rodBlocked
  split <;> simp [h]
@[simp] theorem State.rodOpened_bounded (s : State) (h : s.bounded = true) :
    (s.rodOpened).bounded = true := by
  unfold State.rodOpened
  (repeat' split) <;> simp (maxDischargeDepth := 12) [h]
@[simp] theorem State.rodRestart_bounded (s : State) (h : s.bounded = true) :
    (s.rodRestart).bounded = true := by
  unfold State.rodRestart
  (repeat' split) <;> simp [h]
@[simp] theorem State.rodAtHome_bounded (s : State) (h : s.bounded = true) :
    (s.rodAtHome).bounded = true := by
  unfold State.rodAtHome
  (repeat' split) <;> simp [h]
@[simp] theorem State.rodJam_bounded (s : State) (jam : JamCause) (h : s.bounded = true) :
    (s.rodJam jam).bounded = true := by
  unfold State.rodJam
  dsimp only
  split <;> simp [h]
@[simp] theorem State.rodOcAsserted_bounded (s : State) (h : s.bounded = true) :
    (s.rodOcAsserted).bounded = true := by
  unfold State.rodOcAsserted
  split <;> simp [h]
@[simp] theorem State.beginRetract_bounded (s : State) (h : s.bounded = true) :
    (s.beginRetract).bounded = true := by
  unfold State.beginRetract
  (repeat' split) <;> simp [h]
@[simp] theorem State.deadTimeEnds_bounded (s : State) (h : s.bounded = true) :
    (s.deadTimeEnds).bounded = true := by
  unfold State.deadTimeEnds
  (repeat' split) <;> simp [h]
@[simp] theorem State.rodPauseEnd_bounded (s : State) (h : s.bounded = true) :
    (s.rodPauseEnd).bounded = true := by
  unfold State.rodPauseEnd
  (repeat' split) <;> simp [h]
@[simp] theorem State.doorUnitHome_bounded (s : State) (closed isEvent : Bool) (h : s.bounded = true) :
    (s.doorUnitHome closed isEvent).bounded = true := by
  unfold State.doorUnitHome
  (repeat' split) <;> simp [h]

/-! ### Starts and pauses -/

@[simp] theorem State.setDiverter_bounded (s : State) (d : Diverter) (h : s.bounded = true) :
    (s.setDiverter d).bounded = true := by
  exact h
@[simp] theorem State.prepare_bounded (s : State) (l : Lane) (t : StepRec) (first : Bool) (h : s.bounded = true) :
    (s.prepare l t first).bounded = true := by
  unfold State.prepare
  dsimp only
  (repeat' split) <;> simp [h]
@[simp] theorem State.heatReading_bounded (s : State) (l : Lane) (h : s.bounded = true) :
    (s.heatReading l).bounded = true := by
  unfold State.heatReading
  split <;> simp [h]
@[simp] theorem State.runSetup_bounded (s : State) (l : Lane) (w : Work) (h : s.bounded = true) :
    (s.runSetup l w).bounded = true := by
  unfold State.runSetup
  split <;> simp [h]
@[simp] theorem State.enterKind_bounded (s : State) (w : Work) (h : s.bounded = true) :
    (s.enterKind w).bounded = true := by
  unfold State.enterKind
  split <;> simp [h]
@[simp] theorem State.runKind_bounded (s : State) (l : Lane) (w : Work) (h : s.bounded = true) :
    (s.runKind l w).bounded = true := by
  simp (maxDischargeDepth := 12) [State.runKind, h]
@[simp] theorem State.pauseAtStart_bounded (s : State) (l : Lane) (fromWait : Bool) (h : s.bounded = true) :
    (s.pauseAtStart l fromWait).bounded = true := by
  simp [State.pauseAtStart, h]
@[simp] theorem State.takeOutcome_bounded (s : State) (l : Lane) (w : Work) (door : Bool) (o : Outcome) (h : s.bounded = true) :
    (s.takeOutcome l w door o).bounded = true := by
  unfold State.takeOutcome
  (repeat' split) <;> simp (maxDischargeDepth := 12) [h]
@[simp] theorem State.beginTry_bounded (s : State) (l : Lane) (t : StepRec) (h : s.bounded = true) :
    (s.beginTry l t).bounded = true := by
  unfold State.beginTry
  dsimp only
  (repeat' split) <;> simp (maxDischargeDepth := 12) [h]
@[simp] theorem State.deferLane_bounded (s : State) (l : Lane) (cause : WaitCause) (h : s.bounded = true) :
    (s.deferLane l cause).bounded = true := by
  simp [State.deferLane, h]
@[simp] theorem State.haltLane_bounded (s : State) (l : Lane) (t : StepRec) (h : s.bounded = true) :
    (s.haltLane l t).bounded = true := by
  simp [State.haltLane, h]
@[simp] theorem State.attempt_bounded (s : State) (l : Lane) (h : s.bounded = true) :
    (s.attempt l).bounded = true := by
  unfold State.attempt
  (repeat' split) <;> simp [h]
@[simp] theorem State.attemptInOrder_bounded (s : State) (l : Lane) (h : s.bounded = true) :
    (s.attemptInOrder l).bounded = true := by
  unfold State.attemptInOrder
  dsimp only
  (repeat' split) <;> simp [h]
@[simp] theorem State.retest_bounded (s : State) (l : Lane) (h : s.bounded = true) :
    (s.retest l).bounded = true := by
  unfold State.retest
  (repeat' split) <;> simp [h]
@[simp] theorem State.pauseKind_bounded (s : State) (l : Lane) (supply : Bool) (h : s.bounded = true) :
    (s.pauseKind l supply).bounded = true := by
  unfold State.pauseKind
  (repeat' split) <;> simp [h]
@[simp] theorem State.addCause_bounded (s : State) (l : Lane) (supply : Bool) (h : s.bounded = true) :
    (s.addCause l supply).bounded = true := by
  unfold State.addCause
  dsimp only
  split <;> simp [h]
@[simp] theorem State.removeCause_bounded (s : State) (l : Lane) (supply : Bool) (h : s.bounded = true) :
    (s.removeCause l supply).bounded = true := by
  unfold State.removeCause
  dsimp only
  (repeat' split) <;> simp [h]
@[simp] theorem State.fillStopped_bounded (s : State) (t : StepRec) (h : s.bounded = true) :
    (s.fillStopped t).bounded = true := by
  simp [State.fillStopped, h]
@[simp] theorem State.startWaterDry_bounded (s : State) (h : s.bounded = true) :
    (s.startWaterDry).bounded = true := by
  simp [State.startWaterDry, h]
@[simp] theorem State.redivert_bounded (s : State) (l : Lane) (h : s.bounded = true) :
    (s.redivert l).bounded = true := by
  unfold State.redivert
  (repeat' split) <;> simp [h]
@[simp] theorem State.resumePumping_bounded (s : State) (w : Work) (h : s.bounded = true) :
    (s.resumePumping w).bounded = true := by
  unfold State.resumePumping
  dsimp only
  (repeat' split) <;> simp (maxDischargeDepth := 12) [h]
@[simp] theorem State.resumeKind_bounded (s : State) (t : StepRec) (h : s.bounded = true) :
    (s.resumeKind t).bounded = true := by
  unfold State.resumeKind
  (repeat' split) <;> simp [h]
@[simp] theorem State.pauseEnds_bounded (s : State) (l : Lane) (h : s.bounded = true) :
    (s.pauseEnds l).bounded = true := by
  unfold State.pauseEnds
  dsimp only
  (repeat' split) <;> simp (maxDischargeDepth := 12) [h]

/-! ### Events handed to the blocks -/

@[simp] theorem State.floodStarts_bounded (s : State) (h : s.bounded = true) :
    (s.floodStarts).bounded = true := by
  simp (maxDischargeDepth := 12) [State.floodStarts, h]
@[simp] theorem State.floodEnds_bounded (s : State) (h : s.bounded = true) :
    (s.floodEnds).bounded = true := by
  simp (maxDischargeDepth := 12) [State.floodEnds, h]
@[simp] theorem State.guardFloat_bounded (s : State) (clear isEvent : Bool) (h : s.bounded = true) :
    (s.guardFloat clear isEvent).bounded = true := by
  unfold State.guardFloat
  (repeat' split) <;> simp [h]
@[simp] theorem State.latchFault_bounded (s : State) (o : LatchOutput) (h : s.bounded = true) :
    (s.latchFault o).bounded = true := by
  simp (maxDischargeDepth := 12) [State.latchFault, h]
@[simp] theorem State.outputFault_bounded (s : State) (o : Output) (kind : Nat) (h : s.bounded = true) :
    (s.outputFault o kind).bounded = true := by
  simp [State.outputFault, h]
@[simp] theorem State.drainAtFirstReady_bounded (s : State) (h : s.bounded = true) :
    (s.drainAtFirstReady).bounded = true := by
  unfold State.drainAtFirstReady
  split <;> simp [h]
@[simp] theorem State.supplyBack_bounded (s : State) (l : Lane) (h : s.bounded = true) :
    (s.supplyBack l).bounded = true := by
  unfold State.supplyBack
  split
  · exact s.modLane_bounded l _ h List.suffix_rfl
  · exact h
@[simp] theorem State.engineSupply_bounded (s : State) (ready : Bool) (h : s.bounded = true) :
    (s.engineSupply ready).bounded = true := by
  unfold State.engineSupply
  (repeat' split) <;> simp (maxDischargeDepth := 12) [h]
@[simp] theorem State.supplyTo_bounded (s : State) (cause : Option LossCause) (r : Receiver) (h : s.bounded = true) :
    (State.supplyTo cause r s).bounded = true := by
  unfold State.supplyTo
  (repeat' split) <;> simp [h]
@[simp] theorem State.engineDoor_bounded (s : State) (closed isEvent : Bool) (h : s.bounded = true) :
    (s.engineDoor closed isEvent).bounded = true := by
  unfold State.engineDoor
  (repeat' split) <;> simp (maxDischargeDepth := 12) [h]
@[simp] theorem State.drainLevel_bounded (s : State) (runOn : Nat) (wet isEvent : Bool) (h : s.bounded = true) :
    (s.drainLevel runOn wet isEvent).bounded = true := by
  unfold State.drainLevel
  (repeat' split) <;> simp [h]
@[simp] theorem State.pumpingLevel_bounded (s : State) (wet isEvent : Bool) (h : s.bounded = true) :
    (s.pumpingLevel wet isEvent).bounded = true := by
  unfold State.pumpingLevel
  (repeat' split) <;> simp [h]
@[simp] theorem State.waterLevelLow_bounded (s : State) (wet isEvent : Bool) (h : s.bounded = true) :
    (s.waterLevelLow wet isEvent).bounded = true := by
  unfold State.waterLevelLow
  (repeat' split) <;> simp [h]
@[simp] theorem State.doseLevelLow_bounded (s : State) (wet isEvent : Bool) (h : s.bounded = true) :
    (s.doseLevelLow wet isEvent).bounded = true := by
  unfold State.doseLevelLow
  dsimp only
  (repeat' split) <;> simp [h]
@[simp] theorem State.engineLevelHigh_bounded (s : State) (reached : Bool) (h : s.bounded = true) :
    (s.engineLevelHigh reached).bounded = true := by
  unfold State.engineLevelHigh
  (repeat' split) <;> simp [h]
@[simp] theorem State.engineInput_bounded (s : State) (i : Input) (level isEvent : Bool) (h : s.bounded = true) :
    (s.engineInput i level isEvent).bounded = true := by
  unfold State.engineInput
  split <;> simp [h]
@[simp] theorem State.doorUnitInput_bounded (s : State) (i : Input) (level isEvent : Bool) (h : s.bounded = true) :
    (s.doorUnitInput i level isEvent).bounded = true := by
  unfold State.doorUnitInput
  (repeat' split) <;> simp [h]
@[simp] theorem State.raiseInputChanged_bounded (s : State) (i : Input) (level : Bool) (h : s.bounded = true) :
    (s.raiseInputChanged i level).bounded = true := by
  simp [State.raiseInputChanged, h]
@[simp] theorem State.inputTo_bounded (s : State) (i : Input) (level isEvent : Bool) (r : Receiver) (h : s.bounded = true) :
    (State.inputTo i level isEvent r s).bounded = true := by
  unfold State.inputTo
  (repeat' split) <;> simp [h]
@[simp] theorem State.heatSample_bounded (s : State) (h : s.bounded = true) :
    (s.heatSample).bounded = true := by
  unfold State.heatSample
  (repeat' split) <;> simp [h]
@[simp] theorem State.sampleTo_bounded (s : State) (kind : Option NoticeKind) (code : Code) (r : Receiver) (h : s.bounded = true) :
    (State.sampleTo kind code r s).bounded = true := by
  unfold State.sampleTo
  (repeat' split) <;> simp [h]

/-! ### The Action Table -/

@[simp] theorem State.resumeHeld_bounded (s : State) (l : Lane) (h : s.bounded = true) :
    (s.resumeHeld l).bounded = true := by
  unfold State.resumeHeld
  split
  · refine s.modLane_bounded l _ h ?_
    cases (s.lane l).queue.isEmpty <;> exact List.suffix_rfl
  · exact h
@[simp] theorem State.actionDemand_bounded (s : State) (e : ActionEntry) (h : s.bounded = true) :
    (s.actionDemand e).bounded = true := by
  unfold State.actionDemand
  (repeat' split) <;> simp [h]
@[simp] theorem State.actionHandOn_bounded (s : State) (e : ActionEntry) (h : s.bounded = true) :
    (s.actionHandOn e).bounded = true := by
  unfold State.actionHandOn
  (repeat' split) <;> simp [h]
@[simp] theorem State.executeEntry_bounded (s : State) (slot : Nat) (e : ActionEntry) (h : s.bounded = true) :
    (s.executeEntry slot e).bounded = true := by
  unfold State.executeEntry
  split <;> simp [h]
@[simp] theorem State.executeSet_bounded (s : State) (entries : List (Nat × ActionEntry)) (h : s.bounded = true) :
    (s.executeSet entries).bounded = true := by
  have hd : ∀ (es : List (Nat × ActionEntry)) (u : State), u.bounded = true →
      (es.foldl (fun s e => s.actionDemand e.2) u).bounded = true := by
    intro es
    induction es with
    | nil => intro u hu; exact hu
    | cons e es ih => intro u hu; exact ih _ (by simp [hu])
  have he : ∀ (es : List (Nat × ActionEntry)) (u : State), u.bounded = true →
      (es.foldl (fun s e => s.executeEntry e.1 e.2) u).bounded = true := by
    intro es
    induction es with
    | nil => intro u hu; exact hu
    | cons e es ih => intro u hu; exact ih _ (by simp [hu])
  exact he _ _ (State.evaluate_bounded _ (hd _ _ h))

/-! ### Delivery -/

/-- What every receiver's act keeps, a delivery keeps. -/
theorem deliver_bounded (act : Receiver → State → State) (hk : ∀ r s, s.bounded = true → (act r s).bounded = true)
    (order left : List Receiver) (s : State) (h : s.bounded = true) : (deliver act order left s).bounded = true := by
  induction order generalizing left s with
  | nil =>
    simp only [deliver]
    induction left generalizing s with
    | nil => simpa using h
    | cons r rest ih => exact ih _ (hk r s h)
  | cons r rest ih =>
    simp only [deliver]
    split
    · exact ih _ _ (hk r s h)
    · exact ih _ _ h

end Sys2Proof.Machine
end

