-- ==== Sys2Proof/Laws/Evaluation.lean ====
section
/-! SUPPORT. The evaluation of the outputs: what leaves the demand sets, the outputs, the flood and the latch alone, and that an
evaluation settles every output (R34). -/

namespace Sys2Proof.Machine

/-- What an evaluation reads in the Output Guard: demand sets and outputs, flood, latch. -/
def State.guardCore (s : State) : PerOutput OutputRec × Bool × Bool := (s.guard.outs, s.guard.flood, s.guard.latched)

@[simp] theorem State.withTime_guardCore (s : State) (v : TimeBase) : (s.withTime v).guardCore = s.guardCore := rfl
@[simp] theorem State.withEngine_guardCore (s : State) (v : Engine) : (s.withEngine v).guardCore = s.guardCore := rfl
@[simp] theorem State.withLane_guardCore (s : State) (l : Lane) (v : LaneRec) : (s.withLane l v).guardCore = s.guardCore := rfl
@[simp] theorem State.withSoftener_guardCore (s : State) (v : Softener) : (s.withSoftener v).guardCore = s.guardCore := rfl
@[simp] theorem State.withDosing_guardCore (s : State) (v : Dosing) : (s.withDosing v).guardCore = s.guardCore := rfl
@[simp] theorem State.withDose_guardCore (s : State) (v : Option DoseRec) : (s.withDose v).guardCore = s.guardCore := rfl
@[simp] theorem State.withAccount_guardCore (s : State) (a : Agent) (v : StockAccount) :
    (s.withAccount a v).guardCore = s.guardCore := rfl
@[simp] theorem State.withDoor_guardCore (s : State) (v : DoorUnit) : (s.withDoor v).guardCore = s.guardCore := rfl
@[simp] theorem State.withStore_guardCore (s : State) (v : Store) : (s.withStore v).guardCore = s.guardCore := rfl
@[simp] theorem State.withCycle_guardCore (s : State) (v : CycleRec) : (s.withCycle v).guardCore = s.guardCore := rfl
@[simp] theorem State.modLane_guardCore (s : State) (l : Lane) (f : LaneRec → LaneRec) :
    (s.modLane l f).guardCore = s.guardCore := rfl
@[simp] theorem State.modHead_guardCore (s : State) (l : Lane) (f : StepRec → StepRec) :
    (s.modHead l f).guardCore = s.guardCore := rfl
@[simp] theorem State.modDose_guardCore (s : State) (f : DoseRec → DoseRec) : (s.modDose f).guardCore = s.guardCore := by
  unfold State.modDose
  split <;> rfl
@[simp] theorem State.modDoor_guardCore (s : State) (f : DoorUnit → DoorUnit) : (s.modDoor f).guardCore = s.guardCore := rfl
@[simp] theorem State.modTime_guardCore (s : State) (f : TimeBase → TimeBase) : (s.modTime f).guardCore = s.guardCore := rfl
@[simp] theorem State.modCheck_guardCore (s : State) (o : Checked) (f : CheckRec → CheckRec) :
    (s.modCheck o f).guardCore = s.guardCore := rfl
@[simp] theorem State.enterFor_guardCore (s : State) (set : List Port) (n : Notice) :
    (s.enterFor set n).guardCore = s.guardCore := rfl
@[simp] theorem State.raiseByClass_guardCore (s : State) (n : Notice) : (s.raiseByClass n).guardCore = s.guardCore := rfl
@[simp] theorem State.raiseStep_guardCore (s : State) (l : Lane) (n : Notice) :
    (s.raiseStep l n).guardCore = s.guardCore := by
  unfold State.raiseStep
  split <;> rfl

@[simp] theorem State.cycleEvent_guardCore (s : State) (f : CycleRec → CycleRec) :
    (s.cycleEvent f).guardCore = s.guardCore := by
  unfold State.cycleEvent
  split <;> simp
@[simp] theorem State.cycleWater_guardCore (s : State) (ml : Nat) :
    (s.cycleWater ml).guardCore = s.guardCore := by
  simp [State.cycleWater]
@[simp] theorem State.cycleStroke_guardCore (s : State) (a : Agent) (volume : Nat) :
    (s.cycleStroke a volume).guardCore = s.guardCore := by
  simp [State.cycleStroke]
@[simp] theorem State.cycleRegen_guardCore (s : State) (full : Bool) :
    (s.cycleRegen full).guardCore = s.guardCore := by
  simp [State.cycleRegen]
@[simp] theorem State.cycleFault_guardCore (s : State) :
    (s.cycleFault).guardCore = s.guardCore := by
  simp [State.cycleFault]
@[simp] theorem State.cyclePeak_guardCore (s : State) (t : Int) :
    (s.cyclePeak t).guardCore = s.guardCore := by
  simp [State.cyclePeak]

/-! ### Demand sets -/

/-! ### The resin account -/

@[simp] theorem State.raiseRegenPending_guardCore (s : State) :
    (s.raiseRegenPending).guardCore = s.guardCore := by
  simp [State.raiseRegenPending]
@[simp] theorem State.pendingTest_guardCore (s : State) :
    (s.pendingTest).guardCore = s.guardCore := by
  unfold State.pendingTest
  split <;> simp
@[simp] theorem State.debit_guardCore (s : State) (counts : Nat) :
    (s.debit counts).guardCore = s.guardCore := by
  unfold State.debit
  split <;> simp
@[simp] theorem State.softenerClosing_guardCore (s : State) (count : Nat) :
    (s.softenerClosing count).guardCore = s.guardCore := by
  unfold State.softenerClosing
  split <;> simp
@[simp] theorem State.pendingAtLoad_guardCore (s : State) :
    (s.pendingAtLoad).guardCore = s.guardCore := by
  unfold State.pendingAtLoad
  (repeat' split) <;> simp
@[simp] theorem State.restoreResin_guardCore (s : State) (full : Bool) :
    (s.restoreResin full).guardCore = s.guardCore := by
  unfold State.restoreResin
  dsimp only
  (repeat' split) <;> simp

/-! ### The lane records -/

@[simp] theorem State.releaseLane_guardCore (s : State) (l : Lane) :
    (s.releaseLane l).guardCore = s.guardCore := by
  unfold State.releaseLane
  split <;> rfl
@[simp] theorem State.releaseExclusion_guardCore (s : State) :
    (s.releaseExclusion).guardCore = s.guardCore := by
  simp [State.releaseExclusion]
@[simp] theorem State.dropDose_guardCore (s : State) (l : Lane) :
    (s.dropDose l).guardCore = s.guardCore := by
  unfold State.dropDose
  split <;> simp
@[simp] theorem State.setRefFrom_guardCore (s : State) (t : StepRec) :
    (s.setRefFrom t).guardCore = s.guardCore := by
  unfold State.setRefFrom
  split <;> simp
@[simp] theorem State.concludeSuccess_guardCore (s : State) (l : Lane) (flags : ResultFlags) :
    (s.concludeSuccess l flags).guardCore = s.guardCore := by
  unfold State.concludeSuccess
  (repeat' split) <;> simp
@[simp] theorem State.failForGood_guardCore (s : State) (l : Lane) (result : StepResult) :
    (s.failForGood l result).guardCore = s.guardCore := by
  unfold State.failForGood
  split <;> simp
@[simp] theorem State.concludeCounted_guardCore (s : State) (l : Lane) (result : StepResult) :
    (s.concludeCounted l result).guardCore = s.guardCore := by
  unfold State.concludeCounted
  dsimp only
  (repeat' split) <;> simp

/-! ### The rod -/

@[simp] theorem State.raiseRodState_guardCore (s : State) (before : DoorUnit) (jam : JamCause) :
    (s.raiseRodState before jam).guardCore = s.guardCore := by
  simp [State.raiseRodState]
@[simp] theorem State.setAjar_guardCore (s : State) (v : Bool) :
    (s.setAjar v).guardCore = s.guardCore := by
  unfold State.setAjar
  split <;> simp
@[simp] theorem State.beginExtend_guardCore (s : State) :
    (s.beginExtend).guardCore = s.guardCore := by
  unfold State.beginExtend
  split <;> simp
@[simp] theorem State.rodHandOver_guardCore (s : State) :
    (s.rodHandOver).guardCore = s.guardCore := by
  unfold State.rodHandOver
  split <;> simp
@[simp] theorem State.extendGuard_guardCore (s : State) :
    (s.extendGuard).guardCore = s.guardCore := by
  unfold State.extendGuard
  split <;> simp
@[simp] theorem State.endHold_guardCore (s : State) :
    (s.endHold).guardCore = s.guardCore := by
  simp [State.endHold]
@[simp] theorem State.doorOpened_guardCore (s : State) :
    (s.doorOpened).guardCore = s.guardCore := by
  simp [State.doorOpened]
@[simp] theorem State.rodSupplyLost_guardCore (s : State) :
    (s.rodSupplyLost).guardCore = s.guardCore := by
  unfold State.rodSupplyLost
  split <;> simp
@[simp] theorem State.rodSupplyReady_guardCore (s : State) :
    (s.rodSupplyReady).guardCore = s.guardCore := by
  unfold State.rodSupplyReady
  split <;> simp
@[simp] theorem State.startHoming_guardCore (s : State) (cause : HomingCause) :
    (s.startHoming cause).guardCore = s.guardCore := by
  unfold State.startHoming
  split <;> simp
@[simp] theorem State.lockHoming_guardCore (s : State) (closed : Bool) :
    (s.lockHoming closed).guardCore = s.guardCore := by
  unfold State.lockHoming
  split <;> simp
@[simp] theorem State.rodTryEnd_guardCore (s : State) :
    (s.rodTryEnd).guardCore = s.guardCore := by
  unfold State.rodTryEnd
  (repeat' split) <;> simp
@[simp] theorem State.doorUnitDoor_guardCore (s : State) (closed isEvent : Bool) :
    (s.doorUnitDoor closed isEvent).guardCore = s.guardCore := by
  unfold State.doorUnitDoor
  dsimp only
  (repeat' split) <;> simp

/-! ### Output events and the evaluation -/

@[simp] theorem State.checkOutput_guardCore (s : State) (o : Checked) (on : Bool) :
    (s.checkOutput o on).guardCore = s.guardCore := by
  simp [State.checkOutput]
@[simp] theorem State.checkSense_guardCore (s : State) (o : Checked) (sense : Bool) :
    (s.checkSense o sense).guardCore = s.guardCore := by
  simp [State.checkSense]
@[simp] theorem State.strayOpening_guardCore (s : State) :
    (s.strayOpening).guardCore = s.guardCore := by
  simp [State.strayOpening]
@[simp] theorem State.strayClosing_guardCore (s : State) :
    (s.strayClosing).guardCore = s.guardCore := by
  unfold State.strayClosing
  split <;> rfl
@[simp] theorem State.startNoFlow_guardCore (s : State) :
    (s.startNoFlow).guardCore = s.guardCore := by
  unfold State.startNoFlow
  dsimp only
  (repeat' split) <;> simp
@[simp] theorem State.stopNoFlow_guardCore (s : State) :
    (s.stopNoFlow).guardCore = s.guardCore := by
  simp [State.stopNoFlow]
@[simp] theorem State.inletOpening_guardCore (s : State) :
    (s.inletOpening).guardCore = s.guardCore := by
  simp [State.inletOpening]
@[simp] theorem State.inletClosing_guardCore (s : State) :
    (s.inletClosing).guardCore = s.guardCore := by
  simp [State.inletClosing]
@[simp] theorem State.autoOpenHeater_guardCore (s : State) :
    (s.autoOpenHeater).guardCore = s.guardCore := by
  unfold State.autoOpenHeater
  (repeat' split) <;> simp
@[simp] theorem State.heaterEvent_guardCore (s : State) (on : Bool) :
    (s.heaterEvent on).guardCore = s.guardCore := by
  unfold State.heaterEvent
  split <;> simp
@[simp] theorem State.pumpEvent_guardCore (s : State) (a : Agent) (on : Bool) :
    (s.pumpEvent a on).guardCore = s.guardCore := by
  simp [State.pumpEvent]
@[simp] theorem State.outputEvent_guardCore (s : State) (o : Output) (on : Bool) :
    (s.outputEvent o on).guardCore = s.guardCore := by
  unfold State.outputEvent
  (repeat' split) <;> simp

/-! ### The evaluation -/

/-- The place of an output in the order of an evaluation. -/
def Output.rank : Output → Nat
  | .mainsRelay => 0
  | .inlet => 1
  | .regen => 2
  | .circ => 3
  | .heater => 4
  | .drain => 5
  | .doseD => 6
  | .doseR => 7
  | .aux => 8

@[simp] theorem State.settleOutput_energised (s : State) (o : Output) : (s.settleOutput o).energised o = s.wanted o := by
  cases o <;> rfl
theorem State.settleOutput_energised_ne (s : State) (o k : Output) (h : k ≠ o) :
    (s.settleOutput o).energised k = s.energised k := by
  cases o <;> cases k <;> first | rfl | exact absurd rfl h

/-- R37: the setting of a pump changes nothing that it is set by. -/
theorem State.settleOutput_pumpWanted (s : State) (o : Output) (h : s.wanted o = s.pumpWanted o) :
    (s.settleOutput o).pumpWanted o = s.pumpWanted o := by
  have hd : ((s.settleOutput o).out o).demands = (s.out o).demands := by cases o <;> rfl
  have hw : (s.settleOutput o).pumpWhole o = s.pumpWhole o := by cases o <;> rfl
  have hb : (s.settleOutput o).pumpBase o = s.pumpBase o := by cases o <;> rfl
  simp only [State.pumpWanted, State.demands, hd, hw, hb, State.settleOutput_energised, h]
  cases (s.out o).demands.anyButDose <;> cases s.pumpWhole o <;> cases (s.out o).demands.has .dose <;>
    cases s.pumpBase o <;> cases s.energised o <;> rfl

/-- An output's setting changes nothing that the outputs before it, and it itself, are set by. -/
theorem State.settleOutput_wanted (s : State) (o k : Output) (h : k.rank ≤ o.rank) :
    (s.settleOutput o).wanted k = s.wanted k := by
  cases o <;> cases k <;> first
    | rfl
    | exact absurd h (by decide)
    | exact s.settleOutput_pumpWanted .doseD rfl
    | exact s.settleOutput_pumpWanted .doseR rfl

theorem State.settleOutputs_settled (s : State) : s.settleOutputs.settled = true := by
  simp only [State.settled, Output.evalOrder, List.all_cons, List.all_nil, Bool.and_true, Bool.and_eq_true, beq_iff_eq,
    State.settleOutputs, List.foldl_cons, List.foldl_nil]
  refine ⟨?_, ?_, ?_, ?_, ?_, ?_, ?_, ?_, ?_⟩ <;>
    simp (disch := decide) only [State.settleOutput_energised, State.settleOutput_energised_ne, State.settleOutput_wanted]

/-- What an output is wanted by: eleven readings of the state and no other. -/
theorem State.wanted_of {s t : State} (h1 : t.guard.outs = s.guard.outs) (h2 : t.guard.flood = s.guard.flood)
    (h3 : t.guard.latched = s.guard.latched) (h4 : t.time.supply = s.time.supply)
    (h5 : t.store.configured = s.store.configured) (h6 : t.store.profile = s.store.profile)
    (h7 : t.doorClosed = s.doorClosed)
    (h8 : t.levelWet = s.levelWet) (h9 : t.floatClear = s.floatClear) (h10 : t.sampler.temp = s.sampler.temp)
    (h11 : t.heaterCutoff = s.heaterCutoff) (o : Output) : t.wanted o = s.wanted o := by
  cases o <;>
    simp [State.wanted, State.permit, State.pumpWanted, State.pumpWhole, State.pumpBase, State.demands, State.energised,
      State.out, State.fitted, State.absent, State.fieldNat, State.field, State.supplyReady,
      State.tempBelowCutoff, h1, h2, h3, h4, h5, h6, h7, h8, h9, h10, h11]

theorem State.settled_of {s t : State} (h1 : t.guard.outs = s.guard.outs) (h2 : t.guard.flood = s.guard.flood)
    (h3 : t.guard.latched = s.guard.latched) (h4 : t.time.supply = s.time.supply)
    (h5 : t.store.configured = s.store.configured) (h6 : t.store.profile = s.store.profile)
    (h7 : t.doorClosed = s.doorClosed)
    (h8 : t.levelWet = s.levelWet) (h9 : t.floatClear = s.floatClear) (h10 : t.sampler.temp = s.sampler.temp)
    (h11 : t.heaterCutoff = s.heaterCutoff) : t.settled = s.settled := by
  simp only [State.settled, State.wanted_of h1 h2 h3 h4 h5 h6 h7 h8 h9 h10 h11, State.energised, State.out, h1]

theorem State.settled_congr {s t : State} (hs : t.surroundings = s.surroundings) (hg : t.guardCore = s.guardCore) :
    t.settled = s.settled := by
  have h7 : t.inputs = s.inputs := congrArg Surroundings.inputs hs
  have h9 : t.store.settings = s.store.settings := congrArg Surroundings.settings hs
  exact State.settled_of (congrArg Prod.fst hg) (congrArg (fun x => x.2.1) hg) (congrArg (fun x => x.2.2) hg)
    (congrArg Surroundings.supply hs) (congrArg Surroundings.configured hs) (congrArg Surroundings.profile hs)
    (by simp only [State.doorClosed, State.reads, State.accepted, h7])
    (by simp only [State.levelWet, State.reads, State.accepted, h7])
    (by simp only [State.floatClear, State.reads, State.accepted, h7]) (congrArg Surroundings.temp hs)
    (by simp only [State.heaterCutoff, State.setting, h9])

/-- What happens at the output events of an evaluation leaves what it reads alone. -/
theorem State.evaluate_guardCore (s : State) : s.evaluate.guardCore = s.settleOutputs.guardCore := by
  have h : ∀ (os : List Output) (u t : State) (g : Output → Bool), (os.foldl
      (fun u o => if g o then u else u.outputEvent o (t.energised o)) u).guardCore = u.guardCore := by
    intro os
    induction os with
    | nil => intros; rfl
    | cons o os ih => intro u t g; rw [List.foldl_cons, ih]; split <;> simp
  simpa [State.evaluate] using h Output.evalOrder s.settleOutputs s.settleOutputs
    (fun o => decide (s.energised o = s.settleOutputs.energised o))

/-- R34: an evaluation leaves every output as its demand set and its permit give it. -/
@[simp] theorem State.evaluate_settled (s : State) : s.evaluate.settled = true := by
  rw [State.settled_congr (s := s.settleOutputs) (by simp) s.evaluate_guardCore, s.settleOutputs_settled]

end Sys2Proof.Machine
end

