-- ==== Sys2Proof/Laws/Frames.lean ====
section
/-! SUPPORT. What an evaluation of the outputs leaves alone (R34, R39), and with it the operations that end in one. -/

namespace Sys2Proof.Machine

/-- State that neither an output event nor the end of a step touches: test, diverter, flood-clear timer, Sampler, stock accounts, and
the phase and the counts of a regeneration. -/
structure Bystanders where
  test : Option Output
  testTimer : Timer
  diverter : Diverter
  floodClear : Timer
  sampler : Sampler
  accounts : PerAgent StockAccount
  phase : RegenPhase
  brine : Nat
  soak : Nat
  rinse : Nat
  brineTarget : Nat
  rinseTarget : Nat

/-- The bystanders of a state. -/
def State.bystanders (s : State) : Bystanders :=
  { test := s.guard.test, testTimer := s.guard.testTimer, diverter := s.guard.diverter, floodClear := s.guard.floodClear,
    sampler := s.sampler, accounts := s.dosing.accounts, phase := s.softener.phase, brine := s.softener.brine,
    soak := s.softener.soak, rinse := s.softener.rinse, brineTarget := s.softener.brineTarget,
    rinseTarget := s.softener.rinseTarget }

@[simp] theorem State.withTime_bystanders (s : State) (v : TimeBase) : (s.withTime v).bystanders = s.bystanders := rfl
@[simp] theorem State.withEngine_bystanders (s : State) (v : Engine) : (s.withEngine v).bystanders = s.bystanders := rfl
@[simp] theorem State.withLane_bystanders (s : State) (l : Lane) (v : LaneRec) : (s.withLane l v).bystanders = s.bystanders := rfl
@[simp] theorem State.withDose_bystanders (s : State) (v : Option DoseRec) : (s.withDose v).bystanders = s.bystanders := rfl
@[simp] theorem State.withDoor_bystanders (s : State) (v : DoorUnit) : (s.withDoor v).bystanders = s.bystanders := rfl
@[simp] theorem State.withStore_bystanders (s : State) (v : Store) : (s.withStore v).bystanders = s.bystanders := rfl
@[simp] theorem State.withCycle_bystanders (s : State) (v : CycleRec) : (s.withCycle v).bystanders = s.bystanders := rfl
@[simp] theorem State.modLane_bystanders (s : State) (l : Lane) (f : LaneRec → LaneRec) : (s.modLane l f).bystanders = s.bystanders := rfl
@[simp] theorem State.modHead_bystanders (s : State) (l : Lane) (f : StepRec → StepRec) : (s.modHead l f).bystanders = s.bystanders := rfl
@[simp] theorem State.modDose_bystanders (s : State) (f : DoseRec → DoseRec) : (s.modDose f).bystanders = s.bystanders := by
  unfold State.modDose
  split <;> rfl
@[simp] theorem State.modDoor_bystanders (s : State) (f : DoorUnit → DoorUnit) : (s.modDoor f).bystanders = s.bystanders := rfl
@[simp] theorem State.modTime_bystanders (s : State) (f : TimeBase → TimeBase) : (s.modTime f).bystanders = s.bystanders := rfl
@[simp] theorem State.modCheck_bystanders (s : State) (o : Checked) (f : CheckRec → CheckRec) : (s.modCheck o f).bystanders = s.bystanders := rfl
@[simp] theorem State.enterFor_bystanders (s : State) (set : List Port) (n : Notice) : (s.enterFor set n).bystanders = s.bystanders := rfl
@[simp] theorem State.raiseByClass_bystanders (s : State) (n : Notice) : (s.raiseByClass n).bystanders = s.bystanders := rfl
@[simp] theorem State.raiseStep_bystanders (s : State) (l : Lane) (n : Notice) : (s.raiseStep l n).bystanders = s.bystanders := by
  unfold State.raiseStep
  split <;> rfl
@[simp] theorem State.raiseHalted_bystanders (s : State) (l : Lane) (n : Notice) : (s.raiseHalted l n).bystanders = s.bystanders := rfl
@[simp] theorem State.withSoftener_bystanders (s : State) (v : Softener) (h1 : v.phase = s.softener.phase)
    (h2 : v.brine = s.softener.brine) (h3 : v.soak = s.softener.soak) (h4 : v.rinse = s.softener.rinse)
    (h5 : v.brineTarget = s.softener.brineTarget) (h6 : v.rinseTarget = s.softener.rinseTarget) :
    (s.withSoftener v).bystanders = s.bystanders := by
  simp [State.bystanders, h1, h2, h3, h4, h5, h6]

/-- What neither the setting of an output nor an output event changes, an evaluation leaves alone. -/
theorem State.evaluate_keeps {α : Type} (f : State → α) (hs : ∀ u o, f (State.settleOutput u o) = f u)
    (he : ∀ u o on, f (State.outputEvent u o on) = f u) (s : State) : f s.evaluate = f s := by
  have h1 : f s.settleOutputs = f s := by
    unfold State.settleOutputs
    generalize Output.evalOrder = os
    induction os generalizing s with
    | nil => rfl
    | cons o os ih => rw [List.foldl_cons, ih, hs]
  have h2 : ∀ (os : List Output) (u t : State) (g : Output → Bool), f (os.foldl
      (fun u o => if g o then u else u.outputEvent o (t.energised o)) u) = f u := by
    intro os
    induction os with
    | nil => intros; rfl
    | cons o os ih => intro u t g; rw [List.foldl_cons, ih]; split <;> simp [he]
  rw [← h1]
  simpa [State.evaluate] using h2 Output.evalOrder s.settleOutputs s.settleOutputs
    (fun o => decide (s.energised o = s.settleOutputs.energised o))

/-- The same for what is kept only where a condition that is itself kept holds. -/
theorem State.evaluate_keeps_of {α : Type} (f : State → α) (P : State → Prop)
    (hs : ∀ u o, P u → P (State.settleOutput u o) ∧ f (State.settleOutput u o) = f u)
    (he : ∀ u o on, P u → P (State.outputEvent u o on) ∧ f (State.outputEvent u o on) = f u) (s : State) (hP : P s) :
    P s.evaluate ∧ f s.evaluate = f s := by
  have h1 : ∀ (os : List Output) (u : State), P u → P (os.foldl State.settleOutput u)
      ∧ f (os.foldl State.settleOutput u) = f u := by
    intro os
    induction os with
    | nil => intro u hu; exact ⟨hu, rfl⟩
    | cons o os ih =>
      intro u hu
      have := ih _ (hs u o hu).1
      exact ⟨this.1, this.2.trans (hs u o hu).2⟩
  have h2 : ∀ (os : List Output) (u t : State) (g : Output → Bool), P u → P (os.foldl
      (fun u o => if g o then u else u.outputEvent o (t.energised o)) u) ∧ f (os.foldl
      (fun u o => if g o then u else u.outputEvent o (t.energised o)) u) = f u := by
    intro os
    induction os with
    | nil => intro u t g hu; exact ⟨hu, rfl⟩
    | cons o os ih =>
      intro u t g hu
      rw [List.foldl_cons]
      split
      · exact ih u t g hu
      · have := ih _ t g (he u o (t.energised o) hu).1
        exact ⟨this.1, this.2.trans (he u o (t.energised o) hu).2⟩
  have h3 := h1 Output.evalOrder s hP
  have h4 := h2 Output.evalOrder s.settleOutputs s.settleOutputs
    (fun o => decide (s.energised o = s.settleOutputs.energised o)) h3.1
  have h5 : s.evaluate = Output.evalOrder.foldl (fun u o =>
      if decide (s.energised o = s.settleOutputs.energised o) = true then u
      else u.outputEvent o (s.settleOutputs.energised o)) s.settleOutputs := by simp [State.evaluate]
  rw [h5]
  exact ⟨h4.1, h4.2.trans h3.2⟩

@[simp] theorem State.cycleEvent_bystanders (s : State) (f : CycleRec → CycleRec) :
    (s.cycleEvent f).bystanders = s.bystanders := by
  unfold State.cycleEvent
  split <;> simp
@[simp] theorem State.cycleWater_bystanders (s : State) (ml : Nat) :
    (s.cycleWater ml).bystanders = s.bystanders := by
  simp [State.cycleWater]
@[simp] theorem State.cycleStroke_bystanders (s : State) (a : Agent) (volume : Nat) :
    (s.cycleStroke a volume).bystanders = s.bystanders := by
  simp [State.cycleStroke]
@[simp] theorem State.cycleRegen_bystanders (s : State) (full : Bool) :
    (s.cycleRegen full).bystanders = s.bystanders := by
  simp [State.cycleRegen]
@[simp] theorem State.cycleFault_bystanders (s : State) :
    (s.cycleFault).bystanders = s.bystanders := by
  simp [State.cycleFault]
@[simp] theorem State.cyclePeak_bystanders (s : State) (t : Int) :
    (s.cyclePeak t).bystanders = s.bystanders := by
  simp [State.cyclePeak]

/-! ### Demand sets -/

@[simp] theorem State.putDemand_bystanders (s : State) (src : Source) (v : Bool) (o : Output) :
    (s.putDemand src v o).bystanders = s.bystanders := by
  rfl
@[simp] theorem State.putDemands_bystanders (s : State) (src : Source) (v : Bool) (os : List Output) :
    (s.putDemands src v os).bystanders = s.bystanders := by
  unfold State.putDemands
  induction os generalizing s with
  | nil => rfl
  | cons o os ih => exact ih _

/-! ### The resin account -/

@[simp] theorem State.raiseRegenPending_bystanders (s : State) :
    (s.raiseRegenPending).bystanders = s.bystanders := by
  simp [State.raiseRegenPending]
@[simp] theorem State.pendingTest_bystanders (s : State) :
    (s.pendingTest).bystanders = s.bystanders := by
  unfold State.pendingTest
  split <;> simp
@[simp] theorem State.debit_bystanders (s : State) (counts : Nat) :
    (s.debit counts).bystanders = s.bystanders := by
  unfold State.debit
  split <;> simp
@[simp] theorem State.softenerClosing_bystanders (s : State) (count : Nat) :
    (s.softenerClosing count).bystanders = s.bystanders := by
  unfold State.softenerClosing
  split <;> simp
@[simp] theorem State.pendingAtLoad_bystanders (s : State) :
    (s.pendingAtLoad).bystanders = s.bystanders := by
  unfold State.pendingAtLoad
  (repeat' split) <;> simp
@[simp] theorem State.restoreResin_bystanders (s : State) (full : Bool) :
    (s.restoreResin full).bystanders = s.bystanders := by
  unfold State.restoreResin
  dsimp only
  (repeat' split) <;> rfl

/-! ### The lane records -/

@[simp] theorem State.releaseLane_bystanders (s : State) (l : Lane) :
    (s.releaseLane l).bystanders = s.bystanders := by
  unfold State.releaseLane
  split <;> rfl
@[simp] theorem State.releaseExclusion_bystanders (s : State) :
    (s.releaseExclusion).bystanders = s.bystanders := by
  simp [State.releaseExclusion]
@[simp] theorem State.dropDose_bystanders (s : State) (l : Lane) :
    (s.dropDose l).bystanders = s.bystanders := by
  unfold State.dropDose
  split <;> simp
@[simp] theorem State.setRefFrom_bystanders (s : State) (t : StepRec) :
    (s.setRefFrom t).bystanders = s.bystanders := by
  unfold State.setRefFrom
  split <;> simp
@[simp] theorem State.concludeSuccess_bystanders (s : State) (l : Lane) (flags : ResultFlags) :
    (s.concludeSuccess l flags).bystanders = s.bystanders := by
  unfold State.concludeSuccess
  (repeat' split) <;> simp
@[simp] theorem State.failForGood_bystanders (s : State) (l : Lane) (result : StepResult) :
    (s.failForGood l result).bystanders = s.bystanders := by
  unfold State.failForGood
  split <;> simp
@[simp] theorem State.concludeCounted_bystanders (s : State) (l : Lane) (result : StepResult) :
    (s.concludeCounted l result).bystanders = s.bystanders := by
  unfold State.concludeCounted
  dsimp only
  (repeat' split) <;> simp

/-! ### The rod -/

@[simp] theorem State.raiseRodState_bystanders (s : State) (before : DoorUnit) (jam : JamCause) :
    (s.raiseRodState before jam).bystanders = s.bystanders := by
  simp [State.raiseRodState]
@[simp] theorem State.setAjar_bystanders (s : State) (v : Bool) :
    (s.setAjar v).bystanders = s.bystanders := by
  unfold State.setAjar
  split <;> simp
@[simp] theorem State.beginExtend_bystanders (s : State) :
    (s.beginExtend).bystanders = s.bystanders := by
  unfold State.beginExtend
  split <;> simp
@[simp] theorem State.rodHandOver_bystanders (s : State) :
    (s.rodHandOver).bystanders = s.bystanders := by
  unfold State.rodHandOver
  split <;> simp
@[simp] theorem State.extendGuard_bystanders (s : State) :
    (s.extendGuard).bystanders = s.bystanders := by
  unfold State.extendGuard
  split <;> simp
@[simp] theorem State.endHold_bystanders (s : State) :
    (s.endHold).bystanders = s.bystanders := by
  simp [State.endHold]
@[simp] theorem State.doorOpened_bystanders (s : State) :
    (s.doorOpened).bystanders = s.bystanders := by
  simp [State.doorOpened]
@[simp] theorem State.rodSupplyLost_bystanders (s : State) :
    (s.rodSupplyLost).bystanders = s.bystanders := by
  unfold State.rodSupplyLost
  split <;> simp
@[simp] theorem State.rodSupplyReady_bystanders (s : State) :
    (s.rodSupplyReady).bystanders = s.bystanders := by
  unfold State.rodSupplyReady
  split <;> simp
@[simp] theorem State.startHoming_bystanders (s : State) (cause : HomingCause) :
    (s.startHoming cause).bystanders = s.bystanders := by
  unfold State.startHoming
  split <;> simp
@[simp] theorem State.lockHoming_bystanders (s : State) (closed : Bool) :
    (s.lockHoming closed).bystanders = s.bystanders := by
  unfold State.lockHoming
  split <;> simp
@[simp] theorem State.rodTryEnd_bystanders (s : State) :
    (s.rodTryEnd).bystanders = s.bystanders := by
  unfold State.rodTryEnd
  (repeat' split) <;> simp
@[simp] theorem State.doorUnitDoor_bystanders (s : State) (closed isEvent : Bool) :
    (s.doorUnitDoor closed isEvent).bystanders = s.bystanders := by
  unfold State.doorUnitDoor
  dsimp only
  (repeat' split) <;> simp

/-! ### Output events and the evaluation -/

@[simp] theorem State.checkOutput_bystanders (s : State) (o : Checked) (on : Bool) :
    (s.checkOutput o on).bystanders = s.bystanders := by
  simp [State.checkOutput]
@[simp] theorem State.checkSense_bystanders (s : State) (o : Checked) (sense : Bool) :
    (s.checkSense o sense).bystanders = s.bystanders := by
  simp [State.checkSense]
@[simp] theorem State.strayOpening_bystanders (s : State) :
    (s.strayOpening).bystanders = s.bystanders := by
  simp [State.strayOpening]
@[simp] theorem State.strayClosing_bystanders (s : State) :
    (s.strayClosing).bystanders = s.bystanders := by
  unfold State.strayClosing
  split <;> rfl
@[simp] theorem State.startNoFlow_bystanders (s : State) :
    (s.startNoFlow).bystanders = s.bystanders := by
  unfold State.startNoFlow
  dsimp only
  (repeat' split) <;> rfl
@[simp] theorem State.stopNoFlow_bystanders (s : State) :
    (s.stopNoFlow).bystanders = s.bystanders := by
  rfl
@[simp] theorem State.inletOpening_bystanders (s : State) :
    (s.inletOpening).bystanders = s.bystanders := by
  simp [State.inletOpening]
@[simp] theorem State.inletClosing_bystanders (s : State) :
    (s.inletClosing).bystanders = s.bystanders := by
  simp only [State.inletClosing, State.stopNoFlow_bystanders, State.strayClosing_bystanders,
    State.cycleWater_bystanders, State.softenerClosing_bystanders]
  rfl
@[simp] theorem State.autoOpenHeater_bystanders (s : State) :
    (s.autoOpenHeater).bystanders = s.bystanders := by
  unfold State.autoOpenHeater
  (repeat' split) <;> simp
@[simp] theorem State.heaterEvent_bystanders (s : State) (on : Bool) :
    (s.heaterEvent on).bystanders = s.bystanders := by
  unfold State.heaterEvent
  split <;> simp
@[simp] theorem State.pumpEvent_bystanders (s : State) (a : Agent) (on : Bool) :
    (s.pumpEvent a on).bystanders = s.bystanders := by
  simp [State.pumpEvent]
@[simp] theorem State.settleOutput_bystanders (s : State) (o : Output) :
    (s.settleOutput o).bystanders = s.bystanders := by
  rfl
@[simp] theorem State.settleOutputs_bystanders (s : State) :
    (s.settleOutputs).bystanders = s.bystanders := by
  simp [State.settleOutputs, Output.evalOrder]
@[simp] theorem State.outputEvent_bystanders (s : State) (o : Output) (on : Bool) :
    (s.outputEvent o on).bystanders = s.bystanders := by
  unfold State.outputEvent
  (repeat' split) <;> simp
@[simp] theorem State.evaluate_bystanders (s : State) :
    (s.evaluate).bystanders = s.bystanders := by
  exact State.evaluate_keeps State.bystanders (fun u o => u.settleOutput_bystanders o)
    (fun u o on => u.outputEvent_bystanders o on) s

/-! ### The ends of a try -/

@[simp] theorem State.withdrawAll_bystanders (s : State) (src : Source) :
    (s.withdrawAll src).bystanders = s.bystanders := by
  simp [State.withdrawAll]
@[simp] theorem State.enterDemands_bystanders (s : State) (src : Source) (os : List Output) :
    (s.enterDemands src os).bystanders = s.bystanders := by
  simp [State.enterDemands]
@[simp] theorem State.withdrawActions_bystanders (s : State) :
    (s.withdrawActions).bystanders = s.bystanders := by
  simp [State.withdrawActions]

/-! ### Demand sets -/

theorem State.settleOutput_demands (s : State) (o k : Output) : ((s.settleOutput o).out k).demands = (s.out k).demands := by
  cases o <;> cases k <;> rfl

/-- R35: an evaluation changes no demand set. -/
@[simp] theorem State.evaluate_demands (s : State) (o : Output) : (s.evaluate.out o).demands = (s.out o).demands := by
  refine State.evaluate_keeps (fun u => (u.out o).demands) (fun u k => u.settleOutput_demands k o) (fun u k on => ?_) s
  have h : (u.outputEvent k on).guard.outs = u.guard.outs := congrArg Prod.fst (u.outputEvent_guardCore k on)
  simp only [State.out, h]

theorem DemandSet.put_has (d : DemandSet) (a b : Source) (v : Bool) :
    (d.put a v).has b = if a = b then v else d.has b := by
  cases a <;> cases b <;> rfl

/-- R35: a source's change on one output. -/
theorem State.putDemand_demands (s : State) (a b : Source) (v : Bool) (o k : Output) :
    (s.putDemand a v o).demands k b = if o = k ∧ a = b then v else s.demands k b := by
  by_cases h : k = o
  · subst h
    simp [State.putDemand, State.demands, DemandSet.put_has]
  · simp [State.putDemand, State.demands, h, Ne.symm h]

/-- R35: a source's change on several outputs. -/
theorem State.putDemands_demands (s : State) (a b : Source) (v : Bool) (os : List Output) (k : Output) :
    (s.putDemands a v os).demands k b = if k ∈ os ∧ a = b then v else s.demands k b := by
  unfold State.putDemands
  induction os generalizing s with
  | nil => simp
  | cons o os ih =>
    rw [List.foldl_cons, ih, State.putDemand_demands]
    have h4 : k = o ↔ o = k := ⟨Eq.symm, Eq.symm⟩
    by_cases h1 : a = b <;> by_cases h2 : k ∈ os <;> by_cases h3 : o = k <;> simp [h1, h2, h3, h4]

/-- R35: after a withdrawal the source demands nothing, and the other sources demand what they did. -/
theorem State.withdrawAll_demands (s : State) (a b : Source) (k : Output) :
    (s.withdrawAll a).demands k b = if a = b then false else s.demands k b := by
  have hk : k ∈ Output.evalOrder := by cases k <;> decide
  have h := State.putDemands_demands s a b false Output.evalOrder k
  simp only [hk, true_and] at h
  rw [← h]
  simp [State.withdrawAll, State.demands]

/-- R34: after its demands are entered the source demands the outputs it named. -/
theorem State.enterDemands_demands (s : State) (a b : Source) (os : List Output) (k : Output) :
    (s.enterDemands a os).demands k b = if k ∈ os ∧ a = b then true else s.demands k b := by
  rw [← State.putDemands_demands s a b true os k]
  simp [State.enterDemands, State.demands]

/-! ### Lanes, rod and dose record -/

/-- Whether the WATER lane's head is an AUTO_OPEN in a start wait, which an output event of HEATER may end (R107). -/
def State.autoOpenWaits (s : State) : Bool :=
  (s.lane .water).startWait && s.headIs .water (fun t => decide (t.work = .autoOpen))

theorem State.autoOpenHeater_of_not (s : State) (h : s.autoOpenWaits = false) : s.autoOpenHeater = s := by
  unfold State.autoOpenHeater
  split
  · rfl
  · rename_i t ht
    simp only [State.autoOpenWaits, State.headIs, ht] at h
    simp [h]

@[simp] theorem State.strayClosing_lanes (s : State) : s.strayClosing.engine.lanes = s.engine.lanes := by
  unfold State.strayClosing
  split <;> rfl
@[simp] theorem State.cycleEvent_lanes (s : State) (f : CycleRec → CycleRec) :
    (s.cycleEvent f).engine.lanes = s.engine.lanes := by
  unfold State.cycleEvent
  split <;> rfl
@[simp] theorem State.softenerClosing_lanes (s : State) (count : Nat) :
    (s.softenerClosing count).engine.lanes = s.engine.lanes := by
  simp only [State.softenerClosing, State.debit, State.pendingTest]
  (repeat' split) <;> rfl
@[simp] theorem State.inletClosing_lanes (s : State) : s.inletClosing.engine.lanes = s.engine.lanes := by
  simp only [State.inletClosing, State.stopNoFlow, State.cycleWater, State.withSoftener_engine, State.withEngine_engine,
    State.strayClosing_lanes, State.cycleEvent_lanes, State.softenerClosing_lanes]
  rfl
@[simp] theorem State.inletOpening_lanes (s : State) : s.inletOpening.engine.lanes = s.engine.lanes := by
  simp only [State.inletOpening, State.startNoFlow]
  (repeat' split) <;> rfl
@[simp] theorem State.modDose_lanes (s : State) (f : DoseRec → DoseRec) : (s.modDose f).engine.lanes = s.engine.lanes := by
  unfold State.modDose
  split <;> rfl
@[simp] theorem State.extendGuard_lanes (s : State) : s.extendGuard.engine.lanes = s.engine.lanes := by
  unfold State.extendGuard
  split <;> rfl

theorem State.autoOpenWaits_congr {s t : State} (h : t.engine.lanes = s.engine.lanes) : t.autoOpenWaits = s.autoOpenWaits := by
  simp only [State.autoOpenWaits, State.headIs, State.head, State.lane, h]

/-- R39: an output event changes no lane, but where it ends the start wait of an AUTO_OPEN. -/
theorem State.outputEvent_lanes (s : State) (o : Output) (on : Bool) (h : s.autoOpenWaits = false) :
    (s.outputEvent o on).engine.lanes = s.engine.lanes := by
  cases o
  case inlet => simp only [State.outputEvent]; split <;> simp [State.checkOutput, State.modCheck]
  case heater =>
    have h2 : (s.checkOutput .heater on).autoOpenWaits = false := (State.autoOpenWaits_congr rfl).trans h
    simp only [State.outputEvent, State.heaterEvent, State.autoOpenHeater_of_not _ h2]
    split <;> simp [State.checkOutput, State.modCheck]
  all_goals simp [State.outputEvent, State.checkOutput, State.modCheck, State.pumpEvent]

/-- R34: an evaluation changes no lane, but where it ends the start wait of an AUTO_OPEN. -/
theorem State.evaluate_lanes (s : State) (h : s.autoOpenWaits = false) : s.evaluate.engine.lanes = s.engine.lanes :=
  (State.evaluate_keeps_of (fun u => u.engine.lanes) (fun u => u.autoOpenWaits = false)
    (fun _ _ hu => ⟨(State.autoOpenWaits_congr rfl).trans hu, rfl⟩)
    (fun u o on hu => ⟨(State.autoOpenWaits_congr (u.outputEvent_lanes o on hu)).trans hu, u.outputEvent_lanes o on hu⟩)
    s h).2

/-- A lane that is not in a start wait is in none of AUTO_OPEN's. -/
theorem State.autoOpenWaits_of_state (s : State) (h : (s.lane .water).state ≠ .waiting) : s.autoOpenWaits = false := by
  simp [State.autoOpenWaits, LaneRec.startWait, h]

@[simp] theorem State.putDemands_lanes (s : State) (a : Source) (v : Bool) (os : List Output) :
    (s.putDemands a v os).engine = s.engine := by
  unfold State.putDemands
  induction os generalizing s with
  | nil => rfl
  | cons o os ih => exact ih _

theorem State.withdrawAll_lanes (s : State) (a : Source) (h : s.autoOpenWaits = false) :
    (s.withdrawAll a).engine.lanes = s.engine.lanes := by
  have h1 : (s.putDemands a false Output.evalOrder).autoOpenWaits = false :=
    (State.autoOpenWaits_congr (by simp)).trans h
  simp [State.withdrawAll, State.evaluate_lanes _ h1]

theorem State.enterDemands_lanes (s : State) (a : Source) (os : List Output) (h : s.autoOpenWaits = false) :
    (s.enterDemands a os).engine.lanes = s.engine.lanes := by
  have h1 : (s.putDemands a true os).autoOpenWaits = false := (State.autoOpenWaits_congr (by simp)).trans h
  simp [State.enterDemands, State.evaluate_lanes _ h1]

end Sys2Proof.Machine
end

