-- ==== Sys2Proof/Laws/PerInstr.lean ====
section
/-! SUPPORT. What well-formedness says of a command, one lemma for each constructor of `Instr`. -/

namespace Sys2Proof

open Machine

/-- The order in which a command's event is taken, and the receivers of that event (log 5). -/
def Instr.receivers (i : Instr) : Option (List Receiver × List Receiver) :=
  match i with
  | .lossWindowExpiry order => some (order, Receiver.ofSupply)
  | .railOkFall order => some (order, Receiver.ofSupply)
  | .supplySettleExpiry order => some (order, Receiver.ofSupply)
  | .debounceTimerExpiry input order => some (order, Receiver.ofInput input)
  | .tempSampleTimerExpiry _ order => some (order, Receiver.ofSample)
  | _ => none

/-- A well-formed command names each receiver of its event once, and a request's payload fits a frame (R155); its code is the one that
the request table has for it. -/
def Laws.OrderedReceivers.Statement (i : Instr) : Prop :=
  (∀ code q, codeOf i = some (code, q) → (requestOf code q).map (fun j => j.amid i.cuts) = some i)
  ∧ (i.wf = true →
    (∀ order all, i.receivers = some (order, all) → order.Perm all)
    ∧ (∀ code q, codeOf i = some (code, q) → q.payload.length ≤ 28))

/-- A command that is no request and has no receivers in an open order. -/
theorem Laws.orderedReceivers_event (i : Instr) (hc : codeOf i = none) (hr : i.receivers = none) :
    Laws.OrderedReceivers.Statement i := by
  simp [Laws.OrderedReceivers.Statement, hc, hr]

/-- A command whose event is taken in an open order. -/
theorem Laws.orderedReceivers_order (i : Instr) (order all : List Receiver) (hc : codeOf i = none)
    (hr : i.receivers = some (order, all)) (hw : i.wf = orderOk order all) : Laws.OrderedReceivers.Statement i := by
  simp [Laws.OrderedReceivers.Statement, hc, hr, hw, orderOk, List.isPerm_iff]

/-- A request. -/
theorem Laws.orderedReceivers_wfRequest (i : Instr) (code : Byte) (q : Request) (hc : codeOf i = some (code, q))
    (hr : i.receivers = none) (hd : (requestOf code q).map (fun j => j.amid i.cuts) = some i) (hw : i.wf = true → q.wf = true) : Laws.OrderedReceivers.Statement i := by
  refine ⟨fun c r h => ?_, fun h => ⟨by simp [hr], fun c r h2 => ?_⟩⟩
  · simp only [hc, Option.some.injEq, Prod.mk.injEq] at h
    rw [← h.1, ← h.2, hd]
  · simp only [hc, Option.some.injEq, Prod.mk.injEq] at h2
    rw [← h2.2]
    simpa [Request.wf] using hw h

/-- A request that is well formed exactly where its payload fits a frame. -/
theorem Laws.orderedReceivers_request (i : Instr) (code : Byte) (q : Request) (hc : codeOf i = some (code, q))
    (hr : i.receivers = none) (hd : (requestOf code q).map (fun j => j.amid i.cuts) = some i) (hw : i.wf = q.wf) :
    Laws.OrderedReceivers.Statement i :=
  Laws.orderedReceivers_wfRequest i code q hc hr hd (fun h => hw ▸ h)

theorem Laws.OrderedReceivers.powerOn (pins : PowerPins) : Laws.OrderedReceivers.Statement (.powerOn pins) :=
  Laws.orderedReceivers_event _ rfl rfl
theorem Laws.OrderedReceivers.resetLine (edge : ResetEdge) : Laws.OrderedReceivers.Statement (.resetLine edge) :=
  Laws.orderedReceivers_event _ rfl rfl
theorem Laws.OrderedReceivers.resetPart (q : ResetRequest) : Laws.OrderedReceivers.Statement (.resetPart q) :=
  Laws.orderedReceivers_wfRequest _ _ q.toRequest rfl rfl rfl (fun h => by simp only [Instr.wf, Bool.and_eq_true] at h; exact h.1)
theorem Laws.OrderedReceivers.runClockTick : Laws.OrderedReceivers.Statement .runClockTick :=
  Laws.orderedReceivers_event _ rfl rfl
theorem Laws.OrderedReceivers.flowEdge (rising : Bool) : Laws.OrderedReceivers.Statement (.flowEdge rising) :=
  Laws.orderedReceivers_event _ rfl rfl
theorem Laws.OrderedReceivers.zeroCrossEdge : Laws.OrderedReceivers.Statement .zeroCrossEdge :=
  Laws.orderedReceivers_event _ rfl rfl
theorem Laws.OrderedReceivers.lossWindowExpiry (order : List Receiver) : Laws.OrderedReceivers.Statement (.lossWindowExpiry order) :=
  Laws.orderedReceivers_order _ _ _ rfl rfl rfl
theorem Laws.OrderedReceivers.railOkRise : Laws.OrderedReceivers.Statement .railOkRise :=
  Laws.orderedReceivers_event _ rfl rfl
theorem Laws.OrderedReceivers.railOkFall (order : List Receiver) : Laws.OrderedReceivers.Statement (.railOkFall order) :=
  Laws.orderedReceivers_order _ _ _ rfl rfl rfl
theorem Laws.OrderedReceivers.supplySettleExpiry (order : List Receiver) : Laws.OrderedReceivers.Statement (.supplySettleExpiry order) :=
  Laws.orderedReceivers_order _ _ _ rfl rfl rfl
theorem Laws.OrderedReceivers.readTimeBase (q : Request) : Laws.OrderedReceivers.Statement (.readTimeBase q) :=
  Laws.orderedReceivers_request _ _ _ rfl rfl rfl rfl
theorem Laws.OrderedReceivers.filteredPinChange (i : Input) (level : Bool) : Laws.OrderedReceivers.Statement (.filteredPinChange i level) :=
  Laws.orderedReceivers_event _ rfl rfl
theorem Laws.OrderedReceivers.debounceTimerExpiry (i : Input) (order : List Receiver) : Laws.OrderedReceivers.Statement (.debounceTimerExpiry i order) :=
  Laws.orderedReceivers_order _ _ _ rfl rfl rfl
theorem Laws.OrderedReceivers.rodOcChange (level : Bool) : Laws.OrderedReceivers.Statement (.rodOcChange level) :=
  Laws.orderedReceivers_event _ rfl rfl
theorem Laws.OrderedReceivers.senseLineChange (l : SenseLine) (level : Bool) : Laws.OrderedReceivers.Statement (.senseLineChange l level) :=
  Laws.orderedReceivers_event _ rfl rfl
theorem Laws.OrderedReceivers.readInputs (q : Request) : Laws.OrderedReceivers.Statement (.readInputs q) :=
  Laws.orderedReceivers_request _ _ _ rfl rfl rfl rfl
theorem Laws.OrderedReceivers.tempSampleTimerExpiry (code : Code) (order : List Receiver) : Laws.OrderedReceivers.Statement (.tempSampleTimerExpiry code order) :=
  Laws.orderedReceivers_order _ _ _ rfl rfl rfl
theorem Laws.OrderedReceivers.ledTimerExpiry (code : Code) : Laws.OrderedReceivers.Statement (.ledTimerExpiry code) :=
  Laws.orderedReceivers_event _ rfl rfl
theorem Laws.OrderedReceivers.sampleNow (q : Request) : Laws.OrderedReceivers.Statement (.sampleNow q) :=
  Laws.orderedReceivers_request _ _ _ rfl rfl rfl rfl
theorem Laws.OrderedReceivers.readSamples (q : Request) : Laws.OrderedReceivers.Statement (.readSamples q) :=
  Laws.orderedReceivers_request _ _ _ rfl rfl rfl rfl
theorem Laws.OrderedReceivers.stuckOnWindowExpiry (o : Checked) : Laws.OrderedReceivers.Statement (.stuckOnWindowExpiry o) :=
  Laws.orderedReceivers_event _ rfl rfl
theorem Laws.OrderedReceivers.stuckOffWindowExpiry (o : Checked) : Laws.OrderedReceivers.Statement (.stuckOffWindowExpiry o) :=
  Laws.orderedReceivers_event _ rfl rfl
theorem Laws.OrderedReceivers.cleanCountReached : Laws.OrderedReceivers.Statement .cleanCountReached :=
  Laws.orderedReceivers_event _ rfl rfl
theorem Laws.OrderedReceivers.clearFault (q : Request) : Laws.OrderedReceivers.Statement (.clearFault q) :=
  Laws.orderedReceivers_request _ _ _ rfl rfl rfl rfl
theorem Laws.OrderedReceivers.latchDrainExpiry : Laws.OrderedReceivers.Statement .latchDrainExpiry :=
  Laws.orderedReceivers_event _ rfl rfl
theorem Laws.OrderedReceivers.floodClearTimerExpiry : Laws.OrderedReceivers.Statement .floodClearTimerExpiry :=
  Laws.orderedReceivers_event _ rfl rfl
theorem Laws.OrderedReceivers.testOutput (q : Request) : Laws.OrderedReceivers.Statement (.testOutput q) :=
  Laws.orderedReceivers_request _ _ _ rfl rfl rfl rfl
theorem Laws.OrderedReceivers.testTimerExpiry : Laws.OrderedReceivers.Statement .testTimerExpiry :=
  Laws.orderedReceivers_event _ rfl rfl
theorem Laws.OrderedReceivers.readOutputs (q : Request) : Laws.OrderedReceivers.Statement (.readOutputs q) :=
  Laws.orderedReceivers_request _ _ _ rfl rfl rfl rfl
theorem Laws.OrderedReceivers.postAction (q : Request) : Laws.OrderedReceivers.Statement (.postAction q) :=
  Laws.orderedReceivers_request _ _ _ rfl rfl rfl rfl
theorem Laws.OrderedReceivers.actionDueSet (r : CounterRef) : Laws.OrderedReceivers.Statement (.actionDueSet r) :=
  Laws.orderedReceivers_event _ rfl rfl
theorem Laws.OrderedReceivers.cancelAction (q : Request) : Laws.OrderedReceivers.Statement (.cancelAction q) :=
  Laws.orderedReceivers_request _ _ _ rfl rfl rfl rfl
theorem Laws.OrderedReceivers.readActions (q : Request) : Laws.OrderedReceivers.Statement (.readActions q) :=
  Laws.orderedReceivers_request _ _ _ rfl rfl rfl rfl
theorem Laws.OrderedReceivers.claimLane (q : Request) : Laws.OrderedReceivers.Statement (.claimLane q) :=
  Laws.orderedReceivers_request _ _ _ rfl rfl rfl rfl
theorem Laws.OrderedReceivers.releaseLane (q : Request) : Laws.OrderedReceivers.Statement (.releaseLane q) :=
  Laws.orderedReceivers_request _ _ _ rfl rfl rfl rfl
theorem Laws.OrderedReceivers.takeLane (q : Request) : Laws.OrderedReceivers.Statement (.takeLane q) :=
  Laws.orderedReceivers_request _ _ _ rfl rfl rfl rfl
theorem Laws.OrderedReceivers.postStep (q : Request) : Laws.OrderedReceivers.Statement (.postStep q) :=
  Laws.orderedReceivers_request _ _ _ rfl rfl rfl rfl
theorem Laws.OrderedReceivers.startAttempt (l : Lane) : Laws.OrderedReceivers.Statement (.startAttempt l) :=
  Laws.orderedReceivers_event _ rfl rfl
theorem Laws.OrderedReceivers.timeLimitExpiry (l : Lane) : Laws.OrderedReceivers.Statement (.timeLimitExpiry l) :=
  Laws.orderedReceivers_event _ rfl rfl
theorem Laws.OrderedReceivers.retryTimerExpiry (l : Lane) : Laws.OrderedReceivers.Statement (.retryTimerExpiry l) :=
  Laws.orderedReceivers_event _ rfl rfl
theorem Laws.OrderedReceivers.pauseSettleExpiry (l : Lane) : Laws.OrderedReceivers.Statement (.pauseSettleExpiry l) :=
  Laws.orderedReceivers_event _ rfl rfl
theorem Laws.OrderedReceivers.skipStep (q : Request) : Laws.OrderedReceivers.Statement (.skipStep q) :=
  Laws.orderedReceivers_request _ _ _ rfl rfl rfl rfl
theorem Laws.OrderedReceivers.retryStep (q : Request) : Laws.OrderedReceivers.Statement (.retryStep q) :=
  Laws.orderedReceivers_request _ _ _ rfl rfl rfl rfl
theorem Laws.OrderedReceivers.flushLane (q : Request) : Laws.OrderedReceivers.Statement (.flushLane q) :=
  Laws.orderedReceivers_request _ _ _ rfl rfl rfl rfl
theorem Laws.OrderedReceivers.holdLane (q : Request) : Laws.OrderedReceivers.Statement (.holdLane q) :=
  Laws.orderedReceivers_request _ _ _ rfl rfl rfl rfl
theorem Laws.OrderedReceivers.resumeLane (q : Request) : Laws.OrderedReceivers.Statement (.resumeLane q) :=
  Laws.orderedReceivers_request _ _ _ rfl rfl rfl rfl
theorem Laws.OrderedReceivers.readLane (q : Request) : Laws.OrderedReceivers.Statement (.readLane q) :=
  Laws.orderedReceivers_request _ _ _ rfl rfl rfl rfl
theorem Laws.OrderedReceivers.readStep (q : Request) : Laws.OrderedReceivers.Statement (.readStep q) :=
  Laws.orderedReceivers_request _ _ _ rfl rfl rfl rfl
theorem Laws.OrderedReceivers.fillNoFlowExpiry : Laws.OrderedReceivers.Statement .fillNoFlowExpiry :=
  Laws.orderedReceivers_event _ rfl rfl
theorem Laws.OrderedReceivers.drainRunOnComplete : Laws.OrderedReceivers.Statement .drainRunOnComplete :=
  Laws.orderedReceivers_event _ rfl rfl
theorem Laws.OrderedReceivers.circulateComplete : Laws.OrderedReceivers.Statement .circulateComplete :=
  Laws.orderedReceivers_event _ rfl rfl
theorem Laws.OrderedReceivers.waterDryWindowExpiry : Laws.OrderedReceivers.Statement .waterDryWindowExpiry :=
  Laws.orderedReceivers_event _ rfl rfl
theorem Laws.OrderedReceivers.pauseStepComplete : Laws.OrderedReceivers.Statement .pauseStepComplete :=
  Laws.orderedReceivers_event _ rfl rfl
theorem Laws.OrderedReceivers.soakComplete : Laws.OrderedReceivers.Statement .soakComplete :=
  Laws.orderedReceivers_event _ rfl rfl
theorem Laws.OrderedReceivers.regenNoFlowExpiry : Laws.OrderedReceivers.Statement .regenNoFlowExpiry :=
  Laws.orderedReceivers_event _ rfl rfl
theorem Laws.OrderedReceivers.resetResin (q : Request) : Laws.OrderedReceivers.Statement (.resetResin q) :=
  Laws.orderedReceivers_request _ _ _ rfl rfl rfl rfl
theorem Laws.OrderedReceivers.readSoftener (q : Request) : Laws.OrderedReceivers.Statement (.readSoftener q) :=
  Laws.orderedReceivers_request _ _ _ rfl rfl rfl rfl
theorem Laws.OrderedReceivers.doseOnTimerExpiry : Laws.OrderedReceivers.Statement .doseOnTimerExpiry :=
  Laws.orderedReceivers_event _ rfl rfl
theorem Laws.OrderedReceivers.doseOffTimerExpiry : Laws.OrderedReceivers.Statement .doseOffTimerExpiry :=
  Laws.orderedReceivers_event _ rfl rfl
theorem Laws.OrderedReceivers.doseDryWindowExpiry : Laws.OrderedReceivers.Statement .doseDryWindowExpiry :=
  Laws.orderedReceivers_event _ rfl rfl
theorem Laws.OrderedReceivers.refill (q : Request) : Laws.OrderedReceivers.Statement (.refill q) :=
  Laws.orderedReceivers_request _ _ _ rfl rfl rfl rfl
theorem Laws.OrderedReceivers.setStock (q : Request) : Laws.OrderedReceivers.Statement (.setStock q) :=
  Laws.orderedReceivers_request _ _ _ rfl rfl rfl rfl
theorem Laws.OrderedReceivers.readDosing (q : Request) : Laws.OrderedReceivers.Statement (.readDosing q) :=
  Laws.orderedReceivers_request _ _ _ rfl rfl rfl rfl
theorem Laws.OrderedReceivers.extendTimerExpiry : Laws.OrderedReceivers.Statement .extendTimerExpiry :=
  Laws.orderedReceivers_event _ rfl rfl
theorem Laws.OrderedReceivers.holdTimerExpiry : Laws.OrderedReceivers.Statement .holdTimerExpiry :=
  Laws.orderedReceivers_event _ rfl rfl
theorem Laws.OrderedReceivers.deadTimeExpiry : Laws.OrderedReceivers.Statement .deadTimeExpiry :=
  Laws.orderedReceivers_event _ rfl rfl
theorem Laws.OrderedReceivers.retractTimerExpiry : Laws.OrderedReceivers.Statement .retractTimerExpiry :=
  Laws.orderedReceivers_event _ rfl rfl
theorem Laws.OrderedReceivers.clearRodFault (q : Request) : Laws.OrderedReceivers.Statement (.clearRodFault q) :=
  Laws.orderedReceivers_request _ _ _ rfl rfl rfl rfl
theorem Laws.OrderedReceivers.readDoor (q : Request) : Laws.OrderedReceivers.Statement (.readDoor q) :=
  Laws.orderedReceivers_request _ _ _ rfl rfl rfl rfl
theorem Laws.OrderedReceivers.badFrame (p : Port) (bytes : List Byte) : Laws.OrderedReceivers.Statement (.badFrame p bytes) :=
  Laws.orderedReceivers_event _ rfl rfl
theorem Laws.OrderedReceivers.unknownRequest (p : Port) (code : Byte) (tag : Byte) (payload : List Byte) : Laws.OrderedReceivers.Statement (.unknownRequest p code tag payload) :=
  Laws.orderedReceivers_event _ rfl rfl
theorem Laws.OrderedReceivers.null (q : Request) : Laws.OrderedReceivers.Statement (.null q) :=
  Laws.orderedReceivers_request _ _ _ rfl rfl rfl rfl
theorem Laws.OrderedReceivers.subscribe (q : Request) : Laws.OrderedReceivers.Statement (.subscribe q) :=
  Laws.orderedReceivers_request _ _ _ rfl rfl rfl rfl
theorem Laws.OrderedReceivers.takeNotices (q : Request) : Laws.OrderedReceivers.Statement (.takeNotices q) :=
  Laws.orderedReceivers_request _ _ _ rfl rfl rfl rfl
theorem Laws.OrderedReceivers.readPort (q : Request) : Laws.OrderedReceivers.Statement (.readPort q) :=
  Laws.orderedReceivers_request _ _ _ rfl rfl rfl rfl
theorem Laws.OrderedReceivers.profileField (q : Request) : Laws.OrderedReceivers.Statement (.profileField q) :=
  Laws.orderedReceivers_request _ _ _ rfl rfl rfl rfl
theorem Laws.OrderedReceivers.profileLock (q : Request) : Laws.OrderedReceivers.Statement (.profileLock q) :=
  Laws.orderedReceivers_request _ _ _ rfl rfl rfl rfl
theorem Laws.OrderedReceivers.writeSetting (q : Request) : Laws.OrderedReceivers.Statement (.writeSetting q) :=
  Laws.orderedReceivers_request _ _ _ rfl rfl rfl rfl
theorem Laws.OrderedReceivers.loadAccounts (q : Request) : Laws.OrderedReceivers.Statement (.loadAccounts q) :=
  Laws.orderedReceivers_request _ _ _ rfl rfl rfl rfl
theorem Laws.OrderedReceivers.beginCycle (q : Request) : Laws.OrderedReceivers.Statement (.beginCycle q) :=
  Laws.orderedReceivers_request _ _ _ rfl rfl rfl rfl
theorem Laws.OrderedReceivers.endCycle (q : Request) : Laws.OrderedReceivers.Statement (.endCycle q) :=
  Laws.orderedReceivers_request _ _ _ rfl rfl rfl rfl
theorem Laws.OrderedReceivers.readCycle (q : Request) : Laws.OrderedReceivers.Statement (.readCycle q) :=
  Laws.orderedReceivers_request _ _ _ rfl rfl rfl rfl
theorem Laws.OrderedReceivers.readProfile (q : Request) : Laws.OrderedReceivers.Statement (.readProfile q) :=
  Laws.orderedReceivers_request _ _ _ rfl rfl rfl rfl
theorem Laws.OrderedReceivers.readSettings (q : Request) : Laws.OrderedReceivers.Statement (.readSettings q) :=
  Laws.orderedReceivers_request _ _ _ rfl rfl rfl rfl

end Sys2Proof
end

