-- ==== Sys2Proof/Laws/Settled.lean ====
section
/-! SUPPORT. Outputs that are as their demand sets and permits give them stay so (R34): one lemma for each shared operation. -/

namespace Sys2Proof.Machine

/-! ### Operations that evaluate nothing and touch nothing an evaluation reads -/

@[simp] theorem State.withEngine_lanes_settled (s : State) (v : Option Nat) (a b : Timer) :
    (s.withEngine { lanes := s.engine.lanes, refVolume := v, fillNoFlow := a, waterDry := b }).settled = s.settled := rfl
@[simp] theorem State.withSoftener_settled (s : State) (v : Softener) : (s.withSoftener v).settled = s.settled := rfl
@[simp] theorem State.withDoor_settled (s : State) (v : DoorUnit) : (s.withDoor v).settled = s.settled := rfl
@[simp] theorem State.withDosing_settled (s : State) (v : Dosing) : (s.withDosing v).settled = s.settled := rfl
@[simp] theorem State.withDose_settled (s : State) (v : Option DoseRec) : (s.withDose v).settled = s.settled := rfl
@[simp] theorem State.withAccount_settled (s : State) (a : Agent) (v : StockAccount) :
    (s.withAccount a v).settled = s.settled := rfl
@[simp] theorem State.withTurb_settled (s : State) (v : Turbidity) : (s.withTurb v).settled = s.settled := rfl
@[simp] theorem State.withCycle_settled (s : State) (v : CycleRec) : (s.withCycle v).settled = s.settled := rfl
@[simp] theorem State.withEngine_settled (s : State) (v : Engine) : (s.withEngine v).settled = s.settled := rfl
@[simp] theorem State.withActions_settled (s : State) (v : List (Option ActionEntry)) :
    (s.withActions v).settled = s.settled := rfl
@[simp] theorem State.withPorts_settled (s : State) (v : PerPort PortRec) : (s.withPorts v).settled = s.settled := rfl
@[simp] theorem State.withPort_settled (s : State) (p : Port) (v : PortRec) : (s.withPort p v).settled = s.settled := rfl
@[simp] theorem State.setReply_settled (s : State) (p : Port) (r : Reply) : (s.setReply p r).settled = s.settled := rfl
@[simp] theorem State.withPins_settled (s : State) (v : Pins) : (s.withPins v).settled = s.settled := rfl
@[simp] theorem State.withPending_settled (s : State) (v : List Instr) : (s.withPending v).settled = s.settled := rfl
@[simp] theorem State.withLane_settled (s : State) (l : Lane) (v : LaneRec) : (s.withLane l v).settled = s.settled := rfl
@[simp] theorem State.modLane_settled (s : State) (l : Lane) (f : LaneRec → LaneRec) :
    (s.modLane l f).settled = s.settled := rfl
@[simp] theorem State.modHead_settled (s : State) (l : Lane) (f : StepRec → StepRec) :
    (s.modHead l f).settled = s.settled := rfl
@[simp] theorem State.modDose_settled (s : State) (f : DoseRec → DoseRec) : (s.modDose f).settled = s.settled :=
  State.settled_congr (by simp) (by simp)
@[simp] theorem State.modDoor_settled (s : State) (f : DoorUnit → DoorUnit) : (s.modDoor f).settled = s.settled := rfl
@[simp] theorem State.modSoftener_settled (s : State) (f : Softener → Softener) : (s.modSoftener f).settled = s.settled := rfl
@[simp] theorem State.modCheck_settled (s : State) (o : Checked) (f : CheckRec → CheckRec) :
    (s.modCheck o f).settled = s.settled := rfl
@[simp] theorem State.enterFor_settled (s : State) (set : List Port) (n : Notice) :
    (s.enterFor set n).settled = s.settled := rfl
@[simp] theorem State.raiseByClass_settled (s : State) (n : Notice) : (s.raiseByClass n).settled = s.settled := rfl
@[simp] theorem State.raiseToAll_settled (s : State) (n : Notice) : (s.raiseToAll n).settled = s.settled := rfl
@[simp] theorem State.raiseStep_settled (s : State) (l : Lane) (n : Notice) : (s.raiseStep l n).settled = s.settled :=
  State.settled_congr (by simp) (by simp)
@[simp] theorem State.raiseHalted_settled (s : State) (l : Lane) (n : Notice) : (s.raiseHalted l n).settled = s.settled := rfl
@[simp] theorem State.cycleEvent_settled (s : State) (f : CycleRec → CycleRec) :
    (s.cycleEvent f).settled = s.settled :=
  State.settled_congr (by simp) (by simp)
@[simp] theorem State.cycleWater_settled (s : State) (ml : Nat) :
    (s.cycleWater ml).settled = s.settled :=
  State.settled_congr (by simp) (by simp)
@[simp] theorem State.cycleStroke_settled (s : State) (a : Agent) (volume : Nat) :
    (s.cycleStroke a volume).settled = s.settled :=
  State.settled_congr (by simp) (by simp)
@[simp] theorem State.cycleRegen_settled (s : State) (full : Bool) :
    (s.cycleRegen full).settled = s.settled :=
  State.settled_congr (by simp) (by simp)
@[simp] theorem State.cycleFault_settled (s : State) :
    (s.cycleFault).settled = s.settled :=
  State.settled_congr (by simp) (by simp)
@[simp] theorem State.cyclePeak_settled (s : State) (t : Int) :
    (s.cyclePeak t).settled = s.settled :=
  State.settled_congr (by simp) (by simp)
@[simp] theorem State.raiseRegenPending_settled (s : State) :
    (s.raiseRegenPending).settled = s.settled :=
  State.settled_congr (by simp) (by simp)
@[simp] theorem State.pendingTest_settled (s : State) :
    (s.pendingTest).settled = s.settled :=
  State.settled_congr (by simp) (by simp)
@[simp] theorem State.debit_settled (s : State) (counts : Nat) :
    (s.debit counts).settled = s.settled :=
  State.settled_congr (by simp) (by simp)
@[simp] theorem State.softenerClosing_settled (s : State) (count : Nat) :
    (s.softenerClosing count).settled = s.settled :=
  State.settled_congr (by simp) (by simp)
@[simp] theorem State.pendingAtLoad_settled (s : State) :
    (s.pendingAtLoad).settled = s.settled :=
  State.settled_congr (by simp) (by simp)
@[simp] theorem State.restoreResin_settled (s : State) (full : Bool) :
    (s.restoreResin full).settled = s.settled :=
  State.settled_congr (by simp) (by simp)
@[simp] theorem State.releaseLane_settled (s : State) (l : Lane) :
    (s.releaseLane l).settled = s.settled :=
  State.settled_congr (by simp) (by simp)
@[simp] theorem State.releaseExclusion_settled (s : State) :
    (s.releaseExclusion).settled = s.settled :=
  State.settled_congr (by simp) (by simp)
@[simp] theorem State.dropDose_settled (s : State) (l : Lane) :
    (s.dropDose l).settled = s.settled :=
  State.settled_congr (by simp) (by simp)
@[simp] theorem State.setRefFrom_settled (s : State) (t : StepRec) :
    (s.setRefFrom t).settled = s.settled :=
  State.settled_congr (by simp) (by simp)
@[simp] theorem State.concludeSuccess_settled (s : State) (l : Lane) (flags : ResultFlags) :
    (s.concludeSuccess l flags).settled = s.settled :=
  State.settled_congr (by simp) (by simp)
@[simp] theorem State.failForGood_settled (s : State) (l : Lane) (result : StepResult) :
    (s.failForGood l result).settled = s.settled :=
  State.settled_congr (by simp) (by simp)
@[simp] theorem State.concludeCounted_settled (s : State) (l : Lane) (result : StepResult) :
    (s.concludeCounted l result).settled = s.settled :=
  State.settled_congr (by simp) (by simp)
@[simp] theorem State.raiseRodState_settled (s : State) (before : DoorUnit) (jam : JamCause) :
    (s.raiseRodState before jam).settled = s.settled :=
  State.settled_congr (by simp) (by simp)
@[simp] theorem State.setAjar_settled (s : State) (v : Bool) :
    (s.setAjar v).settled = s.settled :=
  State.settled_congr (by simp) (by simp)
@[simp] theorem State.beginExtend_settled (s : State) :
    (s.beginExtend).settled = s.settled :=
  State.settled_congr (by simp) (by simp)
@[simp] theorem State.rodHandOver_settled (s : State) :
    (s.rodHandOver).settled = s.settled :=
  State.settled_congr (by simp) (by simp)
@[simp] theorem State.extendGuard_settled (s : State) :
    (s.extendGuard).settled = s.settled :=
  State.settled_congr (by simp) (by simp)
@[simp] theorem State.endHold_settled (s : State) :
    (s.endHold).settled = s.settled :=
  State.settled_congr (by simp) (by simp)
@[simp] theorem State.doorOpened_settled (s : State) :
    (s.doorOpened).settled = s.settled :=
  State.settled_congr (by simp) (by simp)
@[simp] theorem State.rodSupplyLost_settled (s : State) :
    (s.rodSupplyLost).settled = s.settled :=
  State.settled_congr (by simp) (by simp)
@[simp] theorem State.rodSupplyReady_settled (s : State) :
    (s.rodSupplyReady).settled = s.settled :=
  State.settled_congr (by simp) (by simp)
@[simp] theorem State.startHoming_settled (s : State) (cause : HomingCause) :
    (s.startHoming cause).settled = s.settled :=
  State.settled_congr (by simp) (by simp)
@[simp] theorem State.lockHoming_settled (s : State) (closed : Bool) :
    (s.lockHoming closed).settled = s.settled :=
  State.settled_congr (by simp) (by simp)
@[simp] theorem State.rodTryEnd_settled (s : State) :
    (s.rodTryEnd).settled = s.settled :=
  State.settled_congr (by simp) (by simp)
@[simp] theorem State.doorUnitDoor_settled (s : State) (closed isEvent : Bool) :
    (s.doorUnitDoor closed isEvent).settled = s.settled :=
  State.settled_congr (by simp) (by simp)
@[simp] theorem State.checkOutput_settled (s : State) (o : Checked) (on : Bool) :
    (s.checkOutput o on).settled = s.settled :=
  State.settled_congr (by simp) (by simp)
@[simp] theorem State.checkSense_settled (s : State) (o : Checked) (sense : Bool) :
    (s.checkSense o sense).settled = s.settled :=
  State.settled_congr (by simp) (by simp)
@[simp] theorem State.strayOpening_settled (s : State) :
    (s.strayOpening).settled = s.settled :=
  State.settled_congr (by simp) (by simp)
@[simp] theorem State.strayClosing_settled (s : State) :
    (s.strayClosing).settled = s.settled :=
  State.settled_congr (by simp) (by simp)
@[simp] theorem State.startNoFlow_settled (s : State) :
    (s.startNoFlow).settled = s.settled :=
  State.settled_congr (by simp) (by simp)
@[simp] theorem State.stopNoFlow_settled (s : State) :
    (s.stopNoFlow).settled = s.settled :=
  State.settled_congr (by simp) (by simp)
@[simp] theorem State.inletOpening_settled (s : State) :
    (s.inletOpening).settled = s.settled :=
  State.settled_congr (by simp) (by simp)
@[simp] theorem State.inletClosing_settled (s : State) :
    (s.inletClosing).settled = s.settled :=
  State.settled_congr (by simp) (by simp)
@[simp] theorem State.autoOpenHeater_settled (s : State) :
    (s.autoOpenHeater).settled = s.settled :=
  State.settled_congr (by simp) (by simp)
@[simp] theorem State.heaterEvent_settled (s : State) (on : Bool) :
    (s.heaterEvent on).settled = s.settled :=
  State.settled_congr (by simp) (by simp)
@[simp] theorem State.pumpEvent_settled (s : State) (a : Agent) (on : Bool) :
    (s.pumpEvent a on).settled = s.settled :=
  State.settled_congr (by simp) (by simp)
@[simp] theorem State.outputEvent_settled (s : State) (o : Output) (on : Bool) :
    (s.outputEvent o on).settled = s.settled :=
  State.settled_congr (by simp) (by simp)

/-! ### Operations that end in an evaluation, or that keep the outputs as one left them -/

/-! ### Demand sets -/

/-! ### The resin account -/

/-! ### The lane records -/

/-! ### The rod -/

/-! ### Output events and the evaluation -/

/-! ### Stock accounts -/

@[simp] theorem State.evalLevel_settled (s : State) (a : Agent) (h : s.settled = true) :
    (s.evalLevel a).settled = true := by
  unfold State.evalLevel
  dsimp only
  (repeat' split) <;> simp [h]
@[simp] theorem State.setStock_settled (s : State) (a : Agent) (stock : Nat) (h : s.settled = true) :
    (s.setStock a stock).settled = true := by
  simp [State.setStock, h]
@[simp] theorem State.declareStock_settled (s : State) (a : Agent) (stock : Nat) (h : s.settled = true) :
    (s.declareStock a stock).settled = true := by
  simp [State.declareStock, h]
@[simp] theorem State.applyHeld_settled (s : State) (a : Agent) (h : s.settled = true) :
    (s.applyHeld a).settled = true := by
  unfold State.applyHeld
  split <;> simp [h]
@[simp] theorem State.countStroke_settled (s : State) (r : DoseRec) (h : s.settled = true) :
    (s.countStroke r).settled = true := by
  unfold State.countStroke
  dsimp only
  split <;> simp [h]
@[simp] theorem State.judgeStroke_settled (s : State) (r : DoseRec) (h : s.settled = true) :
    (s.judgeStroke r).settled = true := by
  unfold State.judgeStroke
  split <;> simp [h]
@[simp] theorem State.doseTryEnd_settled (s : State) (h : s.settled = true) :
    (s.doseTryEnd).settled = true := by
  unfold State.doseTryEnd
  (repeat' split) <;> simp [h]

/-! ### The ends of a try -/

@[simp] theorem State.withdrawAll_settled (s : State) (src : Source) :
    (s.withdrawAll src).settled = true := by
  simp [State.withdrawAll]
@[simp] theorem State.enterDemands_settled (s : State) (src : Source) (os : List Output) :
    (s.enterDemands src os).settled = true := by
  simp [State.enterDemands]
@[simp] theorem State.endRegen_settled (s : State) (h : s.settled = true) :
    (s.endRegen).settled = true := by
  simp [State.endRegen, h]
@[simp] theorem State.abandonRegen_settled (s : State) (h : s.settled = true) :
    (s.abandonRegen).settled = true := by
  unfold State.abandonRegen
  split <;> simp [h]
@[simp] theorem State.dropDoseRequest_settled (s : State) (h : s.settled = true) :
    (s.dropDoseRequest).settled = true := by
  simp [State.dropDoseRequest, h]
@[simp] theorem State.tellTryEnd_settled (s : State) (l : Lane) (h : s.settled = true) :
    (s.tellTryEnd l).settled = true := by
  unfold State.tellTryEnd
  (repeat' split) <;> simp [h]
@[simp] theorem State.tryEnd_settled (s : State) (l : Lane) :
    (s.tryEnd l).settled = true := by
  have h1 := s.withdrawAll_settled l.source
  have h2 := (s.withdrawAll l.source).tellTryEnd_settled l h1
  unfold State.tryEnd
  cases l
  · exact h2
  · exact h2
@[simp] theorem State.succeed_settled (s : State) (l : Lane) (flags : ResultFlags) (actual : Option Nat) :
    (s.succeed l flags actual).settled = true := by
  unfold State.succeed
  split <;> simp
@[simp] theorem State.endCounted_settled (s : State) (l : Lane) (result : StepResult) :
    (s.endCounted l result).settled = true := by
  simp [State.endCounted]
@[simp] theorem State.failCounted_settled (s : State) (l : Lane) (result : StepResult) (h : s.settled = true) :
    (s.failCounted l result).settled = true := by
  unfold State.failCounted
  split <;> simp [h]
@[simp] theorem State.failImmediate_settled (s : State) (l : Lane) (result : StepResult) (h : s.settled = true) :
    (s.failImmediate l result).settled = true := by
  unfold State.failImmediate
  split <;> simp [h]
@[simp] theorem State.guardReportLane_settled (s : State) (result : StepResult) (l : Lane) (h : s.settled = true) :
    (s.guardReportLane result l).settled = true := by
  unfold State.guardReportLane
  split <;> simp [h]
@[simp] theorem State.guardReport_settled (s : State) (result : StepResult) (h : s.settled = true) :
    (s.guardReport result).settled = true := by
  simp [State.guardReport, h]
@[simp] theorem State.endTest_settled (s : State) (h : s.settled = true) :
    (s.endTest).settled = true := by
  unfold State.endTest
  split <;> simp [h]
@[simp] theorem State.withdrawActions_settled (s : State) :
    (s.withdrawActions).settled = true := by
  simp [State.withdrawActions]

/-! ### Doses -/

@[simp] theorem State.requestSample_settled (s : State) (port : Option Port) (dose : Bool) (h : s.settled = true) :
    (s.requestSample port dose).settled = true := by
  unfold State.requestSample
  dsimp only
  split <;> simp [h]
@[simp] theorem State.computeDose_settled (s : State) (soilClass : Option Nat) (h : s.settled = true) :
    (s.computeDose soilClass).settled = true := by
  simp [State.computeDose, h]
@[simp] theorem State.findClass_settled (s : State) (r : DoseRec) (h : s.settled = true) :
    (s.findClass r).settled = true := by
  unfold State.findClass
  (repeat' split) <;> simp [h]
@[simp] theorem State.setTryTarget_settled (s : State) (h : s.settled = true) :
    (s.setTryTarget).settled = true := by
  simp [State.setTryTarget, h]
@[simp] theorem State.issueStroke_settled (s : State) (a : Agent) :
    (s.issueStroke a).settled = true := by
  simp [State.issueStroke]
@[simp] theorem State.endDose_settled (s : State) (o : Outcome) (h : s.settled = true) :
    (s.endDose o).settled = true := by
  unfold State.endDose
  split <;> simp [h]
@[simp] theorem State.strokeDue_settled (s : State) (h : s.settled = true) :
    (s.strokeDue).settled = true := by
  unfold State.strokeDue
  (repeat' split) <;> simp [h]
@[simp] theorem State.startDoseDry_settled (s : State) (h : s.settled = true) :
    (s.startDoseDry).settled = true := by
  simp [State.startDoseDry, h]
@[simp] theorem State.doseWork_settled (s : State) (h : s.settled = true) :
    (s.doseWork).settled = true := by
  unfold State.doseWork
  split <;> simp [h]
@[simp] theorem State.dosePause_settled (s : State) (supply : Bool) (h : s.settled = true) :
    (s.dosePause supply).settled = true := by
  unfold State.dosePause
  split <;> simp [h]
@[simp] theorem State.restStroke_settled (s : State) (h : s.settled = true) :
    (s.restStroke).settled = true := by
  simp [State.restStroke, h]
@[simp] theorem State.strokeEnds_settled (s : State) :
    (s.strokeEnds).settled = true := by
  have h1 := (s.modDose (fun r => { r with onTimer := none })).withdrawAll_settled .dose
  unfold State.strokeEnds
  dsimp only
  (repeat' split) <;> simp [h1]

/-! ### Regenerations -/

@[simp] theorem State.regenHandOver_settled (s : State) (h : s.settled = true) :
    (s.regenHandOver).settled = true := by
  simp [State.regenHandOver, h]
@[simp] theorem State.raiseRegenDone_settled (s : State) (full : Bool) (h : s.settled = true) :
    (s.raiseRegenDone full).settled = true := by
  simp [State.raiseRegenDone, h]
@[simp] theorem State.regenComplete_settled (s : State) (short : Bool) :
    (s.regenComplete short).settled = true := by
  exact State.succeed_settled _ _ _ _
@[simp] theorem State.rinseOrComplete_settled (s : State) :
    (s.rinseOrComplete).settled = true := by
  unfold State.rinseOrComplete
  split <;> simp
@[simp] theorem State.regenResume_settled (s : State) (h : s.settled = true) :
    (s.regenResume).settled = true := by
  unfold State.regenResume
  split <;> simp [h]
@[simp] theorem State.brineEnds_settled (s : State) :
    (s.brineEnds).settled = true := by
  simp [State.brineEnds]
@[simp] theorem State.soakEnds_settled (s : State) :
    (s.soakEnds).settled = true := by
  simp [State.soakEnds]
@[simp] theorem State.regenActual_settled (s : State) (h : s.settled = true) :
    (s.regenActual).settled = true := by
  simp [State.regenActual, h]
@[simp] theorem State.regenEdge_settled (s : State) (h : s.settled = true) :
    (s.regenEdge).settled = true := by
  unfold State.regenEdge
  dsimp only
  (repeat' split) <;> simp [h]
@[simp] theorem State.softenerLevelHigh_settled (s : State) (reached : Bool) (h : s.settled = true) :
    (s.softenerLevelHigh reached).settled = true := by
  unfold State.softenerLevelHigh
  split <;> simp [h]

/-! ### What the Door Unit settles -/

@[simp] theorem State.errandDone_settled (s : State) (h : s.settled = true) :
    (s.errandDone).settled = true := by
  simp [State.errandDone, h]
@[simp] theorem State.rodSuccess_settled (s : State) (flags : ResultFlags) (actual : Nat) (h : s.settled = true) :
    (s.rodSuccess flags actual).settled = true := by
  unfold State.rodSuccess
  split <;> simp [h]
@[simp] theorem State.rodBlocked_settled (s : State) (h : s.settled = true) :
    (s.rodBlocked).settled = true := by
  unfold State.rodBlocked
  split <;> simp [h]
@[simp] theorem State.rodOpened_settled (s : State) (h : s.settled = true) :
    (s.rodOpened).settled = true := by
  unfold State.rodOpened
  split <;> simp [h]
@[simp] theorem State.rodRestart_settled (s : State) (h : s.settled = true) :
    (s.rodRestart).settled = true := by
  unfold State.rodRestart
  (repeat' split) <;> simp [h]
@[simp] theorem State.rodAtHome_settled (s : State) (h : s.settled = true) :
    (s.rodAtHome).settled = true := by
  unfold State.rodAtHome
  (repeat' split) <;> simp [h]
@[simp] theorem State.rodJam_settled (s : State) (jam : JamCause) (h : s.settled = true) :
    (s.rodJam jam).settled = true := by
  unfold State.rodJam
  dsimp only
  split <;> simp [h]
@[simp] theorem State.rodOcAsserted_settled (s : State) (h : s.settled = true) :
    (s.rodOcAsserted).settled = true := by
  unfold State.rodOcAsserted
  split <;> simp [h]
@[simp] theorem State.beginRetract_settled (s : State) (h : s.settled = true) :
    (s.beginRetract).settled = true := by
  unfold State.beginRetract
  (repeat' split) <;> simp [h]
@[simp] theorem State.deadTimeEnds_settled (s : State) (h : s.settled = true) :
    (s.deadTimeEnds).settled = true := by
  unfold State.deadTimeEnds
  (repeat' split) <;> simp [h]
@[simp] theorem State.rodPauseEnd_settled (s : State) (h : s.settled = true) :
    (s.rodPauseEnd).settled = true := by
  unfold State.rodPauseEnd
  (repeat' split) <;> simp [h]
@[simp] theorem State.doorUnitHome_settled (s : State) (closed isEvent : Bool) (h : s.settled = true) :
    (s.doorUnitHome closed isEvent).settled = true := by
  unfold State.doorUnitHome
  (repeat' split) <;> simp [h]

/-! ### Starts and pauses -/

@[simp] theorem State.setDiverter_settled (s : State) (d : Diverter) (h : s.settled = true) :
    (s.setDiverter d).settled = true := by
  exact h
@[simp] theorem State.prepare_settled (s : State) (l : Lane) (t : StepRec) (first : Bool) (h : s.settled = true) :
    (s.prepare l t first).settled = true := by
  unfold State.prepare
  dsimp only
  (repeat' split) <;> simp [h]
@[simp] theorem State.heatReading_settled (s : State) (l : Lane) (h : s.settled = true) :
    (s.heatReading l).settled = true := by
  unfold State.heatReading
  split <;> simp [h]
@[simp] theorem State.runSetup_settled (s : State) (l : Lane) (w : Work) (h : s.settled = true) :
    (s.runSetup l w).settled = true := by
  unfold State.runSetup
  split <;> simp [h]
@[simp] theorem State.enterKind_settled (s : State) (w : Work) (h : s.settled = true) :
    (s.enterKind w).settled = true := by
  unfold State.enterKind
  split <;> simp [h]
@[simp] theorem State.runKind_settled (s : State) (l : Lane) (w : Work) (h : s.settled = true) :
    (s.runKind l w).settled = true := by
  simp [State.runKind, h]
@[simp] theorem State.pauseAtStart_settled (s : State) (l : Lane) (fromWait : Bool) (h : s.settled = true) :
    (s.pauseAtStart l fromWait).settled = true := by
  simp [State.pauseAtStart, h]
@[simp] theorem State.takeOutcome_settled (s : State) (l : Lane) (w : Work) (door : Bool) (o : Outcome) (h : s.settled = true) :
    (s.takeOutcome l w door o).settled = true := by
  unfold State.takeOutcome
  (repeat' split) <;> simp [h]
@[simp] theorem State.beginTry_settled (s : State) (l : Lane) (t : StepRec) (h : s.settled = true) :
    (s.beginTry l t).settled = true := by
  have h1 := ((s.modHead l (fun t => { t with status := .active, started := true })).modLane l (fun r =>
    { r with state := .running, waitCause := none, running := 0, attemptDue := false })).endTest_settled (by simp [h])
  unfold State.beginTry
  dsimp only
  split <;> simp [h1]
@[simp] theorem State.deferLane_settled (s : State) (l : Lane) (cause : WaitCause) (h : s.settled = true) :
    (s.deferLane l cause).settled = true := by
  simp [State.deferLane, h]
@[simp] theorem State.haltLane_settled (s : State) (l : Lane) (t : StepRec) (h : s.settled = true) :
    (s.haltLane l t).settled = true := by
  simp [State.haltLane, h]
@[simp] theorem State.attempt_settled (s : State) (l : Lane) (h : s.settled = true) :
    (s.attempt l).settled = true := by
  unfold State.attempt
  (repeat' split) <;> simp [h]
@[simp] theorem State.attemptInOrder_settled (s : State) (l : Lane) (h : s.settled = true) :
    (s.attemptInOrder l).settled = true := by
  unfold State.attemptInOrder
  dsimp only
  (repeat' split) <;> simp [h]
@[simp] theorem State.retest_settled (s : State) (l : Lane) (h : s.settled = true) :
    (s.retest l).settled = true := by
  unfold State.retest
  (repeat' split) <;> simp [h]
@[simp] theorem State.pauseKind_settled (s : State) (l : Lane) (supply : Bool) (h : s.settled = true) :
    (s.pauseKind l supply).settled = true := by
  unfold State.pauseKind
  (repeat' split) <;> simp [h]
@[simp] theorem State.addCause_settled (s : State) (l : Lane) (supply : Bool) (h : s.settled = true) :
    (s.addCause l supply).settled = true := by
  unfold State.addCause
  dsimp only
  split <;> simp [h]
@[simp] theorem State.removeCause_settled (s : State) (l : Lane) (supply : Bool) (h : s.settled = true) :
    (s.removeCause l supply).settled = true := by
  unfold State.removeCause
  dsimp only
  (repeat' split) <;> simp [h]
@[simp] theorem State.fillStopped_settled (s : State) (t : StepRec) :
    (s.fillStopped t).settled = true := by
  simp [State.fillStopped]
@[simp] theorem State.startWaterDry_settled (s : State) (h : s.settled = true) :
    (s.startWaterDry).settled = true := by
  simp [State.startWaterDry, h]
@[simp] theorem State.redivert_settled (s : State) (l : Lane) (h : s.settled = true) :
    (s.redivert l).settled = true := by
  unfold State.redivert
  (repeat' split) <;> simp [h]
@[simp] theorem State.resumePumping_settled (s : State) (w : Work) (h : s.settled = true) :
    (s.resumePumping w).settled = true := by
  have h1 := s.enterKind_settled w h
  unfold State.resumePumping
  dsimp only
  split <;> simp [h1]
@[simp] theorem State.resumeKind_settled (s : State) (t : StepRec) (h : s.settled = true) :
    (s.resumeKind t).settled = true := by
  unfold State.resumeKind
  (repeat' split) <;> simp [h]
@[simp] theorem State.pauseEnds_settled (s : State) (l : Lane) (h : s.settled = true) :
    (s.pauseEnds l).settled = true := by
  unfold State.pauseEnds
  dsimp only
  (repeat' split) <;> simp (maxDischargeDepth := 12) [h]

/-! ### Events handed to the blocks -/

@[simp] theorem State.floodStarts_settled (s : State) :
    (s.floodStarts).settled = true := by
  simp [State.floodStarts]
@[simp] theorem State.floodEnds_settled (s : State) :
    (s.floodEnds).settled = true := by
  simp [State.floodEnds]
@[simp] theorem State.guardFloat_settled (s : State) (clear isEvent : Bool) :
    (s.guardFloat clear isEvent).settled = true := by
  unfold State.guardFloat
  (repeat' split) <;> simp
@[simp] theorem State.latchFault_settled (s : State) (o : LatchOutput) :
    (s.latchFault o).settled = true := by
  simp [State.latchFault]
@[simp] theorem State.outputFault_settled (s : State) (o : Output) (kind : Nat) (h : s.settled = true) :
    (s.outputFault o kind).settled = true := by
  simp [State.outputFault, h]
@[simp] theorem State.supplyBack_settled (s : State) (l : Lane) (h : s.settled = true) :
    (s.supplyBack l).settled = true := by
  unfold State.supplyBack
  split
  · exact h
  · exact h
@[simp] theorem State.engineSupply_settled (s : State) (ready : Bool) (h : s.settled = true) :
    (s.engineSupply ready).settled = true := by
  unfold State.engineSupply
  split
  · have h1 := (s.removeCause .water true).supplyBack_settled .water (by simp [h])
    simp [h1]
  · simp [h]
@[simp] theorem State.supplyTo_settled (s : State) (cause : Option LossCause) (r : Receiver) (h : s.settled = true) :
    (State.supplyTo cause r s).settled = true := by
  unfold State.supplyTo
  (repeat' split) <;> simp [h]
@[simp] theorem State.engineDoor_settled (s : State) (closed isEvent : Bool) (h : s.settled = true) :
    (s.engineDoor closed isEvent).settled = true := by
  have h1 : ∀ u : State, u.settled = true → ((u.retest .water).retest .dose).settled = true :=
    fun u hu => (u.retest .water).retest_settled .dose (u.retest_settled .water hu)
  unfold State.engineDoor
  exact h1 _ (by (repeat' split) <;> simp [h])
@[simp] theorem State.drainLevel_settled (s : State) (runOn : Nat) (wet isEvent : Bool) (h : s.settled = true) :
    (s.drainLevel runOn wet isEvent).settled = true := by
  unfold State.drainLevel
  (repeat' split) <;> simp [h]
@[simp] theorem State.pumpingLevel_settled (s : State) (wet isEvent : Bool) (h : s.settled = true) :
    (s.pumpingLevel wet isEvent).settled = true := by
  unfold State.pumpingLevel
  (repeat' split) <;> simp [h]
@[simp] theorem State.waterLevelLow_settled (s : State) (wet isEvent : Bool) (h : s.settled = true) :
    (s.waterLevelLow wet isEvent).settled = true := by
  unfold State.waterLevelLow
  (repeat' split) <;> simp [h]
@[simp] theorem State.doseLevelLow_settled (s : State) (wet isEvent : Bool) (h : s.settled = true) :
    (s.doseLevelLow wet isEvent).settled = true := by
  unfold State.doseLevelLow
  dsimp only
  (repeat' split) <;> simp [h]
@[simp] theorem State.engineLevelHigh_settled (s : State) (reached : Bool) (h : s.settled = true) :
    (s.engineLevelHigh reached).settled = true := by
  unfold State.engineLevelHigh
  (repeat' split) <;> simp [h]
@[simp] theorem State.engineInput_settled (s : State) (i : Input) (level isEvent : Bool) (h : s.settled = true) :
    (s.engineInput i level isEvent).settled = true := by
  unfold State.engineInput
  split <;> simp [h]
@[simp] theorem State.doorUnitInput_settled (s : State) (i : Input) (level isEvent : Bool) (h : s.settled = true) :
    (s.doorUnitInput i level isEvent).settled = true := by
  unfold State.doorUnitInput
  (repeat' split) <;> simp [h]
@[simp] theorem State.raiseInputChanged_settled (s : State) (i : Input) (level : Bool) (h : s.settled = true) :
    (s.raiseInputChanged i level).settled = true := by
  simp [State.raiseInputChanged, h]
@[simp] theorem State.inputTo_settled (s : State) (i : Input) (level isEvent : Bool) (r : Receiver) (h : s.settled = true) :
    (State.inputTo i level isEvent r s).settled = true := by
  unfold State.inputTo
  (repeat' split) <;> simp [h]
@[simp] theorem State.heatSample_settled (s : State) (h : s.settled = true) :
    (s.heatSample).settled = true := by
  unfold State.heatSample
  (repeat' split) <;> simp [h]
@[simp] theorem State.sampleTo_settled (s : State) (kind : Option NoticeKind) (code : Code) (r : Receiver) (h : s.settled = true) :
    (State.sampleTo kind code r s).settled = true := by
  unfold State.sampleTo
  (repeat' split) <;> simp [h]

/-! ### The Action Table -/

@[simp] theorem State.resumeHeld_settled (s : State) (l : Lane) (h : s.settled = true) :
    (s.resumeHeld l).settled = true := by
  unfold State.resumeHeld
  split
  · exact h
  · exact h
@[simp] theorem State.actionHandOn_settled (s : State) (e : ActionEntry) (h : s.settled = true) :
    (s.actionHandOn e).settled = true := by
  unfold State.actionHandOn
  (repeat' split) <;> simp [h]
@[simp] theorem State.executeEntry_settled (s : State) (slot : Nat) (e : ActionEntry) (h : s.settled = true) :
    (s.executeEntry slot e).settled = true := by
  unfold State.executeEntry
  split <;> simp [h]
@[simp] theorem State.executeSet_settled (s : State) (entries : List (Nat × ActionEntry)) :
    (s.executeSet entries).settled = true := by
  have he : ∀ (es : List (Nat × ActionEntry)) (u : State), u.settled = true →
      (es.foldl (fun s e => s.executeEntry e.1 e.2) u).settled = true := by
    intro es
    induction es with
    | nil => intro u hu; exact hu
    | cons e es ih => intro u hu; exact ih _ (by simp [hu])
  exact he _ _ (State.evaluate_settled _)

/-! ### Delivery -/

/-- An event that reaches the Guard leaves the outputs settled, whatever the order of its receivers. -/
theorem deliver_settles (act : Receiver → State → State) (hg : ∀ s, (act .guard s).settled = true)
    (hk : ∀ r s, s.settled = true → (act r s).settled = true) (order left : List Receiver) (s : State)
    (h : Receiver.guard ∈ left ∨ s.settled = true) : (deliver act order left s).settled = true := by
  induction order generalizing left s with
  | nil =>
    simp only [deliver]
    induction left generalizing s with
    | nil => simpa using h
    | cons r rest ih =>
      rw [List.foldl_cons]
      refine ih _ ?_
      rcases h with h | h
      · rcases List.mem_cons.1 h with rfl | h
        · exact .inr (hg s)
        · exact .inl h
      · exact .inr (hk r s h)
  | cons r rest ih =>
    simp only [deliver]
    split
    · refine ih _ _ ?_
      rcases h with h | h
      · by_cases hr : r = .guard
        · subst hr; exact .inr (hg s)
        · exact .inl ((List.mem_erase_of_ne (Ne.symm hr)).2 h)
      · exact .inr (hk r s h)
    · exact ih _ _ h

/-- Every receiver's act keeps settled outputs, so a delivery does. -/
theorem deliver_settled (act : Receiver → State → State) (hk : ∀ r s, s.settled = true → (act r s).settled = true)
    (order left : List Receiver) (s : State) (h : s.settled = true) : (deliver act order left s).settled = true := by
  induction order generalizing left s with
  | nil =>
    simp only [deliver]
    induction left generalizing s with
    | nil => simpa using h
    | cons r rest ih => exact ih _ (hk r s h)
  | cons r rest ih =>
    simp only [deliver]
    split
    · exact ih _ _ (hk r s h)
    · exact ih _ _ h

/-- R13 and R14: a change of the supply leaves the outputs settled. -/
@[simp] theorem deliver_supplyTo_settled (cause : Option LossCause) (order : List Receiver) (s : State) :
    (deliver (State.supplyTo cause) order Receiver.ofSupply s).settled = true :=
  deliver_settles _ (fun s => s.evaluate_settled.symm ▸ by simp [State.supplyTo])
    (fun r s h => s.supplyTo_settled cause r h) order _ s (.inl (by decide))

/-- R26: a temperature sample leaves the outputs settled. -/
@[simp] theorem deliver_sampleTo_settled (kind : Option NoticeKind) (code : Code) (order : List Receiver) (s : State) :
    (deliver (State.sampleTo kind code) order Receiver.ofSample s).settled = true :=
  deliver_settles _ (fun s => by simp [State.sampleTo]) (fun r s h => s.sampleTo_settled kind code r h) order _ s
    (.inl (by decide))

/-- R19: an input event or settle report that the Guard takes leaves the outputs settled. -/
theorem deliver_inputTo_settled (i : Input) (level isEvent : Bool) (order : List Receiver) (s : State)
    (h : Receiver.guard ∈ Receiver.ofInput i ∨ s.settled = true) :
    (deliver (State.inputTo i level isEvent) order (Receiver.ofInput i) s).settled = true := by
  refine deliver_settles _ (fun s => ?_) (fun r s hs => s.inputTo_settled i level isEvent r hs) order _ s h
  cases i <;> simp [State.inputTo, State.guardFloat]
  (repeat' split) <;> simp

end Sys2Proof.Machine
end

