-- ==== Sys2Proof/Laws/Requests.lean ====
section
/-! SUPPORT. What the frame of a request can do (R156), a step, and the bytes of a field (R172). -/

namespace Sys2Proof.Machine

/-! ### A step -/

theorem step_front (s : State) (c : Instr) (rest : List Instr) (h : s.pending = c :: rest) :
    step s = exec c (s.withPending rest) := by simp [step, h]

theorem step_idle (s : State) (h : s.pending = []) : step s = .next s := by simp [step, h]

/-! ### The frame of a request -/

theorem unlessHeld_held (s : State) (k : State → State) (h : s.resetHeld = true) : unlessHeld s k = .next s := by
  simp [unlessHeld, h]

theorem unlessHeld_free (s : State) (k : State → State) (h : s.resetHeld = false) : unlessHeld s k = .next (k s) := by
  simp [unlessHeld, h]

/-- R154 and R164: all that the end of an exchange can do: nothing while RESET_N holds the part, the end of the wait that a reset left, or
what the port makes of the bytes. -/
theorem takeExchange_cases (p : Port) (s t : State) (k : State → State) (ht : takeExchange p s k = .next t) :
    (s.resetHeld = true ∧ t = s) ∨ (s.resetHeld = false ∧ (s.port p).waitCs = true ∧ t = s.endWait p)
    ∨ (s.resetHeld = false ∧ (s.port p).waitCs = false ∧ t = k s) := by
  simp only [takeExchange, unlessHeld, Host.Outcome.next.injEq] at ht
  subst ht
  cases s.resetHeld <;> cases (s.port p).waitCs <;> simp

/-- R154: the end of an exchange that the port takes. -/
theorem takeExchange_taken (p : Port) (s : State) (k : State → State) (hr : s.resetHeld = false)
    (hw : (s.port p).waitCs = false) : takeExchange p s k = .next (k s) := by
  simp [takeExchange, unlessHeld, hr, hw]

/-- R164: the end of an exchange that a reset cut. -/
theorem takeExchange_cut (p : Port) (s : State) (k : State → State) (hr : s.resetHeld = false)
    (hw : (s.port p).waitCs = true) : takeExchange p s k = .next (s.endWait p) := by
  simp [takeExchange, unlessHeld, hr, hw]

/-- R154: an exchange of so many bytes shifts out as many. -/
@[simp] theorem State.shiftsOut_length (s : State) (p : Port) (n : Nat) : (s.shiftsOut p n).length = n := by
  simp only [State.shiftsOut, List.length_append, List.length_take, List.length_replicate]
  omega

/-- R156: all that a request can do: nothing while RESET_N holds the part, the end of the wait that a reset left, NOT_PERMITTED, BAD_FIELD
for its length, or its block's answer. -/
theorem serve_cases (cls : RightsClass) (len : Nat) (q : Request) (h : State → Answer) (s t : State)
    (ht : serve cls len q h s = .next t) :
    (s.resetHeld = true ∧ t = s)
    ∨ (s.resetHeld = false ∧ (s.port q.port).waitCs = true ∧ t = s.endWait q.port)
    ∨ (s.resetHeld = false ∧ (s.port q.port).rights.has cls = false
        ∧ t = s.setReply q.port { status := .notPermitted, tag := q.tag, payload := [] })
    ∨ (s.resetHeld = false ∧ (s.port q.port).rights.has cls = true ∧ q.payload.length ≠ len
        ∧ t = s.setReply q.port { status := .badField, tag := q.tag, payload := [] })
    ∨ (s.resetHeld = false ∧ (s.port q.port).rights.has cls = true ∧ q.payload.length = len
        ∧ t = (h s).state.setReply q.port { status := (h s).status, tag := q.tag, payload := (h s).payload }) := by
  rcases takeExchange_cases _ _ _ _ ht with ⟨hr, rfl⟩ | ⟨hr, hw, rfl⟩ | ⟨hr, -, rfl⟩
  · exact .inl ⟨hr, rfl⟩
  · exact .inr (.inl ⟨hr, hw, rfl⟩)
  · right; right
    cases hc : (s.port q.port).rights.has cls
    · left
      simp [portAnswer, hc, State.say, hr]
    · by_cases hl : q.payload.length = len
      · right; right
        simp [portAnswer, hc, hl, hr]
      · right; left
        simp [portAnswer, hc, hl, State.say, hr]

/-- R156: a request that the port hands on. -/
theorem serve_handed (cls : RightsClass) (len : Nat) (q : Request) (h : State → Answer) (s : State)
    (hr : s.resetHeld = false) (hw : (s.port q.port).waitCs = false) (hc : (s.port q.port).rights.has cls = true) (hl : q.payload.length = len) :
    serve cls len q h s
      = .next ((h s).state.setReply q.port { status := (h s).status, tag := q.tag, payload := (h s).payload }) := by
  simp [serve, takeExchange_taken _ _ _ hr hw, portAnswer, hc, hl]

/-- A request keeps what its answer, every reply and the end of a wait keep. -/
theorem serve_keeps (P : State → Prop) (hP : ∀ s p r, P s → P (s.setReply p r)) (hW : ∀ s p, P s → P (s.endWait p)) {cls : RightsClass} {len : Nat}
    {q : Request} {h : State → Answer} {s t : State} (hs : P s) (hh : s.resetHeld = false → P (h s).state)
    (ht : serve cls len q h s = .next t) : P t := by
  rcases serve_cases _ _ _ _ _ _ ht with ⟨_, rfl⟩ | ⟨_, _, rfl⟩ | ⟨_, _, rfl⟩ | ⟨_, _, _, rfl⟩ | ⟨hr, _, _, rfl⟩
  · exact hs
  · exact hW _ _ hs
  · exact hP _ _ _ hs
  · exact hP _ _ _ hs
  · exact hP _ _ _ (hh hr)

/-- An event keeps what its act keeps. -/
theorem unlessHeld_keeps (P : State → Prop) {k : State → State} {s t : State} (hs : P s)
    (hk : s.resetHeld = false → P (k s)) (ht : unlessHeld s k = .next t) : P t := by
  simp only [unlessHeld, Host.Outcome.next.injEq] at ht
  subst ht
  cases hr : s.resetHeld <;> simp [hr, hs, hk]

/-- An answer to a request that names a lane keeps what the lane's answer keeps. -/
theorem withNamedLane_keeps (P : State → Prop) (q : Request) (h : Lane → State → Answer) (s : State) (hs : P s)
    (hh : ∀ l, P (h l s).state) : P (withNamedLane q h s).state := by
  unfold withNamedLane
  split
  · exact hs
  · exact hh _

/-- An answer to a request that only the holder may make keeps what the holder's answer keeps. -/
theorem asHolder_keeps (P : State → Prop) (q : Request) (h : Lane → State → Answer) (s : State) (hs : P s)
    (hh : ∀ l, P (h l s).state) : P (asHolder q h s).state := by
  refine withNamedLane_keeps P q _ s hs (fun l => ?_)
  split
  · exact hh l
  · exact hs

/-- A page of a stream changes no state. -/
@[simp] theorem State.sayPage_state (s : State) (page : Nat) (stream : List Byte) : (s.sayPage page stream).state = s := by
  unfold State.sayPage
  dsimp only
  split <;> rfl

/-- A reply changes nothing of the surroundings but the face of its port. -/
theorem State.setReply_routing (s : State) (p k : Port) (r : Reply) :
    ((s.setReply p r).port k).queue = (s.port k).queue ∧ ((s.setReply p r).port k).rights = (s.port k).rights := by
  cases p <;> cases k <;> exact ⟨rfl, rfl⟩

@[simp] theorem State.setReply_reply (s : State) (p : Port) (r : Reply) : ((s.setReply p r).port p).reply = r := by
  simp [State.setReply]
@[simp] theorem State.setReply_bounded (s : State) (p : Port) (r : Reply) : (s.setReply p r).bounded = s.bounded := by
  cases p <;> rfl
@[simp] theorem State.setReply_time (s : State) (p : Port) (r : Reply) : (s.setReply p r).time = s.time := rfl
@[simp] theorem State.setReply_guard (s : State) (p : Port) (r : Reply) : (s.setReply p r).guard = s.guard := rfl
@[simp] theorem State.setReply_engine (s : State) (p : Port) (r : Reply) : (s.setReply p r).engine = s.engine := rfl
@[simp] theorem State.setReply_store (s : State) (p : Port) (r : Reply) : (s.setReply p r).store = s.store := rfl
@[simp] theorem State.setReply_resetHeld (s : State) (p : Port) (r : Reply) : (s.setReply p r).resetHeld = s.resetHeld := rfl
@[simp] theorem State.setReply_pending (s : State) (p : Port) (r : Reply) : (s.setReply p r).pending = s.pending := rfl

/-! ### The bytes of a field (R172) -/

@[simp] theorem be_length (w n : Nat) : (be w n).length = w := by
  induction w generalizing n with
  | zero => rfl
  | succ w ih => simp [be, ih]

theorem beValue_append (a b : List Byte) : beValue (a ++ b) = b.foldl (fun acc x => acc * 256 + x.toNat) (beValue a) := by
  simp [beValue, List.foldl_append]

/-- R172: a quantity that its field can hold is read back from its bytes. -/
theorem beValue_be (w n : Nat) (h : n < 256 ^ w) : beValue (be w n) = n := by
  induction w generalizing n with
  | zero => simp at h; subst h; rfl
  | succ w ih =>
    have hd : n / 256 < 256 ^ w := by
      rw [Nat.pow_succ] at h
      exact Nat.div_lt_of_lt_mul (by omega)
    simp only [be, beValue_append, ih _ hd, List.foldl_cons, List.foldl_nil, BitVec.toNat_ofNat]
    omega

/-! ### The frame check (R155) -/

/-- R155: a frame with a payload of at most 28 bytes passes the check that receives it. -/
theorem checkFrame_frameBytes (code tag : Byte) (payload : List Byte) (h : payload.length ≤ 28) :
    checkFrame (frameBytes code tag payload) = .taken code tag payload := by
  have hn : (BitVec.ofNat 8 payload.length).toNat = payload.length := by
    simp only [BitVec.toNat_ofNat]; omega
  simp [frameBytes, checkFrame, hn]
  omega

end Sys2Proof.Machine
end

