-- ==== Sys2Proof/Laws/Tries.lean ====
section
/-! SUPPORT. What the end of a try can do (R76): the records of the lanes and the demand sets after it, and how a failure is recorded
(R78, R79). -/

namespace Sys2Proof.Machine

/-! ### Blocks that leave the Step Engine alone -/

@[simp] theorem State.rodTryEnd_engine (s : State) : s.rodTryEnd.engine = s.engine := by
  unfold State.rodTryEnd
  (repeat' split) <;> rfl
@[simp] theorem State.dropDoseRequest_engine (s : State) : s.dropDoseRequest.engine = s.engine := rfl
@[simp] theorem State.endRegen_engine (s : State) : s.endRegen.engine = s.engine := rfl
@[simp] theorem State.cycleEvent_engine (s : State) (f : CycleRec → CycleRec) : (s.cycleEvent f).engine = s.engine := by
  unfold State.cycleEvent
  split <;> rfl
@[simp] theorem State.evalLevel_engine (s : State) (a : Agent) : (s.evalLevel a).engine = s.engine := by
  unfold State.evalLevel
  dsimp only
  (repeat' split) <;> rfl
@[simp] theorem State.setStock_engine (s : State) (a : Agent) (n : Nat) : (s.setStock a n).engine = s.engine := by
  simp [State.setStock, State.withAccount]
@[simp] theorem State.declareStock_engine (s : State) (a : Agent) (n : Nat) : (s.declareStock a n).engine = s.engine := by
  simp [State.declareStock, State.withAccount]
@[simp] theorem State.applyHeld_engine (s : State) (a : Agent) : (s.applyHeld a).engine = s.engine := by
  unfold State.applyHeld
  split <;> simp
@[simp] theorem State.modDose_engine (s : State) (f : DoseRec → DoseRec) : (s.modDose f).engine = s.engine := by
  unfold State.modDose
  split <;> rfl

/-- R132: a counted stroke changes no more of the Step Engine than the actual value of the DOSE lane's head. -/
theorem State.countStroke_engine (s : State) (r : DoseRec) :
    (s.countStroke r).engine = (s.modHead .dose (fun t => { t with actual := fit32 ((r.delivered + 1) * s.strokeVolume r.agent) })).engine := by
  simp only [State.countStroke, State.cycleStroke, State.cycleEvent_engine]
  split <;> simp [State.modHead, State.modLane, State.withLane, State.withAccount, State.lane]

theorem State.judgeStroke_engine (s : State) (r : DoseRec) :
    (s.judgeStroke r).engine = if r.feedback then
      (s.modHead .dose (fun t => { t with actual := fit32 ((r.delivered + 1) * s.strokeVolume r.agent) })).engine else s.engine := by
  simp only [State.judgeStroke, State.applyHeld_engine]
  split
  · rw [State.countStroke_engine]
    have : (s.modDose (fun r => { r with phase := .idle, onTimer := none })).strokeVolume r.agent = s.strokeVolume r.agent := by
      unfold State.modDose; split <;> rfl
    rw [this]
    simp [State.modHead, State.modLane, State.withLane, State.lane]
  · simp

/-! ### The DOSE lane under an evaluation -/

theorem State.lane_eq_of_lanes {s t : State} (l : Lane) (h : t.engine.lanes = s.engine.lanes) : t.lane l = s.lane l := by
  simp [State.lane, h]

theorem State.releaseLane_dose (s : State) (l : Lane) (h : (s.lane .dose).state ≠ .waiting) :
    (s.releaseLane l).lane .dose = s.lane .dose := by
  unfold State.releaseLane
  cases l
  · split <;> rfl
  · simp [h]

theorem State.releaseExclusion_dose (s : State) (h : (s.lane .dose).state ≠ .waiting) :
    s.releaseExclusion.lane .dose = s.lane .dose := by
  have h1 := s.releaseLane_dose .water h
  unfold State.releaseExclusion
  rw [State.releaseLane_dose _ .dose (by rw [h1]; exact h), h1]

@[simp] theorem State.raiseStep_engine (s : State) (l : Lane) (n : Notice) : (s.raiseStep l n).engine = s.engine := by
  unfold State.raiseStep
  split <;> rfl

theorem State.concludeSuccess_water_dose (s : State) (flags : ResultFlags) (h : (s.lane .dose).state ≠ .waiting) :
    (s.concludeSuccess .water flags).lane .dose = s.lane .dose := by
  unfold State.concludeSuccess
  split
  · rfl
  · dsimp only
    have key : ∀ u : State, u.lane .dose = s.lane .dose → u.releaseExclusion.lane .dose = s.lane .dose := fun u hu => by
      rw [u.releaseExclusion_dose (by rw [hu]; exact h), hu]
    apply key
    have : ∀ (u : State) t, (u.setRefFrom t).lane .dose = u.lane .dose := fun u t => by
      unfold State.setRefFrom; split <;> rfl
    split <;> simp only [State.lane, State.raiseStep_engine] <;> exact this _ _

theorem State.failForGood_water_dose (s : State) (r : StepResult) (h : (s.lane .dose).state ≠ .waiting) :
    (s.failForGood .water r).lane .dose = s.lane .dose := by
  unfold State.failForGood
  split
  · rfl
  · dsimp only
    have key : ∀ u : State, u.lane .dose = s.lane .dose → u.releaseExclusion.lane .dose = s.lane .dose := fun u hu => by
      rw [u.releaseExclusion_dose (by rw [hu]; exact h), hu]
    apply key
    simp only [State.lane, State.raiseStep_engine]
    rfl

theorem State.concludeCounted_water_dose (s : State) (r : StepResult) (h : (s.lane .dose).state ≠ .waiting) :
    (s.concludeCounted .water r).lane .dose = s.lane .dose := by
  unfold State.concludeCounted
  dsimp only
  split
  · rfl
  · split
    · rfl
    · rw [State.failForGood_water_dose _ _ (by exact h)]; rfl

@[simp] theorem State.rodHandOver_engine (s : State) : s.rodHandOver.engine = s.engine := by
  unfold State.rodHandOver State.beginExtend
  dsimp only
  (repeat' split) <;> rfl

theorem State.autoOpenHeater_dose (s : State) (h : (s.lane .dose).state ≠ .waiting) :
    s.autoOpenHeater.lane .dose = s.lane .dose := by
  unfold State.autoOpenHeater
  split
  · rfl
  · split
    · split
      · rfl
      · rw [State.concludeSuccess_water_dose _ _ (by exact h)]; rfl
      · exact s.concludeCounted_water_dose _ h
      · exact s.failForGood_water_dose _ h
      · simp only [State.lane, State.rodHandOver_engine]; rfl
    · rfl

theorem State.outputEvent_dose (s : State) (o : Output) (on : Bool) (h : (s.lane .dose).state ≠ .waiting) :
    (s.outputEvent o on).lane .dose = s.lane .dose := by
  cases o
  case heater =>
    have h2 : ((s.checkOutput .heater on).lane .dose).state ≠ .waiting := h
    have h3 := State.autoOpenHeater_dose _ h2
    simp only [State.outputEvent, State.heaterEvent]
    split
    · rw [State.lane_eq_of_lanes .dose (State.extendGuard_lanes _), h3]; rfl
    · exact h3
  case inlet =>
    apply State.lane_eq_of_lanes
    simp only [State.outputEvent]; split <;> simp [State.checkOutput, State.modCheck]
  all_goals
    apply State.lane_eq_of_lanes
    simp [State.outputEvent, State.checkOutput, State.modCheck, State.pumpEvent]

/-- R34: an evaluation leaves a DOSE lane that does not wait alone. -/
theorem State.evaluate_dose (s : State) (h : (s.lane .dose).state ≠ .waiting) : s.evaluate.lane .dose = s.lane .dose :=
  (State.evaluate_keeps_of (fun u => u.lane .dose) (fun u => (u.lane .dose).state ≠ .waiting)
    (fun _ _ hu => ⟨hu, rfl⟩)
    (fun u o on hu => by have := u.outputEvent_dose o on hu; exact ⟨by rw [this]; exact hu, this⟩) s h).2

theorem State.withdrawAll_dose (s : State) (a : Source) (h : (s.lane .dose).state ≠ .waiting) :
    (s.withdrawAll a).lane .dose = s.lane .dose := by
  have h1 : (s.putDemands a false Output.evalOrder).lane .dose = s.lane .dose := by simp [State.lane]
  unfold State.withdrawAll
  rw [State.evaluate_dose _ (by rw [h1]; exact h), h1]

theorem State.enterDemands_dose (s : State) (a : Source) (os : List Output) (h : (s.lane .dose).state ≠ .waiting) :
    (s.enterDemands a os).lane .dose = s.lane .dose := by
  have h1 : (s.putDemands a true os).lane .dose = s.lane .dose := by simp [State.lane]
  unfold State.enterDemands
  rw [State.evaluate_dose _ (by rw [h1]; exact h), h1]

/-! ### The end of a try -/

theorem State.abandonRegen_lanes (s : State) (h : s.autoOpenWaits = false) : s.abandonRegen.engine.lanes = s.engine.lanes := by
  unfold State.abandonRegen
  split
  · rfl
  · simpa using s.withdrawAll_lanes .softener h

theorem State.abandonRegen_dose (s : State) (h : (s.lane .dose).state ≠ .waiting) :
    s.abandonRegen.lane .dose = s.lane .dose := by
  unfold State.abandonRegen
  split
  · rfl
  · exact (State.lane_eq_of_lanes .dose (by simp)).trans (s.withdrawAll_dose .softener h)

theorem State.doseTryEnd_water (s : State) : s.doseTryEnd.lane .water = s.lane .water := by
  unfold State.doseTryEnd
  split
  · rfl
  · simp only [State.lane, State.modDose_engine]
    split
    · rw [State.judgeStroke_engine]; split <;> rfl
    · rfl

/-- A queue whose head may have another actual value. -/
def LaneRec.sameButActual (r r' : LaneRec) : Prop :=
  ∃ f : StepRec → StepRec, (∀ t, ∃ v, f t = { t with actual := v }) ∧ r' = { r with queue := modFirst f r.queue }

theorem LaneRec.sameButActual_refl (r : LaneRec) : r.sameButActual r :=
  ⟨id, fun t => ⟨t.actual, rfl⟩, by cases hq : r.queue <;> simp [modFirst, ← hq]⟩

theorem State.doseTryEnd_dose (s : State) : (s.lane .dose).sameButActual (s.doseTryEnd.lane .dose) := by
  unfold State.doseTryEnd
  split
  · exact LaneRec.sameButActual_refl _
  · simp only [State.lane, State.modDose_engine]
    split
    · rw [State.judgeStroke_engine]
      split
      · exact ⟨_, fun t => ⟨_, rfl⟩, rfl⟩
      · exact LaneRec.sameButActual_refl _
    · exact LaneRec.sameButActual_refl _

theorem State.tellTryEnd_water (s : State) (l : Lane) (h : s.autoOpenWaits = false) :
    (s.tellTryEnd l).lane .water = s.lane .water := by
  unfold State.tellTryEnd
  split
  · rfl
  · split
    · exact State.lane_eq_of_lanes _ (s.abandonRegen_lanes h)
    · simp [State.lane]
    · exact s.doseTryEnd_water
    all_goals rfl

theorem State.tellTryEnd_dose (s : State) (l : Lane) (h : (s.lane .dose).state ≠ .waiting) :
    (s.lane .dose).sameButActual ((s.tellTryEnd l).lane .dose) := by
  unfold State.tellTryEnd
  split
  · exact LaneRec.sameButActual_refl _
  · split
    · rw [s.abandonRegen_dose h]; exact LaneRec.sameButActual_refl _
    · simpa [State.lane] using LaneRec.sameButActual_refl _
    · exact s.doseTryEnd_dose
    all_goals exact LaneRec.sameButActual_refl _

/-- R76: the end of a try of the WATER lane leaves its record as it is. -/
theorem State.tryEnd_water (s : State) (h : (s.lane .water).state ≠ .waiting) : (s.tryEnd .water).lane .water = s.lane .water := by
  have h0 := s.autoOpenWaits_of_state h
  have h1 := s.withdrawAll_lanes .water h0
  have h2 : (s.withdrawAll .water).autoOpenWaits = false := (State.autoOpenWaits_congr h1).trans h0
  have h3 := (s.withdrawAll .water).tellTryEnd_water .water h2
  simp only [State.tryEnd]
  exact h3.trans (State.lane_eq_of_lanes _ h1)

/-- R76 and R136: the end of a try of the DOSE lane leaves its record as it is, but for the actual value of its head. -/
theorem State.tryEnd_dose (s : State) (h : (s.lane .dose).state ≠ .waiting) :
    (s.lane .dose).sameButActual ((s.tryEnd .dose).lane .dose) := by
  have h1 := s.withdrawAll_dose .dose h
  have h3 := (s.withdrawAll .dose).tellTryEnd_dose .dose (by rw [h1]; exact h)
  rw [h1] at h3
  exact h3


/-! ### Demand sets at the end of a try -/

@[simp] theorem State.evalLevel_guard (s : State) (a : Agent) : (s.evalLevel a).guard = s.guard := by
  unfold State.evalLevel
  dsimp only
  (repeat' split) <;> rfl
@[simp] theorem State.setStock_guard (s : State) (a : Agent) (n : Nat) : (s.setStock a n).guard = s.guard := by
  simp [State.setStock, State.withAccount]
@[simp] theorem State.declareStock_guard (s : State) (a : Agent) (n : Nat) : (s.declareStock a n).guard = s.guard := by
  simp [State.declareStock, State.withAccount]
@[simp] theorem State.applyHeld_guard (s : State) (a : Agent) : (s.applyHeld a).guard = s.guard := by
  unfold State.applyHeld
  split <;> simp
@[simp] theorem State.modDose_guard (s : State) (f : DoseRec → DoseRec) : (s.modDose f).guard = s.guard := by
  unfold State.modDose
  split <;> rfl
@[simp] theorem State.cycleEvent_guard (s : State) (f : CycleRec → CycleRec) : (s.cycleEvent f).guard = s.guard := by
  unfold State.cycleEvent
  split <;> rfl
@[simp] theorem State.countStroke_guard (s : State) (r : DoseRec) : (s.countStroke r).guard = s.guard := by
  simp only [State.countStroke, State.cycleStroke, State.cycleEvent_guard]
  split <;> simp [State.modHead, State.modLane, State.withLane, State.withAccount]
@[simp] theorem State.judgeStroke_guard (s : State) (r : DoseRec) : (s.judgeStroke r).guard = s.guard := by
  unfold State.judgeStroke
  dsimp only
  split <;> simp
/-- R136: the end of a DOSE try is none of the Output Guard's business. -/
@[simp] theorem State.doseTryEnd_guard (s : State) : s.doseTryEnd.guard = s.guard := by
  unfold State.doseTryEnd
  dsimp only
  (repeat' split) <;> simp

theorem State.demands_of_outs {s t : State} (h : t.guard.outs = s.guard.outs) (o : Output) (src : Source) :
    t.demands o src = s.demands o src := by simp [State.demands, State.out, h]

theorem State.demands_of_guardCore {s t : State} (h : t.guardCore = s.guardCore) (o : Output) (src : Source) :
    t.demands o src = s.demands o src := State.demands_of_outs (congrArg Prod.fst h) o src

/-- R121: abandoning a regeneration withdraws no demand but the Softener's. -/
theorem State.abandonRegen_demands (s : State) (o : Output) (src : Source) (h : src ≠ .softener) :
    s.abandonRegen.demands o src = s.demands o src := by
  unfold State.abandonRegen
  split
  · rfl
  · refine (State.demands_of_outs (s := s.withdrawAll .softener) rfl o src).trans ?_
    rw [State.withdrawAll_demands]; simp [Ne.symm h]

theorem State.tellTryEnd_demands (s : State) (l : Lane) (o : Output) (src : Source) (h : src ≠ .softener) :
    (s.tellTryEnd l).demands o src = s.demands o src := by
  unfold State.tellTryEnd
  split
  · rfl
  · split
    · exact s.abandonRegen_demands o src h
    · exact State.demands_of_guardCore s.rodTryEnd_guardCore o src
    · exact State.demands_of_outs (congrArg Guard.outs s.doseTryEnd_guard) o src
    all_goals rfl

theorem Lane.source_ne_softener (l : Lane) : l.source ≠ .softener := by cases l <;> simp [Lane.source]

/-- R76: the end of a try withdraws the demands of the lane. -/
theorem State.tryEnd_withdraws (s : State) (l : Lane) (o : Output) : (s.tryEnd l).demands o l.source = false := by
  have h1 : (s.tryEnd l).demands o l.source = ((s.withdrawAll l.source).tellTryEnd l).demands o l.source := by
    cases l <;> rfl
  rw [h1, State.tellTryEnd_demands _ _ _ _ l.source_ne_softener, State.withdrawAll_demands]
  simp

/-- R76 and R121: the end of a try changes no demand but those of the lane and of the Softener. -/
theorem State.tryEnd_demands (s : State) (l : Lane) (o : Output) (src : Source) (h1 : src ≠ l.source) (h2 : src ≠ .softener) :
    (s.tryEnd l).demands o src = s.demands o src := by
  have h3 : (s.tryEnd l).demands o src = ((s.withdrawAll l.source).tellTryEnd l).demands o src := by
    cases l <;> rfl
  rw [h3, State.tellTryEnd_demands _ _ _ _ h2, State.withdrawAll_demands]
  simp [Ne.symm h1]

/-! ### How the end of a step is recorded -/

/-- R74: looking at the exclusion again changes no lane that does not wait. -/
theorem State.releaseExclusion_lane (s : State) (l : Lane) (h : (s.lane l).state ≠ .waiting) :
    s.releaseExclusion.lane l = s.lane l := by
  cases l
  · unfold State.releaseExclusion
    have h1 : s.releaseLane .water = s := by simp [State.releaseLane, h]
    rw [h1]
    unfold State.releaseLane
    split <;> rfl
  · exact s.releaseExclusion_dose h

@[simp] theorem State.modLane_lane (s : State) (l : Lane) (f : LaneRec → LaneRec) : (s.modLane l f).lane l = f (s.lane l) := by
  cases l <;> rfl

/-- R78 and R79: the record of a lane whose head has failed for good. -/
theorem State.failForGood_lane (s : State) (l : Lane) (r : StepResult) (h : StepRec) (rest : List StepRec)
    (hq : (s.lane l).queue = h :: rest) :
    (s.failForGood l r).lane l = { (s.lane l).quiet with
      state := .stalled, queue := { h with status := .failed, result := r, endTime := some s.now } :: rest,
      last := some { step := { h with status := .failed, result := r, endTime := some s.now }, manner := .failed } } := by
  have hh : s.head l = some h := by simp [State.head, hq]
  simp only [State.failForGood, hh]
  rw [State.releaseExclusion_lane]
  · simp only [State.lane, State.raiseStep_engine]
    change (State.modLane _ _ _).lane l = _
    rw [State.modLane_lane]
    simp [hq, modFirst, LaneRec.quiet]
    exact ⟨rfl, rfl, rfl, rfl⟩
  · simp only [State.lane, State.raiseStep_engine]
    change ((State.modLane _ _ _).lane l).state ≠ _
    rw [State.modLane_lane]
    simp

/-- R78: the record of a lane after a counted failure. -/
theorem State.concludeCounted_lane (s : State) (l : Lane) (r : StepResult) (h : StepRec) (rest : List StepRec)
    (hq : (s.lane l).queue = h :: rest) :
    (s.concludeCounted l r).lane l =
      if h.triesUsed + 1 < h.tries then
        { (s.lane l).quiet with
          state := .retryWait, retry := s.timer 5000,
          queue := { h with triesUsed := h.triesUsed + 1, result := r } :: rest }
      else
        { (s.lane l).quiet with
          state := .stalled,
          queue := { h with triesUsed := h.triesUsed + 1, result := r, status := .failed, endTime := some s.now } :: rest,
          last := some { step := { h with triesUsed := h.triesUsed + 1, result := r, status := .failed, endTime := some s.now },
                         manner := .failed } } := by
  have hq1 : ((s.modHead l (fun t => { t with triesUsed := t.triesUsed + 1, result := r })).lane l)
      = { s.lane l with queue := { h with triesUsed := h.triesUsed + 1, result := r } :: rest } := by
    simp [State.modHead, hq, modFirst]
  have hh : (s.modHead l (fun t => { t with triesUsed := t.triesUsed + 1, result := r })).head l
      = some { h with triesUsed := h.triesUsed + 1, result := r } := by simp [State.head, hq1]
  simp only [State.concludeCounted, hh]
  split
  · rw [State.modLane_lane, hq1]; rfl
  · rw [State.failForGood_lane _ l r _ rest (by rw [hq1]), hq1]; rfl

@[simp] theorem State.dropDose_engine (s : State) (l : Lane) : (s.dropDose l).engine = s.engine := by
  cases l <;> rfl

@[simp] theorem State.setRefFrom_lanes (s : State) (t : StepRec) : (s.setRefFrom t).engine.lanes = s.engine.lanes := by
  unfold State.setRefFrom; split <;> rfl

theorem LaneRec.advance_state (r : LaneRec) (hold : Bool) : (r.advance hold).state = if hold || r.holdAfter then .held else if r.queue = [] then .idle else .ready := by
  unfold LaneRec.advance
  split
  · simp_all
  · split <;> simp_all [LaneRec.toReady]

/-- R77: the record of a lane whose head has succeeded. -/
theorem State.concludeSuccess_lane (s : State) (l : Lane) (flags : ResultFlags) (h : StepRec) (rest : List StepRec)
    (hq : (s.lane l).queue = h :: rest) :
    (s.concludeSuccess l flags).lane l = ({ (s.lane l).quiet with
      queue := rest,
      last := some { step := { h with status := .done, result := .ok, flags := flags, endTime := some s.now }, manner := .done } }).advance h.hold := by
  have hh : s.head l = some h := by simp [State.head, hq]
  simp only [State.concludeSuccess, hh]
  have main : ∀ u : State, u.lane l = ({ (s.lane l).quiet with
      queue := rest,
      last := some { step := { h with status := .done, result := .ok, flags := flags, endTime := some s.now }, manner := .done } }).advance h.hold →
      u.releaseExclusion.lane l = ({ (s.lane l).quiet with
      queue := rest,
      last := some { step := { h with status := .done, result := .ok, flags := flags, endTime := some s.now }, manner := .done } }).advance h.hold := by
    intro u hu
    rw [u.releaseExclusion_lane l, hu]
    rw [hu, LaneRec.advance_state]
    (repeat' split) <;> simp
  apply main
  split <;> simp only [State.lane, State.raiseStep_engine, State.dropDose_engine, State.setRefFrom_lanes] <;>
    (change (State.modLane _ _ _).lane l = _; rw [State.modLane_lane]; simp [hq]; rfl)

/-! ### The begin of a try -/

/-- R49: all that the end of a test does to what a try reads. -/
theorem State.endTest_spec (s : State) (h : (s.lane .water).state ≠ .waiting) :
    s.endTest.lane .water = s.lane .water ∧ s.endTest.guard.test = none ∧ s.endTest.sampler = s.sampler
    ∧ (∀ o src, src ≠ .test → s.endTest.demands o src = s.demands o src) ∧ (s.settled = true → s.endTest.settled = true) := by
  unfold State.endTest
  split
  · next ht => simp [ht]
  · next o ht =>
    refine ⟨?_, ?_, ?_, ?_, ?_⟩
    · apply State.lane_eq_of_lanes
      rw [State.evaluate_lanes _ (State.autoOpenWaits_of_state _ (by exact h))]; rfl
    · have := congrArg Bystanders.test (State.evaluate_bystanders ((s.withGuard { s.guard with test := none, testTimer := none }).putDemand .test false o))
      exact this
    · have := congrArg Bystanders.sampler (State.evaluate_bystanders ((s.withGuard { s.guard with test := none, testTimer := none }).putDemand .test false o))
      exact this
    · intro k src hs
      have h1 : ∀ u : State, u.evaluate.demands k src = u.demands k src := fun u => by simp [State.demands]
      rw [h1, State.putDemand_demands]
      simp [Ne.symm hs]; rfl
    · simp

/-- R34 and R35: all that the demands of a WATER step do, its lane not waiting. -/
theorem State.enterDemands_water_spec (s : State) (os : List Output) (h : (s.lane .water).state ≠ .waiting) :
    (s.enterDemands .water os).lane .water = s.lane .water ∧ (s.enterDemands .water os).bystanders = s.bystanders
    ∧ (∀ o src, (s.enterDemands .water os).demands o src = if o ∈ os ∧ src = .water then true else s.demands o src)
    ∧ (s.enterDemands .water os).settled = true ∧ (s.enterDemands .water os).surroundings = s.surroundings := by
  refine ⟨State.lane_eq_of_lanes _ (State.enterDemands_lanes _ _ _ (State.autoOpenWaits_of_state _ h)), by simp, fun o src => ?_, by simp, by simp⟩
  rw [State.enterDemands_demands]; simp [eq_comm]

end Sys2Proof.Machine
end

