-- ==== Sys2Proof/Tests/Slice0.lean ====
section
/-! SUPPORT. The model's own tests: well-formedness, the frame bytes and the tables of the spec on fixed values, and for each
statement a state and operands that meet its hypotheses. -/

namespace Sys2Proof.Tests

open Sys2Proof.Machine

/-! ### States for the tests -/

/-- A profile: 450 counts per litre, Vref 4000 mL, nine codes 100 to 900 for 0 to 80 degrees C. -/
def profile : List (Option Int) :=
  ([450, 0, 4000, 8000, 31, 200, 100, 500, 1000000, 500000, 2000000, 3000, 500, 60, 600, 50, 10, 160] : List Int).map some
  ++ ([100, 200, 300, 400, 500, 600, 700, 800, 900] : List Int).map some
  ++ ([0, 100, 200, 300, 400, 500, 600, 700, 800, 0, 0] : List Int).map some

/-- An input accepted at a level. -/
def input (level : Bool) : FilteredInput := { accepted := some level, candidate := none, debounce := none, lastEvent := none }

/-- A part at 1000 ms with the supply READY and every input settled: door CLOSED, LEVEL_LOW WET, LEVEL_HIGH not reached, FLOAT and
SALT_LOW CLEAR, ROD_HOME CLOSED; its profile is written, and not locked. -/
def open0 : State :=
  { State.reset with
    time := { TimeBase.reset with clock := 1000, supply := .ready, zcPresent := true, lossWindow := some 1050 },
    pins := { Pins.low with railOk := true, door := true, levelLow := true, float := true, saltLow := true },
    inputs := { door := input true, levelLow := input true, levelHigh := input false, float := input true, saltLow := input true,
                rodHome := input false },
    store := { Store.reset with profile := profile } }

/-- The locked part with its rod at home, both lanes held by port A, and its outputs as they must be. -/
def base : State :=
  let s := open0
  ({ s with
      store := { s.store with configured := true }, time := { s.time with stray := .watching, strayThreshold := some 90 },
      door := { s.door with rod := .home, position := some true },
      engine := { s.engine with lanes := { water := { LaneRec.reset with holder := some .a },
                                           dose := { LaneRec.reset with holder := some .a } },
                                refVolume := some 4000 } }).evaluate

/-- The part with the supply LOST. -/
def lost : State := (base.withTime { base.time with supply := .lost, zcPresent := false }).evaluate

/-- A request on a port, with tag 7. -/
def req (p : Port) (payload : List Byte) : Request := { port := p, tag := 7, payload := payload }

/-- A step that has started. -/
def activeStep (w : Work) : StepRec :=
  { stepPosted 5 w 2 false true 0 with status := .active, started := true, countTarget := 45 }

/-- A state with a lane in a lane state, its queue one step. -/
def at' (s : State) (l : Lane) (st : LaneState) (t : StepRec) : State :=
  s.withLane l { s.lane l with state := st, queue := [t] }

/-- The part with a RUNNING step on a lane. -/
def running (l : Lane) (w : Work) : State := at' base l .running (activeStep w)

/-- A state whose START ATTEMPT is due for a step. -/
def due (s : State) (l : Lane) (w : Work) : State :=
  s.withLane l { s.lane l with state := .ready, attemptDue := true, queue := [stepPosted 5 w 2 false true 0] }

/-- The locked part with another Guard. -/
def withG (f : Guard → Guard) (s : State) : State := s.withGuard (f s.guard)

/-- The locked part with another Door Unit. -/
def withD (f : DoorUnit → DoorUnit) : State := base.withDoor (f base.door)

/-! ### Well-formedness -/

/-- An order that leaves a receiver out, names one twice, or names a stranger is refused. -/
theorem test_wf_order :
    (Instr.lossWindowExpiry [.guard, .engine, .door]).wf = false
    ∧ (Instr.railOkFall [.guard, .engine, .door, .door]).wf = false
    ∧ (Instr.supplySettleExpiry [.guard, .engine, .door, .softener]).wf = false
    ∧ (Instr.debounceTimerExpiry .float [.guard, .ports, .engine]).wf = false
    ∧ (Instr.tempSampleTimerExpiry 0 []).wf = false
    ∧ (Instr.debounceTimerExpiry .float [.ports, .guard]).wf = true := by decide

/-- A payload of 29 bytes fits no frame, one of 28 does; a frame that passes is no bad frame, and the end of an exchange without a byte
is a command (R154); a code of the table is not unknown. -/
theorem test_wf_frames :
    (Instr.null (req .a (List.replicate 29 0))).wf = false
    ∧ (Instr.null (req .a (List.replicate 28 0))).wf = true
    ∧ (Instr.badFrame .a [0, 0, 0, 0x2B]).wf = false
    ∧ (Instr.badFrame .a []).wf = true
    ∧ (Instr.unknownRequest .a 0x10 1 []).wf = false
    ∧ (Instr.unknownRequest .a 0x11 1 (List.replicate 29 0)).wf = false := by decide +kernel

/-! ### Values that the spec gives -/

/-- R155: the spec's worked frame, a NULL with tag 0, ends in the CRC byte 2B. -/
theorem test_null_frame : frameBytes 0x00 0x00 [] = [0x00, 0x00, 0x00, 0x2B] := by decide +kernel

/-- Table 1-3: 100 mL at K = 445 is 45 counts, which read back as 101 mL; and R3 across the wrap (Table 1-2). -/
theorem test_conversions :
    (open0.withStore { open0.store with profile := open0.store.profile.set 0 (some 445) }).toCounts 100 = 45
    ∧ (open0.withStore { open0.store with profile := open0.store.profile.set 0 (some 445) }).toMl 45 = 101
    ∧ reached 0x00000541 0x00000542 = false ∧ reached 0x00000600 0x00000542 = true := by decide

/-- Table 2-6 through Table 2-5. -/
theorem test_temperature_conversions :
    let table : List (Nat × Int) :=
      [(60, 1000), (110, 850), (180, 700), (270, 550), (380, 400), (500, 250), (640, 100), (780, -50), (900, -200)]
    [200, 507, 380, 30, 950].map (fun c => convertCode c table) = [667, 242, 400, 1000, -200] := by decide

/-- Table 7-2: a closing of 1780 counts at K = 445 and 300 hu, from 240,000 of 1,200,000 umol. -/
theorem test_resin_debit :
    let s := (base.withSoftener { base.softener with valid := true, remaining := 240000, pendingFlag := true }).withStore
      { base.store with profile := ((base.store.profile.set 0 (some 445)).set 10 (some 1200000)).set 11 (some 2500),
                        settings := base.store.settings.set 0 300 }
    s.residual = 60 ∧ (s.debit 1780).softener.remaining = 230400 ∧ (s.debit 1780).residual = 70 := by decide

/-- Table 8-3, cases A, C and D: the factors clamped, a stage rounded at an exact half, and the latched base of the agent. -/
theorem test_dose_computation :
    let l : DoseSettings := { detergentBase := 20000, rinseBase := 0, slope := 200, f0 := 900, f1 := 1000, f2 := 1150, f3 := 1300,
                              doseMin := 5000, doseMax := 40000 }
    let r := base.newDose 1 0 .detergent
    let a := { r with latched := l, vr := 9000, hr := some 800 }.compute 4000 250 (some 3)
    let c := { r with agent := .rinse, latched := l, base := 2005, vr := 3600, hr := none }.compute 4000 150 none
    let d := { r with agent := .rinse, latched := l, vr := 4000, hr := none }.compute 4000 150 none
    [a.fv, a.fh, a.fs, a.d1, a.d2, a.d3, a.dose, a.strokes] = [1400, 2000, 1300, 28000, 56000, 72800, 40000, 160]
    ∧ [c.d1, c.d2, c.d3, c.dose, c.strokes] = [1805, 1805, 1805, 1805, 13] ∧ [d.fv, d.dose, d.strokes] = [1000, 0, 0] := by decide

/-! ### Witnesses: for each statement with hypotheses, what meets them -/

/-- A queue with a command, and an empty one. -/
theorem witness_step_takes_front :
    (base.withPending [.runClockTick]).pending = .runClockTick :: [] ∧ base.pending = [] := by decide

/-- A bad frame, an unknown code and a request of 28 bytes, each with the bytes that bring it. -/
theorem witness_exchanges :
    (Instr.badFrame .a [0, 1, 29, 0]).wf = true ∧ exchangeOf (.badFrame .a [0, 1, 29, 0]) = some (.a, [0, 1, 29, 0])
    ∧ (Instr.unknownRequest .b 0x11 5 []).wf = true
    ∧ exchangeOf (.unknownRequest .b 0x11 5 []) = some (.b, frameBytes 0x11 5 [])
    ∧ (Instr.postStep (req .c (List.replicate 28 1))).wf = true
    ∧ exchangeOf (.postStep (req .c (List.replicate 28 1))) = some (.c, frameBytes 0x33 7 (List.replicate 28 1)) := by decide +kernel

/-- A settled state with an energised relay that steps. -/
theorem witness_outputs_stay_settled :
    (base.withPending [.runClockTick]).settled = true ∧ (base.withPending [.runClockTick]).heldLost = true
    ∧ base.energised .mainsRelay = true ∧ ∃ t, step (base.withPending [.runClockTick]) = .next t := ⟨by decide, by decide, by decide, _, rfl⟩

/-- A held reset that steps. -/
theorem witness_held_reset :
    (lost.withResetHeld true).settled = true ∧ (lost.withResetHeld true).heldLost = true := by decide

/-- A full queue of notices, a full lane, and a held-urgent notice. -/
theorem witness_queues_bounded :
    ((base.withPort .a { base.port .a with queue := List.replicate 16 (base.notice .flood 0 0 0),
                                           held := [base.notice .flood 0 0 0] }).modLane .water
      (fun r => { r with queue := List.replicate 8 (activeStep (.pause 1)) })).bounded = true
    ∧ base.settingsOk = true := by decide

/-- A command that is no reset and answers a state, in a part that no reset holds. -/
theorem witness_own_commands :
    (Instr.flowEdge true).isReset = false ∧ (∃ t, exec (.flowEdge true) base = .next t) ∧ base.guard.latched = false
    ∧ codeOf (.null (req .a [])) = some (0x00, req .a []) ∧ (Instr.null (req .a [])).isReset = false
    ∧ base.resetHeld = false ∧ exchangeOf (.null (req .a [])) = some (.a, [0, 7, 0, crc8 [0, 7, 0]]) :=
  ⟨by decide, ⟨_, rfl⟩, by decide, by decide, by decide, by decide, by decide +kernel⟩

/-- CLAIM LANE on port B, which lacks the class LANE, and one of two bytes on port A. -/
theorem witness_port_refuses :
    codeOf (.claimLane (req .b [0])) = some (0x30, req .b [0]) ∧ base.resetHeld = false
    ∧ (Instr.claimLane (req .b [0])).rightsClass = some .lane ∧ (base.port .b).rights.has .lane = false
    ∧ (Instr.claimLane (req .a [0, 0])).payloadLength = some 1 ∧ (base.port .a).rights.has .lane = true := by decide

/-- A frame of one byte, of length 29, and a code that the table lacks. -/
theorem witness_frames_that_reach_no_block :
    checkFrame [0x30] = .bad 0 ∧ checkFrame [0, 9, 29, 0] = .bad 9 ∧ base.resetHeld = false
    ∧ requestOf 0x11 { port := .a, tag := 3, payload := [] } = none ∧ requestOf 0xFF { port := .c, tag := 0, payload := [] } = none := by decide

/-- A length of 29; a length of 28 with 28 bytes and no CRC; a whole frame of 28 bytes with its CRC and a byte after it. -/
theorem witness_frame_check :
    28 < (29 : Byte).toNat ∧ (List.replicate 28 (0 : Byte)).length ≤ (28 : Byte).toNat
    ∧ (List.replicate 28 (1 : Byte)).length = (28 : Byte).toNat
    ∧ checkFrame (0x48 :: 1 :: 28 :: (List.replicate 28 1 ++ crc8 (0x48 :: 1 :: 28 :: List.replicate 28 1) :: [9]))
      = .taken 0x48 1 (List.replicate 28 1) := by decide +kernel

/-- A SUBSCRIBE at the limits of its fields, and one beyond each; a TAKE NOTICES. -/
theorem witness_routing :
    base.hands (req .b [63, 63, 16]) .query 3 ∧ base.hands (req .b [64, 63, 17]) .query 3 ∧ base.hands (req .b [0, 0, 1]) .query 3
    ∧ (63 : Byte).toNat ≤ 63 ∧ (16 : Byte).toNat ≤ 16 ∧ base.hands (req .c []) .query 0 := by decide

/-- A queue of 15, one of 16, an ordinary and an urgent notice, and a held kind. -/
theorem witness_notice_placement :
    (List.replicate 15 (base.notice .flood 0 0 0)).length < 16 ∧ 16 ≤ (List.replicate 16 (base.notice .flood 0 0 0)).length
    ∧ (base.notice .stock 0 0 0).kind.urgent = false ∧ (base.notice .flood 0 0 0).kind.urgent = true
    ∧ ∃ h ∈ [base.notice .flood 1 0 0], h.kind = (base.notice .flood 0 0 0).kind := ⟨by decide, by decide, by decide, by decide, _, List.mem_singleton.mpr rfl, rfl⟩

/-- A RUNNING PAUSE, a RUNNING DRAIN, a latched part with its sense lines off. -/
theorem witness_tick :
    base.resetHeld = false
    ∧ ((running .water (.pause 10)).lane .water).queue = activeStep (.pause 10) :: []
    ∧ ((running .water (.pause 10)).lane .water).state = .running ∧ (activeStep (.pause 10)).work = .pause 10
    ∧ ((running .water (.drain 5)).lane .water).queue = activeStep (.drain 5) :: [] ∧ (activeStep (.drain 5)).work = .drain 5 := by decide

/-- A falling edge in RISING, a watching detector one count below its threshold, and one at its threshold. -/
theorem witness_flow_edges :
    base.time.edgeMode = .rising ∧ base.resetHeld = false ∧ base.head .water = none ∧ base.softener.phase = .none
    ∧ base.time.stray = .watching ∧ base.time.strayThreshold ≠ some (base.time.strayCount + 1)
    ∧ (base.withTime { base.time with strayCount := 89 }).time.strayThreshold = some 90 ∧ base.settled = true ∧ base.bounded = true
    ∧ (base.withTime { base.time with stray := .reported }).time.stray = .reported
    ∧ (base.withTime { base.time with stray := .passive }).time.stray = .passive := by decide

/-- A counts-per-litre field above 0. -/
theorem witness_conversions :
    0 < base.kCounts := by decide

/-- LOST with a due loss window, a low RAIL_OK, and a high one. -/
theorem witness_supply_conditions :
    lost.resetHeld = false ∧ lost.time.supply = .lost ∧ lost.pins.railOk = true
    ∧ (lost.withPins { lost.pins with railOk := false }).pins.railOk = false
    ∧ (lost.withTime { lost.time with lossWindow := some 1000 }).due (some 1000) = true := by decide

/-- READY with a loss window due now, and with RAIL_OK high. -/
theorem witness_supply_loss :
    base.resetHeld = false ∧ base.time.supply = .ready ∧ base.pins.railOk = true
    ∧ (base.withTime { base.time with lossWindow := some 1000 }).due (some 1000) = true ∧ base.due (some 1001) = false := by decide

/-- LOST with a settle timer due now. -/
theorem witness_supply_settles :
    lost.resetHeld = false ∧ (lost.withTime { lost.time with settle := some 1000 }).due (some 1000) = true := by decide

/-- A pin at another level than the change. -/
theorem witness_pin_change :
    base.resetHeld = false ∧ base.pins.level .door ≠ false := by decide

/-- FLOAT with the candidate TRIPPED and a due timer; LEVEL_HIGH with the candidate REACHED. -/
theorem witness_debounce :
    let s := base.withInputs (base.inputs.set .float { input true with candidate := some false, debounce := some 1000 })
    s.resetHeld = false ∧ s.settled = true ∧ (s.inputs.get .float).candidate = some false
    ∧ s.due (s.inputs.get .float).debounce = true := by decide

/-- INLET_SN off, to change to on. -/
theorem witness_sense_line :
    base.resetHeld = false ∧ base.pins.sense .inletSn ≠ true := by decide

/-- A sample timer due now. -/
theorem witness_temperature_sample :
    base.resetHeld = false ∧ (base.withSampler { base.sampler with tempTimer := some 1000 }).due (some 1000) = true
    ∧ base.store.configured = true ∧ open0.store.configured = false := by decide

/-- A table whose codes ascend, a code on a point, below the first, above the last, and its bounds. -/
theorem witness_conversion_table :
    let table : List (Nat × Int) := [(60, 1000), (110, 850), (180, -200)]
    table.Pairwise (fun a b => a.1 < b.1) ∧ ((110, 850) : Nat × Int) ∈ table
    ∧ table.head? = some (60, 1000) ∧ 59 < 60 ∧ table.getLast? = some (180, -200) ∧ 180 < 181 ∧ table ≠ []
    ∧ ∀ p ∈ table, -200 ≤ p.2 ∧ p.2 ≤ 1000 := by decide

/-- SAMPLE NOW from a port with the class, and a due LED timer with no request of the DOSE lane. -/
theorem witness_turbidity :
    base.hands (req .c []) .action 0 ∧ base.resetHeld = false
    ∧ (base.withTurb { base.sampler.turb with lit := true, ledTimer := some 1000 }).due (some 1000) = true
    ∧ base.sampler.turb.doseReq = false := by decide

/-- A due stuck-on window of HEATER, and one of CIRC. -/
theorem witness_stuck_on :
    Checked.heater.output = LatchOutput.heater.output ∧ base.resetHeld = false
    ∧ (base.modCheck .heater (fun c => { c with stuckOn := some 1000 })).due (some 1000) = true
    ∧ ((base.modCheck .circ (fun c => { c with stuckOn := some 1000 })).guard.checks.get .circ).stuckOn = some 1000 := by decide

/-- A due stuck-off window of DRAIN with no demand behind it, and one under the demand of a RUNNING DRAIN. -/
theorem witness_stuck_off :
    let s := base.modCheck .drain (fun c => { c with stuckOff := some 1000 })
    let r := ((running .water (.drain 5)).enterDemands .water [.drain]).modCheck .drain (fun c => { c with stuckOff := some 1000 })
    s.resetHeld = false ∧ s.due (s.guard.checks.get .drain).stuckOff = true
    ∧ (∀ src, src ∈ [Source.water, .softener, .dose, .test] → s.demands .drain src = false)
    ∧ r.due (r.guard.checks.get .drain).stuckOff = true ∧ r.demands .drain .water = true ∧ (r.lane .water).state = .running
    ∧ r.head .water = some (activeStep (.drain 5)) ∧ r.settled = true := by decide

/-- A part that is not latched, one whose clean count is one short, and one that may be released. -/
theorem witness_clear_fault :
    base.hands (req .a []) .service 0 ∧ base.guard.latched = false
    ∧ (withG (fun g => { g with latched := true, cleanCount := 9999 }) base).guard.cleanCount ≠ 10000
    ∧ (withG (fun g => { g with latched := true, cleanCount := 10000 }) base).hands (req .a []) .service 0
    ∧ (withG (fun g => { g with latched := true, cleanCount := 10000 }) base).guard.flood = false := by decide

/-- A due latch drain, and a flood with a due flood-clear timer. -/
theorem witness_forced_drain :
    base.resetHeld = false
    ∧ (withG (fun g => { g with latchDrain := some 1000 }) base).due (some 1000) = true
    ∧ (withG (fun g => { g with flood := true, floodClear := some 1000 }) base).guard.flood = true := by decide

/-- TEST OUTPUT before the lock, of DIVERTER, for 0 s and 11 s, of AUX for 1 s and 10 s, with a busy lane, and a due test timer. -/
theorem witness_output_test :
    open0.hands (req .a [10, 5]) .service 2 ∧ open0.store.configured = false
    ∧ base.hands (req .a [7, 5]) .service 2 ∧ base.store.configured = true ∧ (7 : Byte) ∉ [2, 3, 4, 5, 6, 8, 9, 10]
    ∧ (0 : Byte) < 1 ∧ (10 : Byte) < 11 ∧ outputOf (10 : Byte).toNat = some .aux ∧ base.fitted .aux = true
    ∧ (1 : Byte) ≤ 1 ∧ (10 : Byte) ≤ 10 ∧ (∀ l, (base.lane l).state ∈ [LaneState.idle, .held, .stalled])
    ∧ ((running .water (.pause 9)).lane .water).state ∉ [LaneState.idle, .held, .stalled]
    ∧ (withG (fun g => { g with test := some .aux, testTimer := some 1000 }) base).guard.test = some .aux
    ∧ base.due (some 1000) = true := by
  refine ⟨?_, ?_, ?_, ?_, ?_, ?_, ?_, ?_, ?_, ?_, ?_, fun l => by cases l <;> decide, ?_, ?_, ?_⟩ <;> decide

/-- DRAIN ON posted in RISING of the time to a target ahead and to one reached, in slot 0 and before the lock; RESUME LANE by a stranger; a full table. -/
theorem witness_post_action :
    base.hands (req .a [0, 0, 0, 9, 9, 1, 0, 1, 0]) .action 9 ∧ (1 : Byte) ≤ 1 ∧ open0.store.configured = false
    ∧ counterOf (0 : Byte).toNat = some .time ∧ actionOf (1 : Byte).toNat = some .drainOn ∧ (0 : Byte).toNat ≤ Action.drainOn.argMax
    ∧ reached (base.counter .time) ((0 : Byte) ++ (0 : Byte) ++ (9 : Byte) ++ (9 : Byte)) = false
    ∧ reached (base.counter .time) ((0 : Byte) ++ (0 : Byte) ++ (3 : Byte) ++ (0xE8 : Byte)) = true
    ∧ base.actions[0]? = some none ∧ actionOf (9 : Byte).toNat = some .resumeLane
    ∧ laneOf (1 : Byte).toNat = some .dose ∧ (base.lane .dose).holder ≠ some .c
    ∧ ∀ x ∈ List.replicate 16 (some ({ owner := .a, ref := .time, target := 0, action := .auxOn, arg := 0, notify := false } : ActionEntry)),
        x ≠ none := by
  refine ⟨?_, ?_, ?_, ?_, ?_, ?_, ?_, ?_, ?_, ?_, ?_, ?_, fun x h => ?_⟩
  case refine_13 => rw [List.eq_of_mem_replicate h]; exact Option.some_ne_none _
  all_goals decide

/-- A table with a due entry, one with an entry that is not due, and a due DRAIN ON with no later due entry for DRAIN. -/
theorem witness_due_set :
    let e : ActionEntry := { owner := .a, ref := .time, target := 1000, action := .drainOn, arg := 0, notify := true }
    let s := base.withActions (base.actions.set 3 (some e))
    s.resetHeld = false ∧ some e ∈ s.actions ∧ s.entryDue .time e = true ∧ s.entryDue .time { e with target := 1001 } = false
    ∧ s.actions[3]? = some (some e) ∧ e.action.demand = some (.drain, true) ∧ (∀ j : Nat, j < 16 → 3 < j → s.actions[j]? = some none) := by decide

/-- Slot 16, an empty slot 15, a slot of another port and one of the port itself. -/
theorem witness_cancel_action :
    let e : ActionEntry := { owner := .c, ref := .flow, target := 9, action := .auxOn, arg := 0, notify := false }
    let s := base.withActions (base.actions.set 0 (some e))
    base.hands (req .a [16]) .action 1 ∧ (15 : Byte) < 16 ∧ (15 : Byte) ≤ 15 ∧ base.actions[15]? = some none
    ∧ s.actions[(0 : Byte).toNat]? = some (some e) ∧ e.owner ≠ (req .a [0]).port ∧ e.owner = (req .c [0]).port
    ∧ s.hands (req .c [0]) .action 1 := by decide

/-- Lane 2; a lane without holder; one held by A, asked for by A and by C; a lane at work. -/
theorem witness_lane_holders :
    base.hands (req .c [2]) .lane 1 ∧ (1 : Byte) < 2 ∧ laneOf (0 : Byte).toNat = some .water ∧ laneOf (1 : Byte).toNat = some .dose
    ∧ (base.lane .water).holder = some .a ∧ (State.reset.lane .water).holder = none ∧ (req .a [0]).port = .a
    ∧ (base.lane .water).holder ≠ some (req .c [0]).port ∧ (base.lane .water).state = .idle
    ∧ ((running .water (.pause 9)).lane .water).state = .running := by decide

/-- A PAUSE of 1 and of 36000 units in the WATER lane, before the lock, by a stranger, with 0 and 5 tries, and in a full queue. -/
theorem witness_post_step :
    base.hands (req .a [0, 5, 1, 3, 0, 0, 0x8C, 0xA0, 0, 0]) .lane 10 ∧ laneOf (0 : Byte).toNat = some .water ∧ (3 : Byte) ≤ 3
    ∧ stepBytesOk [0, 5, 1, 3, 0, 0, 0x8C, 0xA0, 0, 0] = true ∧ (base.lane .water).holder = some .a
    ∧ (base.lane .water).holder ≠ some .c ∧ base.store.configured = true ∧ open0.store.configured = false
    ∧ workOf [0, 5, 1, 3, 0, 0, 0x8C, 0xA0, 0, 0] = some (.pause 36000) ∧ workOf [0, 5, 4, 3, 0, 0, 0, 1, 0, 0] = some (.pause 1)
    ∧ workOf [0, 5, 4, 3, 0, 0, 0, 0, 0, 0] = none ∧ (Work.pause 1).lane = .water ∧ (Work.dose 0 .rinse).lane ≠ .water
    ∧ (0 : Byte) < 1 ∧ (4 : Byte) < 5 ∧ 36000 < ((0x8C : Byte) ++ (0xA1 : Byte)).toNat
    ∧ ((0x8C : Byte) ++ (0xA0 : Byte)).toNat ≤ 36000 ∧ base.aboveTub (.pause 1) = false ∧ base.aboveTub (.fill 8001 true) = true
    ∧ base.needsAbsent (.pause 1) = false ∧ (base.lane .water).queue.length < 8
    ∧ ∀ x ∈ (base.lane .water).queue, x.id ≠ (base.lane .water).nextId := by decide

/-- A due attempt of a HEAT in LOST, in a flood, with the latch LATCHED, above the cutoff; exclusion both ways. -/
theorem witness_start_attempt_tests :
    let s := due base .water (.heat 751 .lower)
    let d := due (running .dose (.dose 0 .rinse)) .water (.fill 100 false)
    let f := due (running .water (.fill 100 false)) .dose (.dose 0 .rinse)
    (s.lane .water).state = .ready ∧ (s.lane .water).attemptDue = true ∧ s.time.supply = .ready ∧ s.heaterCutoff < 751
    ∧ s.guard.flood = false ∧ s.guard.latched = false ∧ (due lost .water (.drain 0)).time.supply = .lost
    ∧ (withG (fun g => { g with flood := true }) s).guard.flood = true
    ∧ (withG (fun g => { g with latched := true }) s).guard.latched = true
    ∧ (d.lane .water).attemptDue = true ∧ d.headActive .dose = true ∧ (Work.fill 100 false).isFill = true
    ∧ (f.lane .dose).attemptDue = true ∧ (f.lane .water).state ≠ .ready
    ∧ f.head .water = some (activeStep (.fill 100 false)) ∧ (activeStep (.fill 100 false)).status = .active := by decide

/-- A due FILL, DRAIN with run-on 0 and LEVEL_LOW WET, CIRCULATE, HEAT at the cutoff and PAUSE, first start and retry, with the door closed and open. -/
theorem witness_start_attempt_begins :
    let s := due base .water (.fill 100 true)
    let o := s.withInputs { s.inputs with door := input false }
    (s.lane .water).state = .ready ∧ (s.lane .water).attemptDue = true
    ∧ (s.lane .water).queue = stepPosted 5 (.fill 100 true) 2 false true 0 :: []
    ∧ s.time.supply = .ready ∧ s.guard.flood = false ∧ s.guard.latched = false ∧ s.headActive .dose = false
    ∧ (stepPosted 5 (.fill 100 true) 2 false true 0).started = false ∧ 0 < s.toCounts 100
    ∧ s.accepted .levelHigh = some false ∧ o.doorClosed = false ∧ s.doorClosed = true
    ∧ (activeStep (.fill 100 true)).count < (activeStep (.fill 100 true)).countTarget
    ∧ s.accepted .levelLow ≠ some false ∧ s.accepted .levelLow = some true ∧ 750 ≤ s.heaterCutoff
    ∧ s.sampler.temp.status ≠ .sensorFault ∧ s.settled = true := by decide

/-- A HEAT at its time limit; a FILL, a regeneration and a CIRCULATE with their windows due; a DOSE with its dry window due. -/
theorem witness_counted_failures :
    let t := ((running .water (.heat 400 .lower)).modLane .water (fun r => { r with running := 2400000 }))
    let f := running .water (.fill 100 false)
    let r := (running .water (.regenerate true)).modSoftener (fun f => { f with phase := .brine, noFlow := some 1000 })
    let d := (running .dose (.dose 0 .rinse)).withDose (some { base.newDose 5 0 .rinse with dry := some 1000 })
    t.resetHeld = false ∧ (t.lane .water).state = .running ∧ (t.lane .water).queue = activeStep (.heat 400 .lower) :: []
    ∧ (Work.heat 400 .lower).defaultLimit = some 24000 ∧ (activeStep (.heat 400 .lower)).limit = 0
    ∧ 24000 * 100 ≤ (t.lane .water).running ∧ (Work.drain 1).defaultLimit = some 1200
    ∧ (activeStep (.fill 100 false)).status = .active ∧ (f.withEngine { f.engine with fillNoFlow := some 1000 }).due (some 1000) = true
    ∧ r.softener.phase ≠ .none ∧ r.due r.softener.noFlow = true
    ∧ (d.lane .dose).state = .running ∧ d.dosing.record = some { base.newDose 5 0 .rinse with dry := some 1000 }
    ∧ (activeStep (.fill 100 false)).triesUsed + 1 < (activeStep (.fill 100 false)).tries
    ∧ { activeStep (.fill 100 false) with triesUsed := 1 }.tries ≤ 1 + 1 := by decide

/-- A due retry; a paused FILL, DRAIN, CIRCULATE, HEAT and PAUSE with the settle timer due. -/
theorem witness_retry_and_pause_end :
    let r := (at' base .water .retryWait (activeStep (.drain 1))).modLane .water (fun r => { r with retry := some 1000 })
    let p := (at' base .water .paused (activeStep (.fill 100 true))).modLane .water (fun r => { r with laneSettle := some 1000 })
    (r.lane .water).state = .retryWait ∧ r.due (r.lane .water).retry = true ∧ r.resetHeld = false
    ∧ (p.lane .water).state = .paused ∧ (p.lane .water).pausedFromWait = false ∧ p.due (p.lane .water).laneSettle = true
    ∧ (p.lane .water).queue = activeStep (.fill 100 true) :: [] ∧ p.highReached = false ∧ p.settled = true := by decide

/-- A DRAIN at the end of its run-on, a CIRCULATE and a PAUSE at the end of their time, a FILL one count below its target. -/
theorem witness_steps_succeed :
    let d := ((running .water (.drain 2)).modHead .water (fun t => { t with runOn := 2000 })).withInputs
      { base.inputs with levelLow := input false }
    let f := (running .water (.fill 100 false)).modHead .water (fun t => { t with count := 44 })
    d.resetHeld = false ∧ (d.lane .water).queue = { activeStep (.drain 2) with runOn := 2000 } :: []
    ∧ (d.lane .water).state = .running ∧ d.accepted .levelLow = some false ∧ 2 * 1000 ≤ 2000
    ∧ { activeStep (.circulate 3 .lower) with progress := 300 }.status = .active ∧ 3 * 100 ≤ 300
    ∧ (f.lane .water).queue = { activeStep (.fill 100 false) with count := 44 } :: [] ∧ f.softener.phase = .none ∧ 44 + 1 = 45
    ∧ (f.lane .water).holder = some .a ∧ (activeStep (.fill 100 false)).notify = true := by decide

/-- A STALLED lane, one in RETRY_WAIT and an IDLE one; the holder and a stranger. -/
theorem witness_skip_and_retry :
    let s := at' base .dose .stalled (activeStep (.dose 0 .rinse))
    let r := at' base .dose .retryWait (activeStep (.dose 0 .rinse))
    s.hands (req .a [1]) .lane 1 ∧ laneOf (1 : Byte).toNat = some .dose ∧ (s.lane .dose).holder = some .a
    ∧ (s.lane .dose).holder ≠ some .c ∧ (s.lane .dose).state = .stalled ∧ (r.lane .dose).state = .retryWait
    ∧ (base.lane .dose).state ∉ [LaneState.stalled, .retryWait] ∧ (s.lane .dose).queue = activeStep (.dose 0 .rinse) :: []
    ∧ s.settled = true := by decide

/-- A RUNNING lane, one with no ACTIVE head, a stranger. -/
theorem witness_flush :
    (running .water (.drain 1)).hands (req .a [0]) .lane 1 ∧ laneOf (0 : Byte).toNat = some .water
    ∧ ((running .water (.drain 1)).lane .water).holder = some .a ∧ (base.lane .water).holder ≠ some .c
    ∧ base.headActive .water = false ∧ (running .water (.drain 1)).head .water = some (activeStep (.drain 1))
    ∧ (activeStep (.drain 1)).status = .active ∧ ((running .water (.drain 1)).lane .water).state ∈ [LaneState.running, .paused]
    ∧ base.settled = true := by decide

/-- A lane in IDLE, READY with a QUEUED and with an ACTIVE head, RUNNING, HELD with and without steps, STALLED. -/
theorem witness_hold_and_resume :
    base.hands (req .a [0]) .lane 1 ∧ (base.lane .water).holder = some .a ∧ (base.lane .water).state = .idle
    ∧ ((due base .water (.drain 1)).lane .water).state = .ready ∧ (due base .water (.drain 1)).headActive .water = false
    ∧ (at' base .water .ready (activeStep (.drain 1))).headActive .water = true
    ∧ ((running .water (.drain 1)).lane .water).state = .running
    ∧ ((at' base .water .held (activeStep (.drain 1))).lane .water).state = .held
    ∧ ((at' base .water .held (activeStep (.drain 1))).lane .water).queue ≠ []
    ∧ ((base.modLane .water (fun r => { r with state := .held })).lane .water).queue = []
    ∧ ((at' base .water .stalled (activeStep (.drain 1))).lane .water).state = .stalled := by decide

/-- A regeneration at the end of its SOAK, the tub below its high level and at it. -/
theorem witness_soak_ends :
    let s := (running .water (.regenerate true)).modSoftener (fun f => { f with phase := .soak, soak := 60000 })
    let h := s.withInputs { s.inputs with levelHigh := input true }
    s.resetHeld = false ∧ s.softener.phase = .soak ∧ (s.lane .water).state = .running
    ∧ (s.lane .water).queue = activeStep (.regenerate true) :: [] ∧ s.fieldNat 14 * 1000 ≤ s.softener.soak
    ∧ s.highReached = false ∧ h.highReached = true ∧ (∀ o, h.demands o .water = false) := by
  refine ⟨?_, ?_, ?_, ?_, ?_, ?_, ?_, fun o => by cases o <;> decide⟩ <;> decide

/-- RESET RESIN before and after the lock. -/
theorem witness_reset_resin :
    open0.hands (req .a []) .accounts 0 ∧ open0.store.configured = false ∧ base.hands (req .a []) .accounts 0
    ∧ base.store.configured = true := by decide

/-- A knee above 0, a VALID account, a stroke volume above 0 and limits in order. -/
theorem witness_residual_and_dose :
    0 < base.knee ∧ (base.modSoftener (fun f => { f with valid := true, remaining := 5 })).softener.valid = true
    ∧ (base.newDose 1 0 .rinse).agent = .rinse ∧ (base.newDose 1 0 .detergent).agent = .detergent
    ∧ (base.newDose 1 0 .detergent).latched.doseMin ≤ (base.newDose 1 0 .detergent).latched.doseMax ∧ (0 : Nat) < 1 := by decide

/-- REFILL of 0, 1, 2,000,000 and 2,000,001 uL; an account that is UNLOADED and one that is VALID; SET STOCK during a stroke. -/
theorem witness_stock_requests :
    base.hands (req .b [1, 0, 0, 0, 1]) .refill 5 ∧ base.hands (req .a [1, 0, 0, 0, 1]) .accounts 5 ∧ (1 : Byte) < 2
    ∧ ((0 : Byte) ++ (0x1E : Byte) ++ (0x84 : Byte) ++ (0x80 : Byte)).toNat = 2000000
    ∧ ((0 : Byte) ++ (0 : Byte) ++ (0 : Byte) ++ (1 : Byte)).toNat = 1 ∧ agentOf (1 : Byte).toNat = some .rinse
    ∧ (base.account .rinse).valid = false ∧ base.store.configured = true ∧ open0.store.configured = false
    ∧ ((base.withAccount .rinse { base.account .rinse with valid := true }).account .rinse).valid = true
    ∧ (base.withDose (some { base.newDose 1 0 .rinse with phase := .on })).strokeOn .rinse = true := by decide

/-- A stroke at the end of its on-timer, with feedback, last of its try or not, and without; a rest at its end with LEVEL_LOW wet and dry. -/
theorem witness_strokes :
    let r := { base.newDose 5 0 .rinse with phase := .on, onTimer := some 1000, tryTarget := 2, strokes := 2 }
    let s := (running .dose (.dose 0 .rinse)).withDose (some r)
    let o := (running .dose (.dose 0 .rinse)).withDose (some { r with phase := .off, onTimer := none, offTimer := some 1000 })
    s.resetHeld = false ∧ s.settled = true ∧ s.dosing.record = some r ∧ r.phase = .on ∧ s.due r.onTimer = true
    ∧ (s.account r.agent).held = none ∧ (s.lane .dose).queue = activeStep (.dose 0 .rinse) :: []
    ∧ (s.lane .dose).state = .running ∧ r.feedback = false ∧ { r with feedback := true }.delivered + 1 ≠ 2
    ∧ { r with feedback := true, delivered := 1 }.delivered + 1 = 2 ∧ { r with pumpOn := true }.pumpCut = false ∧ r.pumpOn = false
    ∧ o.due (some 1000) = true ∧ (o.lane .dose).state = .running ∧ o.accepted .levelLow = some true
    ∧ (o.withInputs { o.inputs with levelLow := input false }).accepted .levelLow ≠ some true
    ∧ (s.account r.agent).valid = false := by decide

/-- An extend timer and a hold timer due; ROD_OC asserted; a rod extending, holding and at home. -/
theorem witness_rod_drive :
    (withD (fun d => { d with rod := .extending, extendTimer := some 1000 })).due (some 1000) = true ∧ base.resetHeld = false
    ∧ (base.withPins { base.pins with rodOc := true }).pins.rodOc = true ∧ base.pins.rodOc = false
    ∧ base.door.rod ∉ [RodState.extending, .holding, .retracting]
    ∧ (withD (fun d => { d with rod := .holding })).door.rod ∈ [RodState.extending, .holding] := by decide

/-- A retract timer due; a retracting rod; an AUTO_OPEN behind an OPENING errand and a HOMING one. -/
theorem witness_rod_jams :
    let s := (running .water .autoOpen).withDoor
      { base.door with rod := .retracting, errand := .opening, retractTimer := some 1000 }
    s.resetHeld = false ∧ s.due s.door.retractTimer = true ∧ s.pins.rodOc = false ∧ s.door.rod = .retracting
    ∧ s.settled = true ∧ (withD (fun d => { d with errand := .homing })).door.errand ≠ .opening
    ∧ (s.lane .water).state ∈ [LaneState.running, .paused] ∧ (s.lane .water).queue = activeStep .autoOpen :: []
    ∧ (activeStep .autoOpen).status = .active := by decide

/-- A due dead time toward a retract with the switch open and closed, toward an extension, and with no move left. -/
theorem witness_dead_time :
    let s := (running .water .autoOpen).withDoor { base.door with rod := .braking, deadTimer := some 1000 }
    let e := s.withInputs { s.inputs with levelLow := input false }
    s.resetHeld = false ∧ s.due s.door.deadTimer = true ∧ s.door.nextMove = .none ∧ s.pins.rodOc = false ∧ s.homeClosed = true
    ∧ (s.withInputs { s.inputs with rodHome := input true }).homeClosed = false
    ∧ (withD (fun d => { d with nextMove := .retract, errand := .homing })).door.errand = .homing
    ∧ e.levelWet = false ∧ e.energised .heater = false ∧ e.head .water = some (activeStep .autoOpen)
    ∧ (activeStep .autoOpen).status = .active := by decide

/-- CLEAR ROD FAULT before the lock, with the rod at home, and jammed. -/
theorem witness_clear_rod_fault :
    open0.hands (req .c []) .service 0 ∧ open0.store.configured = false ∧ base.hands (req .c []) .service 0
    ∧ base.store.configured = true ∧ base.door.rod ≠ .jammed ∧ (withD (fun d => { d with rod := .jammed })).door.rod = .jammed := by decide

/-- Fields 0 and 39; field 28 at -400 and one below; a locked profile. -/
theorem witness_profile_field :
    open0.hands (req .a [28, 0xFF, 0xFF, 0xFE, 0x70]) .profile 5 ∧ base.store.configured = true ∧ open0.store.configured = false
    ∧ (0 : Byte) < 1 ∧ (38 : Byte) < 39 ∧ fieldRange (28 : Byte).toNat = some (-400, 1500)
    ∧ ((0xFF : Byte) ++ (0xFF : Byte) ++ (0xFE : Byte) ++ (0x70 : Byte)).toInt = -400
    ∧ ((0xFF : Byte) ++ (0xFF : Byte) ++ (0xFE : Byte) ++ (0x6F : Byte)).toInt < -400
    ∧ fieldRange (38 : Byte).toNat = some (0, 63) := by decide

/-- A profile with its first field unwritten; one with the codes out of order at 20 and at 27; tub maximum below Vref; one that passes. -/
theorem witness_profile_lock :
    let f := fun (i : Nat) (v : Option Int) => open0.withStore { open0.store with profile := profile.set (i - 1) v }
    open0.hands (req .a []) .profile 0 ∧ base.store.configured = true ∧ open0.store.configured = false
    ∧ (f 1 none).store.profile[0]? = some none ∧ (∀ x ∈ (f 20 (some 100)).store.profile, x ≠ none)
    ∧ (f 20 (some 100)).field 20 ≤ (f 20 (some 100)).field 19
    ∧ (f 27 (some 800)).field 27 ≤ (f 27 (some 800)).field 26
    ∧ (∀ j, j < 27 → 20 ≤ j → (f 27 (some 800)).field (j - 1) < (f 27 (some 800)).field j)
    ∧ (f 4 (some 3999)).field 4 < (f 4 (some 3999)).field 3 ∧ (f 9 (some 199)).field 9 < (f 9 (some 199)).field 6
    ∧ (f 10 (some 99)).field 10 < (f 10 (some 99)).field 7
    ∧ (∀ x ∈ open0.store.profile, x ≠ none) ∧ (∀ j, j < 28 → 20 ≤ j → open0.field (j - 1) < open0.field j)
    ∧ open0.field 3 ≤ open0.field 4 ∧ open0.field 6 ≤ open0.field 9 ∧ open0.field 7 ≤ open0.field 10 := by decide

/-- Settings 0 and 19; the range of setting 1 and of 18; an ordered one. -/
theorem witness_write_setting :
    base.hands (req .b [18, 0, 0, 3, 0x52]) .settings 5 ∧ (0 : Byte) < 1 ∧ (18 : Byte) < 19
    ∧ settingRange (1 : Byte).toNat = some (0, 800) ∧ settingRange (18 : Byte).toNat = some (500, 850)
    ∧ settingRange (13 : Byte).toNat = some (0, 60000) ∧ ((0 : Byte) ++ (0 : Byte) ++ (3 : Byte) ++ (0x52 : Byte)).toNat = 850
    ∧ (1 : Byte) ∉ [14, 15, 18] := by decide

/-- Flags 8, 0 and 7; the three accounts UNLOADED, and each VALID; no stroke in ON. -/
theorem witness_load_accounts :
    base.hands (req .a [7, 0, 0, 0, 9, 0, 0, 0, 9, 0, 0, 0, 9]) .accounts 13 ∧ (7 : Byte) < 8 ∧ (7 : Byte) ≤ 7 ∧ (7 : Byte) ≠ 0
    ∧ base.store.configured = true ∧ open0.store.configured = false ∧ base.softener.valid = false
    ∧ (base.account .detergent).valid = false ∧ (base.account .rinse).valid = false ∧ base.dosing.record = none
    ∧ (7 : Byte).getLsbD 0 = true ∧ (7 : Byte).getLsbD 1 = true ∧ (7 : Byte).getLsbD 2 = true
    ∧ (base.modSoftener (fun f => { f with valid := true })).softener.valid = true
    ∧ ((base.withAccount .rinse { base.account .rinse with valid := true }).account .rinse).valid = true := by decide

/-- BEGIN CYCLE before the lock, with no record and with an OPEN one. -/
theorem witness_cycle :
    base.hands (req .c []) .lane 0 ∧ open0.store.configured = false ∧ base.store.configured = true ∧ base.store.cycle.state ≠ .open
    ∧ (base.withCycle { base.store.cycle with state := .open }).store.cycle.state = .open ∧ base.settled = true := by decide

/-- A READ of a page, of a lane and of a step that is queued and one that is not. -/
theorem witness_reads :
    base.hands (req .b [0]) .query 1 ∧ base.hands (req .b [1, 0]) .query 2 ∧ laneOf (1 : Byte).toNat = some .dose ∧ (1 : Byte) < 2
    ∧ base.hands (req .b [0, 0, 5]) .query 3 ∧ ((0 : Byte) ++ (5 : Byte)).toNat = 5
    ∧ ((running .water (.drain 1)).lane .water).queue = [] ++ activeStep (.drain 1) :: [] ∧ (activeStep (.drain 1)).id = 5
    ∧ (∀ x ∈ (base.lane .water).queue, x.id ≠ 5) ∧ base.actions.length = 16 := by decide

/-- A RESET PART that port A may make, a fall of RESET_N in a part that no reset holds, a rise in one that is held. -/
theorem witness_resets :
    base.hands (req .a []) .profile 0 ∧ base.resetHeld = false ∧ (base.withResetHeld true).resetHeld = true := by decide

/-! ### Witnesses of the clauses on exchanges, pauses, starts, the regeneration and the rod -/

/-- A part with other filtered inputs. -/
def withI (s : State) (f : PerInput FilteredInput → PerInput FilteredInput) : State := s.withInputs (f s.inputs)

/-- An input UNSETTLED, and one with a candidate whose debounce timer is due. -/
def unsettled : FilteredInput := { accepted := none, candidate := some true, debounce := some 2000, lastEvent := none }
def turning (accepted : Option Bool) (level : Bool) : FilteredInput :=
  { accepted := accepted, candidate := some level, debounce := some 1000, lastEvent := none }

/-- R164: the end of a cut exchange with no whole byte ends the port's wait and changes nothing else, and the next exchange is taken:
a NULL of tag 1 is answered. -/
theorem test_cut_exchange_ends :
    let s := base.withPort .a { base.port .a with waitCs := true }
    commandOfExchange .a [] [] = some (.badFrame .a [])
    ∧ commandOfExchange .a [] (frameBytes 0 1 []) = some (.null { port := .a, tag := 1, payload := [] })
    ∧ (match exec (.badFrame .a []) s with
      | .next t =>
        decide (t = base)
          && (match exec (.null { port := .a, tag := 1, payload := [] }) t with
            | .next u => decide ((u.port .a).reply = { status := .ok, tag := 1, payload := [] })
            | _ => false)
      | _ => false) = true := by decide +kernel

/-- A port with an exchange that a reset cut, and one without; a reply of no payload. -/
theorem witness_cut_exchange :
    let s := base.withPort .a { base.port .a with waitCs := true }
    s.resetHeld = false ∧ (s.port .a).waitCs = true ∧ exchangeOf (.badFrame .a []) = some (.a, []) ∧ s.takes .c
    ∧ Port.a ∉ [Port.b, .c] ∧ (s.port .a).reply.payload.length ≤ 28 := by decide

/-- A RUNNING regeneration in SOAK. -/
theorem witness_tick_soak :
    let s := (running .water (.regenerate true)).modSoftener (fun f => { f with phase := .soak })
    (s.lane .water).state = .running ∧ s.head .water = some (activeStep (.regenerate true))
    ∧ (activeStep (.regenerate true)).work = .regenerate true ∧ s.softener.phase = .soak ∧ base.softener.phase ≠ .soak := by decide

/-- A RUNNING FILL below its target, and one at its last count with no try in progress. -/
theorem witness_fill_edge :
    let r := at' base .water .ready { activeStep (.fill 100 true) with count := 44 }
    (running .water (.fill 100 true)).resetHeld = false ∧ (running .water (.fill 100 true)).softener.phase = .none
    ∧ ((running .water (.fill 100 true)).lane .water).queue = activeStep (.fill 100 true) :: []
    ∧ (activeStep (.fill 100 true)).status = .active ∧ (Work.fill 100 true).isFill = true
    ∧ (activeStep (.fill 100 true)).count + 1 ≠ (activeStep (.fill 100 true)).countTarget
    ∧ (r.lane .water).tryInProgress = false := by decide

/-- An output test of INLET at its end: outside a regeneration with the account UNLOADED and VALID, and in one. -/
theorem witness_inlet_closing :
    let s := ((withG (fun g => { g with test := some .inlet, testTimer := some 1000 }) base).putDemand .test true .inlet).evaluate
    s.resetHeld = false ∧ s.settled = true ∧ s.guard.test = some .inlet ∧ s.due s.guard.testTimer = true
    ∧ s.energised .inlet = true ∧ (∀ src, src ∈ [Source.water, .dose, .softener, .action, .forced] → s.demands .inlet src = false)
    ∧ s.softener.phase = .none ∧ s.softener.valid = false
    ∧ (s.modSoftener (fun f => { f with valid := true })).softener.valid = true
    ∧ (s.modSoftener (fun f => { f with phase := .rinse })).settled = true := by decide

/-- Each step that takes a start wait: a FILL, CIRCULATE and HEAT with their level UNSETTLED, a REGENERATE under a high level, an AUTO_OPEN
with the door, or with LEVEL_LOW, UNSETTLED, and one under a heater. -/
theorem witness_start_waits :
    let f := withI (due base .water (.fill 100 true)) (fun i => { i with levelHigh := unsettled })
    let c := withI (due base .water (.circulate 1 .upper)) (fun i => { i with levelLow := unsettled })
    let r := withI (due base .water (.regenerate true)) (fun i => { i with levelHigh := input true })
    let a := withI (due base .water .autoOpen) (fun i => { i with door := unsettled })
    let l := withI (due base .water .autoOpen) (fun i => { i with levelLow := unsettled })
    let h := (withI (due base .water .autoOpen) (fun i => { i with levelLow := input false })).withOut .heater
      { base.out .heater with energised := true }
    f.attemptsWater (stepPosted 5 (.fill 100 true) 2 false true 0) [] ∧ f.guard.test = none ∧ f.headActive .dose = false
    ∧ f.accepted .levelHigh = none ∧ 0 < f.toCounts 100 ∧ (stepPosted 5 (.fill 100 true) 2 false true 0).started = false
    ∧ c.attemptsWater (stepPosted 5 (.circulate 1 .upper) 2 false true 0) [] ∧ c.accepted .levelLow = none ∧ 750 ≤ c.heaterCutoff
    ∧ r.attemptsWater (stepPosted 5 (.regenerate true) 2 false true 0) [] ∧ r.accepted .levelHigh ≠ some false
    ∧ a.attemptsWater (stepPosted 5 .autoOpen 2 false true 0) [] ∧ a.autoOpenSetting = true ∧ a.accepted .door = none
    ∧ l.accepted .door = some true ∧ l.accepted .levelLow = none ∧ h.accepted .levelLow = some false
    ∧ h.energised .heater = true ∧ h.attemptsWater (stepPosted 5 .autoOpen 2 false true 0) [] := by decide

/-- Each step that succeeds at its start: a FILL at its target and one under a high level, a DRAIN of a dry tub, a HEAT at its
temperature, a REGENERATE that is not needed, an AUTO_OPEN that is disabled and one of an open door. -/
theorem witness_success_at_start :
    let t := { activeStep (.fill 100 true) with status := .failed, count := 45 }
    let f := base.withLane .water { base.lane .water with state := .ready, attemptDue := true, queue := [t] }
    let g := withI (due base .water (.fill 100 true)) (fun i => { i with levelHigh := input true })
    let d := withI (due base .water (.drain 0)) (fun i => { i with levelLow := input false })
    let temp := { base.sampler.temp with status := .valid, value := some 400 }
    let h := (due base .water (.heat 400 .lower)).withSampler { base.sampler with temp := temp }
    let a := due base .water .autoOpen
    f.attemptsWater t [] ∧ t.started = true ∧ t.countTarget ≤ t.count ∧ f.headActive .dose = false
    ∧ g.attemptsWater (stepPosted 5 (.fill 100 true) 2 false true 0) [] ∧ g.accepted .levelHigh = some true
    ∧ d.attemptsWater (stepPosted 5 (.drain 0) 2 false true 0) [] ∧ d.accepted .levelLow = some false
    ∧ h.attemptsWater (stepPosted 5 (.heat 400 .lower) 2 false true 0) [] ∧ h.accepted .levelLow = some true
    ∧ h.sampler.temp.status = .valid ∧ h.sampler.temp.value = some 400 ∧ 400 ≤ h.heaterCutoff
    ∧ base.softener.pendingFlag = false ∧ a.attemptsWater (stepPosted 5 .autoOpen 2 false true 0) [] ∧ a.autoOpenSetting = true
    ∧ (a.withStore { a.store with settings := a.store.settings.set 16 0 }).autoOpenSetting = false
    ∧ (withI a (fun i => { i with door := input false })).accepted .door = some false := by decide

/-- A REGENERATE to be handed over, forced, and with the pending flag. -/
theorem witness_regenerate_start :
    let s := due base .water (.regenerate true)
    let p := (due base .water (.regenerate false)).modSoftener (fun f => { f with pendingFlag := true })
    s.attemptsWater (stepPosted 5 (.regenerate true) 2 false true 0) [] ∧ s.guard.test = none ∧ s.resetHeld = false
    ∧ (s.softener.pendingFlag || true) = true ∧ s.accepted .levelHigh = some false
    ∧ p.attemptsWater (stepPosted 5 (.regenerate false) 2 false true 0) [] ∧ (p.softener.pendingFlag || false) = true := by decide

/-- A RUNNING regeneration whose try ends: by its time limit, and by FLUSH LANE; an AUTO_OPEN with its errand. -/
theorem witness_abandoned :
    let r := (running .water (.regenerate true)).modSoftener (fun f => { f with phase := .rinse })
    let a := (running .water .autoOpen).withDoor { base.door with errand := .opening, rod := .braking, supplyHold := true }
    r.softener.phase ≠ .none ∧ (r.lane .water).state ∈ [LaneState.running, .paused]
    ∧ r.head .water = some (activeStep (.regenerate true)) ∧ (activeStep (.regenerate true)).status = .active
    ∧ r.hands (req .a [0]) .lane 1 ∧ a.settled = true ∧ a.door.errand = .opening ∧ a.door.rod = .braking ∧ a.door.supplyHold = true
    ∧ a.head .water = some (activeStep .autoOpen) ∧ base.door.rod = .home ∧ base.door.supplyHold = false := by decide

/-- A CIRCULATE paused from its start wait, its settle timer due, with LEVEL_LOW UNSETTLED and WET. -/
theorem witness_pause_from_wait :
    let p := (at' base .water .paused (activeStep (.circulate 1 .upper))).modLane .water
      (fun r => { r with laneSettle := some 1000, pausedFromWait := true })
    p.resetHeld = false ∧ p.guard.test = none ∧ (p.lane .water).state = .paused ∧ (p.lane .water).pausedFromWait = true
    ∧ p.due (p.lane .water).laneSettle = true ∧ (p.lane .water).queue = activeStep (.circulate 1 .upper) :: []
    ∧ p.accepted .levelLow = some true ∧ (withI p (fun i => { i with levelLow := unsettled })).accepted .levelLow = none := by decide

/-- A paused REGENERATE in each phase, with LEVEL_HIGH reading below and REACHED. -/
theorem witness_regenerate_resumes :
    let p := ((at' base .water .paused (activeStep (.regenerate true))).modLane .water
      (fun r => { r with laneSettle := some 1000 })).modSoftener (fun f => { f with phase := .rinse })
    p.resetHeld = false ∧ (p.lane .water).state = .paused ∧ (p.lane .water).pausedFromWait = false
    ∧ p.due (p.lane .water).laneSettle = true ∧ (p.lane .water).queue = activeStep (.regenerate true) :: []
    ∧ (p.modSoftener (fun f => { f with phase := .brine })).softener.phase = .brine
    ∧ (p.modSoftener (fun f => { f with phase := .soak })).softener.phase = .soak
    ∧ p.softener.phase = .rinse ∧ p.highReached = false ∧ p.settled = true ∧ (∀ o ∈ Output.evalOrder, p.demands o .water = false)
    ∧ (withI p (fun i => { i with levelHigh := input true })).highReached = true := by decide

/-- A paused DOSE whose stroke is due, with LEVEL_LOW WET and DRY; one with its stroke in ON; one that has issued, with a stock at S, and
one below S with no stroke and with one delivered; one that left a wait for its class. -/
theorem witness_dose_resumes :
    let r := { base.newDose 5 0 .rinse with computed := true, strokes := 2, tryTarget := 2 }
    let p := ((at' base .dose .paused (activeStep (.dose 0 .rinse))).modLane .dose
      (fun l => { l with laneSettle := some 1000 })).withDose (some r)
    let stock := fun n => p.withAccount .rinse { p.account .rinse with valid := true, stock := n }
    p.resetHeld = false ∧ (p.lane .dose).state = .paused ∧ (p.lane .dose).pausedFromWait = false ∧ p.guard.test = none
    ∧ p.due (p.lane .dose).laneSettle = true ∧ (p.lane .dose).queue = activeStep (.dose 0 .rinse) :: []
    ∧ p.dosing.record = some r ∧ r.phase ≠ .on ∧ r.issuedInTry = false ∧ p.accepted .levelLow = some true
    ∧ (withI p (fun i => { i with levelLow := input false })).accepted .levelLow = some false
    ∧ (p.withDose (some { r with phase := .on })).dosing.record = some { r with phase := .on }
    ∧ (p.withDose (some { r with issuedInTry := true, delivered := 1 })).dosing.record
        = some { r with issuedInTry := true, delivered := 1 }
    ∧ p.strokeVolume .rinse ≤ ((stock (p.strokeVolume .rinse)).account .rinse).stock
    ∧ ((stock 0).account .rinse).valid = true ∧ ((stock 0).account .rinse).stock < (stock 0).strokeVolume .rinse
    ∧ ((p.modLane .dose (fun l => { l with pausedFromWait := true })).lane .dose).pausedFromWait = true
    ∧ (base.newDose 5 0 .rinse).computed = false := by decide

/-- An event of DOOR to OPEN and a due loss window, under a RUNNING regeneration and a RUNNING DOSE. -/
theorem witness_pause_begins :
    let r := base.newDose 5 0 .rinse
    let s := (at' ((running .water (.regenerate true)).modSoftener (fun f => { f with phase := .brine })) .dose .running
      (activeStep (.dose 0 .rinse))).withDose (some r)
    let d := withI s (fun i => { i with door := turning (some true) false })
    let l := s.withTime { s.time with lossWindow := some 1000 }
    d.resetHeld = false ∧ d.bounded = true ∧ (d.inputs.get .door).candidate = some false
    ∧ d.due (d.inputs.get .door).debounce = true ∧ (d.accepted .door).isSome = true
    ∧ l.bounded = true ∧ l.time.supply = .ready ∧ l.due l.time.lossWindow = true
    ∧ (d.lane .water).state = .running ∧ d.head .water = some (activeStep (.regenerate true)) ∧ (Work.regenerate true).doorPauses = true
    ∧ d.softener.phase ≠ .none ∧ (d.lane .dose).state = .running ∧ d.head .dose = some (activeStep (.dose 0 .rinse))
    ∧ d.dosing.record = some r ∧ d.settled = true := by decide

/-- A regeneration one count below the end of BRINE and of RINSE, and below; one in RINSE with LEVEL_HIGH at its candidate REACHED. -/
theorem witness_regeneration_edges :
    let s := running .water (.regenerate true)
    let b := s.modSoftener (fun f => { f with phase := .brine, brine := 8, brineTarget := 9 })
    let r := s.modSoftener (fun f => { f with phase := .rinse, rinse := 8, rinseTarget := 9 })
    let l := withI r (fun i => { i with levelHigh := turning (some false) true })
    b.resetHeld = false ∧ (b.lane .water).queue = activeStep (.regenerate true) :: [] ∧ b.softener.phase = .brine
    ∧ b.softener.brine + 1 = b.softener.brineTarget ∧ r.softener.phase = .rinse ∧ r.softener.rinse + 1 = r.softener.rinseTarget
    ∧ 7 + 1 ≠ b.softener.brineTarget ∧ (r.lane .water).state ∈ [LaneState.running, .paused]
    ∧ (∀ o ∈ Output.evalOrder, r.demands o .water = false) ∧ l.bounded = true ∧ (l.inputs.get .levelHigh).candidate = some true
    ∧ l.due (l.inputs.get .levelHigh).debounce = true ∧ (l.accepted .levelHigh).isSome = true := by decide

/-- A start of a DOSE that awaits its class; of one of RINSE whose dose is 0, and of one with strokes, with and without stock, and with
LEVEL_LOW UNSETTLED, dry and wet; and a second try with strokes delivered. -/
theorem witness_dose_start :
    let s := due base .dose (.dose 500 .rinse)
    let r := { base.newDose 5 500 .rinse with computed := true, strokes := 3, delivered := 1 }
    let t := { activeStep (.dose 500 .rinse) with status := .failed }
    let u := (base.withLane .dose { base.lane .dose with state := .ready, attemptDue := true, queue := [t] }).withDose (some r)
    s.attemptsDose (stepPosted 5 (.dose 500 .rinse) 2 false true 0) [] ∧ u.attemptsDose t []
    ∧ s.resetHeld = false ∧ s.guard.test = none ∧ s.doorClosed = true ∧ 0 < s.strokeVolume .rinse ∧ 0 < s.strokeVolume .detergent
    ∧ (stepPosted 5 (.dose 500 .rinse) 2 false true 0).started = false ∧ s.sampler.turb.sampled = false
    ∧ ((s.newDose 5 500 .rinse).compute s.vref (s.strokeVolume .rinse) none).strokes = 5
    ∧ ((s.newDose 5 0 .rinse).compute s.vref (s.strokeVolume .rinse) none).agent = .rinse
    ∧ t.started = true ∧ u.dosing.record = some r ∧ r.computed = true ∧ r.phase ≠ .on ∧ r.delivered ≠ r.strokes
    ∧ { r with delivered := 3 }.delivered = r.strokes ∧ (s.account .rinse).valid = false
    ∧ ((s.withAccount .rinse { s.account .rinse with valid := true, stock := 99 }).account .rinse).stock < s.strokeVolume .rinse
    ∧ s.strokeVolume .rinse ≤ ((s.withAccount .rinse { s.account .rinse with valid := true, stock := 100 }).account .rinse).stock
    ∧ s.accepted .levelLow = some true ∧ (withI s (fun i => { i with levelLow := unsettled })).accepted .levelLow = none
    ∧ (withI s (fun i => { i with levelLow := input false })).accepted .levelLow = some false := by
  refine ⟨⟨by decide, by decide, by decide, by decide, by decide, by decide, ?_⟩,
    ⟨by decide, by decide, by decide, by decide, by decide, by decide, ?_⟩, by decide⟩ <;> (rintro ⟨w, hw, _⟩; cases hw)

/-- An AUTO_OPEN to be handed over; a rod extending and holding, with DOOR and LEVEL_LOW about to change. -/
theorem witness_rod_opening :
    let s := withI (due base .water .autoOpen) (fun i => { i with levelLow := input false })
    let o := withI (withD (fun d => { d with rod := .extending })) (fun i => { i with door := turning (some true) false })
    let c := withI (withD (fun d => { d with rod := .holding })) (fun i =>
      { i with door := turning (some false) true, levelLow := input false })
    let w := withI (withD (fun d => { d with rod := .holding })) (fun i => { i with levelLow := turning (some false) true })
    s.resetHeld = false ∧ s.attemptsWater (stepPosted 5 .autoOpen 2 false true 0) [] ∧ s.guard.test = none ∧ s.autoOpenSetting = true
    ∧ s.accepted .door = some true ∧ s.accepted .levelLow = some false ∧ s.energised .heater = false ∧ s.door.rod = .home
    ∧ s.pins.rodOc = false ∧ (s.withPins { s.pins with rodOc := true }).pins.rodOc = true
    ∧ o.bounded = true ∧ (o.lane .water).startWait = false ∧ o.door.rod = .extending ∧ (o.inputs.get .door).candidate = some false
    ∧ o.due (o.inputs.get .door).debounce = true ∧ (o.accepted .door).isSome = true
    ∧ c.bounded = true ∧ c.door.rod = .holding ∧ (c.inputs.get .door).candidate = some true ∧ c.levelWet = false
    ∧ w.bounded = true ∧ (w.inputs.get .levelLow).candidate = some true ∧ (w.accepted .levelLow).isSome = true := by decide

/-- A retracting rod of an OPENING errand whose switch is about to close, for each pending report; the door open and closed. -/
theorem witness_rod_at_home :
    let s := withI ((running .water .autoOpen).withDoor
      { base.door with rod := .retracting, errand := .opening, report := .restart }) (fun i => { i with rodHome := turning (some true) false })
    let o := withI s (fun i => { i with door := input false })
    s.resetHeld = false ∧ s.door.rod = .retracting ∧ s.door.errand = .opening ∧ (s.inputs.get .rodHome).candidate = some false
    ∧ s.due (s.inputs.get .rodHome).debounce = true ∧ (s.lane .water).state ∈ [LaneState.running, .paused]
    ∧ (s.lane .water).queue = activeStep .autoOpen :: [] ∧ (activeStep .autoOpen).status = .active
    ∧ s.door.report = .restart ∧ s.doorClosed = true ∧ s.levelWet = true
    ∧ (withI s (fun i => { i with levelLow := input false })).levelWet = false ∧ s.energised .heater = false
    ∧ o.doorClosed = false ∧ o.door.opened = false ∧ { s.door with report := .success, opened := true }.opened = true
    ∧ { s.door with report := .blocked }.report = .blocked := by decide

/-- A supply loss during a retract; a supply that settles under a held HOMING errand; a settled pause of an OPENING errand that was held,
with the rod on its way and at home; a rod at home whose switch opens; a rod UNKNOWN whose switch settles. -/
theorem witness_rod_supply :
    let l := (withD (fun d => { d with rod := .retracting, drive := .retract })).withTime { base.time with lossWindow := some 1000 }
    let r := (lost.withDoor { lost.door with rod := .braking, supplyHold := true, errand := .homing }).withTime
      { lost.time with settle := some 1000 }
    let p := ((at' base .water .paused (activeStep .autoOpen)).modLane .water (fun r => { r with laneSettle := some 1000 })).withDoor
      { base.door with errand := .opening, supplyHold := true }
    let h := withI base (fun i => { i with rodHome := turning (some false) true })
    let u := withI (withD (fun d => { d with rod := .unknown })) (fun i => { i with rodHome := turning none true })
    l.resetHeld = false ∧ (l.lane .water).startWait = false ∧ l.time.supply = .ready ∧ l.due l.time.lossWindow = true
    ∧ l.bounded = true ∧ r.due r.time.settle = true ∧ r.door.rod = .braking ∧ r.door.supplyHold = true
    ∧ p.guard.test = none ∧ (p.lane .water).state = .paused ∧ (p.lane .water).pausedFromWait = false
    ∧ p.due (p.lane .water).laneSettle = true ∧ (p.lane .water).queue = activeStep .autoOpen :: [] ∧ p.door.errand = .opening
    ∧ p.door.supplyHold = true ∧ p.door.rod = .home ∧ p.doorClosed = true
    ∧ (withI p (fun i => { i with levelLow := input false })).levelWet = false ∧ p.energised .heater = false
    ∧ { p.door with rod := .braking }.rod ≠ .home
    ∧ (h.inputs.get .rodHome).candidate = some true ∧ h.due (h.inputs.get .rodHome).debounce = true
    ∧ (h.accepted .rodHome).isSome = true ∧ h.door.rod = .home ∧ h.door.errand = .none
    ∧ u.accepted .rodHome = none ∧ u.store.configured = true ∧ u.door.rod = .unknown := by decide

/-- A lock with the rod UNKNOWN and its switch UNSETTLED, closed and open; a subscribed port with room. -/
theorem witness_lock_homing :
    let o := withI open0 (fun i => { i with rodHome := input true })
    let n := withI open0 (fun i => { i with rodHome := unsettled })
    open0.door.rod = .unknown ∧ open0.accepted .rodHome = some false ∧ o.accepted .rodHome = some true ∧ n.accepted .rodHome = none
    ∧ (open0.withPort .a { open0.port .a with classes := 2 }).port .a = { open0.port .a with classes := 2 }
    ∧ (2 : BitVec 6).getLsbD 1 = true := by decide

/-! ### What an exchange, a cut one and a settled pause do -/

/-- R154, R155, R164: after a reset an exchange shifts out OK with tag 0 and the CRC 2B, and then 00H. -/
theorem test_first_exchange : State.reset.shiftsOut .a 6 = [0x00, 0x00, 0x00, 0x2B, 0x00, 0x00] := by decide +kernel

/-- R164: a request of a cut exchange is not taken, and the next one is. -/
theorem test_cut_exchange :
    let s := base.withPort .a { base.port .a with waitCs := true }
    (match exec (.claimLane (req .a [9])) s with
     | .next t =>
       decide (t = base)
         && (match exec (.claimLane (req .a [9])) t with | .next u => decide ((u.port .a).reply.status = .badField) | _ => false)
     | _ => false) = true := by decide

/-- R164: a reset's own port has no exchange in progress. -/
theorem test_wf_reset_part :
    (Instr.resetPart { req .a [] with busy := [.b] }).wf = true ∧ (Instr.resetPart { req .a [] with busy := [.a] }).wf = false := by decide

/-- R40 and R99: the end of a pause of a CIRCULATE's start wait sets the diverter that DIVERTER_SET moved. -/
theorem test_redivert :
    let p := (at' base .water .paused (activeStep (.circulate 1 .upper))).modLane .water
      (fun r => { r with laneSettle := some 1000, pausedFromWait := true })
    (match exec (.pauseSettleExpiry .water) (withI p (fun i => { i with levelLow := unsettled })) with
     | .next t => decide (p.guard.diverter = .lower ∧ t.guard.diverter = .upper)
     | _ => false) = true := by decide

end Sys2Proof.Tests
end

-- ==== The conversions between flow counts and mL (R6, R7) ====
section
namespace Sys2Proof.Machine

/-- The ceiling division is characterised by its upper bounds. -/
theorem ceilDiv_le_iff {a b c : Nat} (hb : 0 < b) : ceilDiv a b ≤ c ↔ a ≤ c * b :=
  calc (a + b - 1) / b ≤ c
    _ ↔ (a + b - 1) / b < c + 1 := Nat.lt_succ_iff.symm
    _ ↔ a + b - 1 < c * b + b := by rw [Nat.div_lt_iff_lt_mul hb, Nat.succ_mul]
    _ ↔ a ≤ c * b := by omega

namespace State

variable (s : State)

/-- R6: the floor as a lower-bound test; only here does a positive K matter. -/
theorem le_toMl_iff (hK : 0 < s.kCounts) (ml counts : Nat) :
    ml ≤ s.toMl counts ↔ ml * s.kCounts ≤ counts * 1000 :=
  Nat.le_div_iff_mul_le hK

/-- R7: the ceiling as an upper-bound test. -/
theorem toCounts_le_iff (ml counts : Nat) :
    s.toCounts ml ≤ counts ↔ ml * s.kCounts ≤ counts * 1000 :=
  ceilDiv_le_iff (by decide)

/-- R7 against R6: both tests compare `ml * K` with `counts * 1000`, so the two conversions form a Galois connection, and the round trips
of R7 are its unit and counit. -/
theorem toCounts_le_iff_le_toMl (hK : 0 < s.kCounts) (ml counts : Nat) :
    s.toCounts ml ≤ counts ↔ ml ≤ s.toMl counts :=
  (s.toCounts_le_iff ml counts).trans (s.le_toMl_iff hK ml counts).symm

/-- R7: a count target reads back as no less than the volume asked. -/
theorem le_toMl_toCounts (hK : 0 < s.kCounts) (ml : Nat) : ml ≤ s.toMl (s.toCounts ml) :=
  (s.toCounts_le_iff_le_toMl hK ml _).mp (Nat.le_refl _)

/-- R7: a measured volume asks for no more than the counts it came from. -/
theorem toCounts_toMl_le (hK : 0 < s.kCounts) (counts : Nat) : s.toCounts (s.toMl counts) ≤ counts :=
  (s.toCounts_le_iff_le_toMl hK _ counts).mpr (Nat.le_refl _)

end State

/-- Settles O17: floor and ceiling by their defining bounds, the round trips by the Galois connection of the two conversions. -/
theorem conversionsAgree : Obligations.ConversionsAgree := by
  intro s hK
  have floor_eq : ∀ counts, s.toMl counts = counts * 1000 / s.kCounts := fun _ => rfl
  exact ⟨floor_eq, s.toCounts_le_iff, s.le_toMl_toCounts hK, s.toCounts_toMl_le hK, s.le_toMl_toCounts hK 200⟩

end Sys2Proof.Machine
end

-- ==== CANCEL ACTION (R61) ====
section
namespace Sys2Proof.Machine

/-! ### The table's answer, by what the slot holds -/

section
variable {s : State} {p : Port} {slot : Nat} {e : ActionEntry}

/-- R61: the table has no such slot. -/
theorem State.cancelAction_outside (h : 15 < slot) : s.cancelAction p slot = s.say .badField :=
  if_pos h

/-- R61: the slot is empty. -/
theorem State.cancelAction_empty (h : slot ≤ 15) (he : s.actions[slot]? = some none) :
    s.cancelAction p slot = s.say .notFound := by
  simp [State.cancelAction, Nat.not_lt.mpr h, he]

/-- R61: the slot holds an entry of another port. -/
theorem State.cancelAction_foreign (h : slot ≤ 15) (he : s.actions[slot]? = some (some e)) (hp : e.owner ≠ p) :
    s.cancelAction p slot = s.say .notOwner := by
  simp [State.cancelAction, Nat.not_lt.mpr h, he, hp]

/-- R61: the slot holds an entry of the port itself, which leaves the table. -/
theorem State.cancelAction_own (h : slot ≤ 15) (he : s.actions[slot]? = some (some e)) (hp : e.owner = p) :
    s.cancelAction p slot = (s.withActions (s.actions.set slot none)).say .ok e.bytes := by
  simp [State.cancelAction, Nat.not_lt.mpr h, he, hp]

end

/-- R61, R156: a CANCEL ACTION that its port hands on leaves the table's answer in the port's slot. -/
theorem exec_cancelAction_handed {q : Request} {slot : Byte} {s : State} (hq : s.hands q .action 1)
    (hpay : q.payload = [slot]) {u : State} {status : Status} {payload : List Byte}
    (ha : s.cancelAction q.port slot.toNat = u.say status payload) :
    exec (.cancelAction q) s = .next (u.reply q status payload) := by
  obtain ⟨⟨hfree, huncut⟩, hright, hlen⟩ := hq
  have hslot : byteAt q.payload 0 = slot.toNat := by rw [hpay]; rfl
  calc exec (.cancelAction q) s
    _ = serve .action 1 q (fun s => s.cancelAction q.port (byteAt q.payload 0)) s := rfl
    _ = .next ((s.cancelAction q.port (byteAt q.payload 0)).state.setReply q.port
          { status := (s.cancelAction q.port (byteAt q.payload 0)).status, tag := q.tag,
            payload := (s.cancelAction q.port (byteAt q.payload 0)).payload }) :=
        serve_handed _ _ q _ s hfree huncut hright hlen
    _ = .next (u.reply q status payload) := by rw [hslot, ha]; rfl

/-- Settles O34: each case is the table's answer to what the slot holds, left in the port's slot. -/
theorem cancelAction : Obligations.CancelAction := by
  intro q slot s hq hpay
  refine ⟨fun hout => ?outside, fun hin hempty => ?empty, fun e hin hentry => ⟨fun hforeign => ?foreign, fun hown => ?own⟩⟩
  case outside => exact exec_cancelAction_handed hq hpay (State.cancelAction_outside hout)
  case empty => exact exec_cancelAction_handed hq hpay (State.cancelAction_empty hin hempty)
  case foreign => exact exec_cancelAction_handed hq hpay (State.cancelAction_foreign hin hentry hforeign)
  case own => exact exec_cancelAction_handed hq hpay (State.cancelAction_own hin hentry hown)

end Sys2Proof.Machine
end

-- ==== CLAIM LANE, RELEASE LANE and TAKE LANE (R62, R67, R68) ====
section
namespace Sys2Proof.Machine

/-! ### Notices to one port -/

@[simp] theorem State.withPort_self (s : State) (p : Port) : s.withPort p (s.port p) = s := by cases p <;> rfl

@[simp] theorem State.withPort_withPort (s : State) (p : Port) (v w : PortRec) :
    (s.withPort p v).withPort p w = s.withPort p w := by cases p <;> rfl

/-- R158: a notice whose set is one port enters that port alone. -/
theorem State.enterFor_singleton (s : State) (p : Port) (n : Notice) :
    s.enterFor [p] n = s.withPort p ((s.port p).enter n) := by cases p <;> rfl

/-- R159: a notice that finds its place changes no subscription. -/
@[simp] theorem PortRec.enter_classes (p : PortRec) (n : Notice) : (p.enter n).classes = p.classes :=
  congrArg PortFace.classes (p.enter_face n)

/-- Notices raised one by one for a port that subscribes to their class: whether it subscribes is settled before the first. -/
theorem State.foldl_enterFor_subscribed {α : Type} (p : Port) (bit : Nat) (n : α → Notice) (es : List α) (u : State) :
    es.foldl (fun u e => if (u.port p).classes.getLsbD bit then u.enterFor [p] (n e) else u) u
      = u.withPort p (if (u.port p).classes.getLsbD bit then es.foldl (fun r e => r.enter (n e)) (u.port p)
          else u.port p) := by
  induction es generalizing u with
  | nil => simp
  | cons e es ih =>
    rw [List.foldl_cons, ih]
    cases hsub : (u.port p).classes.getLsbD bit <;> simp [hsub, State.enterFor_singleton]

/-! ### The change of a holder (R62) -/

theorem resumeEntryOf_eq_decide (p : Port) (l : Lane) :
    resumeEntryOf p l = fun e => decide (e.owner = p ∧ e.action = .resumeLane ∧ e.arg.toNat = l.number) := by
  funext e
  simp [resumeEntryOf, Bool.decide_and, Bool.and_assoc]

theorem dropEntries_eq_map_bind (f : ActionEntry → Prop) [DecidablePred f] (table : List (Option ActionEntry)) :
    dropEntries (fun e => decide (f e)) table = table.map (fun x => x.bind (fun e => if f e then none else some e)) :=
  List.map_congr_left (fun x _ => by cases x <;> simp)

/-- R62: the former holder's port after the removal of its resume entries. -/
def State.droppedPort (s : State) (l : Lane) (p : Port) : PortRec :=
  if (s.port p).classes.getLsbD 2 then
    (entriesWhere (resumeEntryOf p l) 0 s.actions).foldl
      (fun r e => r.enter (s.notice .actionDropped e.1 9 l.number)) (s.port p)
  else s.port p

/-- R62: all that the removal changes is the table and the former holder's port. -/
theorem State.dropResume_some (s : State) (l : Lane) (p : Port) :
    s.dropResume l (some p)
      = (s.withActions (dropEntries (resumeEntryOf p l) s.actions)).withPort p (s.droppedPort l p) :=
  State.foldl_enterFor_subscribed p 2 (fun e : Nat × ActionEntry => s.notice .actionDropped e.1 9 l.number) _ _

/-- R67: a lane without holder has no former holder whose entries could leave. -/
theorem State.setHolder_free {s : State} {l : Lane} (h : (s.lane l).holder = none) (new : Option Port) :
    s.setHolder l new = s.withLane l { s.lane l with holder := new } := by
  rw [State.setHolder, h]
  rfl

/-- R62, R67: the holder changes, and the former holder's resume entries are removed. -/
theorem State.setHolder_held {s : State} {l : Lane} {p : Port} (h : (s.lane l).holder = some p) (new : Option Port) :
    s.setHolder l new = ((s.withLane l { s.lane l with holder := new }).withActions
      (dropEntries (resumeEntryOf p l) s.actions)).withPort p (s.droppedPort l p) := by
  rw [State.setHolder, h, State.dropResume_some]
  rfl

/-! ### The lane's answers, by holder and lane state -/

/-- R68: the lane states in which a lane may be taken. -/
theorem LaneState.takeable_eq_mem (st : LaneState) :
    st.takeable = decide (st ∈ [LaneState.idle, .held, .stalled, .halted]) := by cases st <;> rfl

/-- R68: the lane states in which a lane is busy. -/
theorem LaneState.takeable_eq_not_mem (st : LaneState) :
    st.takeable = !decide (st ∈ [LaneState.ready, .running, .waiting, .retryWait, .paused]) := by cases st <;> rfl

section
variable {s : State} {l : Lane} {p : Port}

/-- R67: the port holds the lane already. -/
theorem State.claimLane_own (h : (s.lane l).holder = some p) : s.claimLane p l = s.done := by
  simp [State.claimLane, h]

/-- R67: no port holds the lane. -/
theorem State.claimLane_free (h : (s.lane l).holder = none) : s.claimLane p l = (s.setHolder l (some p)).done := by
  simp [State.claimLane, h]

/-- R67: another port holds the lane. -/
theorem State.claimLane_foreign {former : Port} (h : (s.lane l).holder = some former) (hne : former ≠ p) :
    s.claimLane p l = s.say .heldByOther := by
  simp [State.claimLane, h, hne]

/-- R68: the port holds the lane already. -/
theorem State.takeLane_own (h : (s.lane l).holder = some p) : s.takeLane p l = s.done :=
  if_pos h

/-- R68: the lane is at work. -/
theorem State.takeLane_busy (h : (s.lane l).holder ≠ some p)
    (hst : (s.lane l).state ∈ [LaneState.ready, .running, .waiting, .retryWait, .paused]) :
    s.takeLane p l = s.say .laneBusy := by
  have hbusy : (s.lane l).state.takeable = false := by rw [LaneState.takeable_eq_not_mem, decide_eq_true hst]; rfl
  simp [State.takeLane, h, hbusy]

/-- R68: the lane is at rest. -/
theorem State.takeLane_rest (h : (s.lane l).holder ≠ some p)
    (hst : (s.lane l).state ∈ [LaneState.idle, .held, .stalled, .halted]) :
    s.takeLane p l = (s.setHolder l (some p)).done := by
  have hrest : (s.lane l).state.takeable = true := by rw [LaneState.takeable_eq_mem, decide_eq_true hst]
  simp [State.takeLane, h, hrest]

end

/-! ### Requests that name a lane (R172) -/

section
variable {q : Request} {lane : Byte} {s : State} {h : Lane → State → Answer}

/-- R156, R172: a request that its port hands on and that names a lane leaves the lane's answer in the port's slot. -/
theorem serve_namedLane {l : Lane} (hq : s.hands q .lane 1) (hpay : q.payload = [lane])
    (hl : laneOf lane.toNat = some l) {u : State} {status : Status} {payload : List Byte}
    (ha : h l s = u.say status payload) :
    serve .lane 1 q (withNamedLane q h) s = .next (u.reply q status payload) := by
  obtain ⟨⟨hfree, huncut⟩, hright, hlen⟩ := hq
  have hans : withNamedLane q h s = u.say status payload := by
    have hbyte : byteAt q.payload 0 = lane.toNat := by rw [hpay]; rfl
    rw [withNamedLane, hbyte, hl, ← ha]
  rw [serve_handed _ _ q _ s hfree huncut hright hlen, hans]
  rfl

/-- R172: a lane other than 0 and 1 is refused. -/
theorem serve_unknownLane (hq : s.hands q .lane 1) (hpay : q.payload = [lane]) (hl : laneOf lane.toNat = none) :
    serve .lane 1 q (withNamedLane q h) s = .next (s.reply q .badField) := by
  obtain ⟨⟨hfree, huncut⟩, hright, hlen⟩ := hq
  have hans : withNamedLane q h s = s.say .badField := by
    have hbyte : byteAt q.payload 0 = lane.toNat := by rw [hpay]; rfl
    rw [withNamedLane, hbyte, hl]
  rw [serve_handed _ _ q _ s hfree huncut hright hlen, hans]
  rfl

end

theorem laneOf_eq_none : ∀ {n : Nat}, 1 < n → laneOf n = none
  | _ + 2, _ => rfl

/-- Settles O35: each case is the lane's answer left in the port's slot, and the change of a holder is `setHolder`. -/
theorem laneHolders : Obligations.LaneHolders := by
  intro q lane s hq hpay
  refine ⟨fun hout => ?unknown, fun l hl => ⟨fun hown => ?own, fun hfree => ?free, fun p hp hne => ?foreign,
    fun hnot => ⟨?release, fun hbusy => ?busy, fun hfree hrest => ?takeFree⟩, fun p hp c new hc => ?change⟩⟩
  case unknown =>
    have hnone := laneOf_eq_none hout
    exact ⟨serve_unknownLane hq hpay hnone, serve_unknownLane hq hpay hnone, serve_unknownLane hq hpay hnone⟩
  case own =>
    exact ⟨serve_namedLane hq hpay hl (State.claimLane_own hown), serve_namedLane hq hpay hl (State.takeLane_own hown)⟩
  case free =>
    rw [← State.setHolder_free hfree]
    exact serve_namedLane hq hpay hl (State.claimLane_free hfree)
  case foreign => exact serve_namedLane hq hpay hl (State.claimLane_foreign hp hne)
  case release => exact serve_namedLane hq hpay hl (if_neg hnot)
  case busy => exact serve_namedLane hq hpay hl (State.takeLane_busy hnot hbusy)
  case takeFree =>
    rw [← State.setHolder_free hfree]
    exact serve_namedLane hq hpay hl (State.takeLane_rest hnot hrest)
  case change =>
    have hexec : exec c s = .next ((s.setHolder l new).reply q .ok) := by
      rcases hc with ⟨rfl, rfl, rfl⟩ | ⟨rfl, hne, rfl, hrest⟩
      · exact serve_namedLane hq hpay hl (if_pos hp)
      · have hnot : (s.lane l).holder ≠ some q.port := by simp [hp, hne]
        exact serve_namedLane hq hpay hl (State.takeLane_rest hnot hrest)
    refine ⟨s.setHolder l new, hexec, ?_⟩
    rw [State.setHolder_held hp, ← resumeEntryOf_eq_decide]
    refine ⟨rfl, ?table, fun p' hne => ?others, ?former⟩
    case table => rw [← dropEntries_eq_map_bind, ← resumeEntryOf_eq_decide]; rfl
    case others => exact State.withPort_port_ne _ p p' _ hne
    case former => exact State.withPort_port _ p _

end Sys2Proof.Machine
end

-- ==== RESET RESIN (R122) ====
section
namespace Sys2Proof.Machine

/-- R172: a field of two bytes. -/
theorem be_two (n : Nat) : be 2 n = [BitVec.ofNat 8 (n / 256), BitVec.ofNat 8 n] := rfl

/-! ### The Softener's answer, by the lock -/

/-- R122: no profile is locked yet. -/
theorem State.resetResin_unlocked {s : State} (h : s.store.configured = false) : s.resetResin = s.say .notReady := by
  simp [State.resetResin, h]

/-- R122: the account becomes fresh, and the r_bp is the one before that. -/
theorem State.resetResin_locked {s : State} (h : s.store.configured = true) :
    s.resetResin = s.freshResin.say .ok (be 2 s.resinBp) := by
  simp [State.resetResin, h]

/-- R156: a request that its port hands on leaves its block's answer in the port's slot. -/
theorem serve_handed_say {cls : RightsClass} {len : Nat} {q : Request} {h : State → Answer} {s u : State} {status : Status}
    {payload : List Byte} (hq : s.hands q cls len) (ha : h s = u.say status payload) :
    serve cls len q h s = .next (u.reply q status payload) := by
  obtain ⟨⟨hfree, huncut⟩, hright, hlen⟩ := hq
  rw [serve_handed cls len q h s hfree huncut hright hlen, ha]
  rfl

/-- Settles O46: each case is the Softener's answer before or after the lock, left in the port's slot. -/
theorem resetResin : Obligations.ResetResin := by
  intro q s hq
  refine ⟨fun hopen => ?unlocked, fun hlocked => ?locked⟩
  case unlocked => exact serve_handed_say hq (State.resetResin_unlocked hopen)
  case locked =>
    have hanswer := State.resetResin_locked hlocked
    rw [be_two] at hanswer
    exact serve_handed_say hq hanswer

end Sys2Proof.Machine
end

-- ==== REFILL and SET STOCK (R125, R137, R138) ====
section
namespace Sys2Proof.Machine

/-! ### The ports that a notice by class enters (R158) -/

/-- R158: a notice enters the ports of its set and no other. -/
theorem State.enterFor_port (s : State) (set : List Port) (n : Notice) (p : Port) :
    (s.enterFor set n).port p = if p ∈ set then (s.port p).enter n else s.port p := by cases p <;> rfl

theorem State.mem_subscribers {s : State} {bit : Nat} {p : Port} :
    p ∈ s.subscribers bit ↔ (s.port p).classes.getLsbD bit = true := by
  cases p <;> simp [State.subscribers, portsWhere]

/-- R158: a notice by class enters the ports that subscribe to the class of its kind. -/
theorem State.raiseByClass_port (s : State) (n : Notice) (p : Port) :
    (s.raiseByClass n).port p
      = if (s.port p).classes.getLsbD n.kind.classBit = true then (s.port p).enter n else s.port p := by
  simp only [State.raiseByClass, State.enterFor_port, State.mem_subscribers]

/-! ### The level of an account (R125) -/

@[simp] theorem State.withAccount_withAccount (s : State) (a : Agent) (v w : StockAccount) :
    (s.withAccount a v).withAccount a w = s.withAccount a w := by cases a <;> rfl

/-- R125: the reference of a STOCK notice. -/
theorem StockLevel.number_reference : ∀ {l : StockLevel}, l ≠ .ok →
    BitVec.ofNat 16 l.number = if l = .low then 1 else 2
  | .ok, h => absurd rfl h
  | .low, _ => rfl
  | .empty, _ => rfl

section
variable {s : State} {a : Agent} {acc : StockAccount}

/-- R125: the evaluation of a VALID account: its level by its stock, and STOCK at a change to LOW or EMPTY. -/
theorem State.evalLevel_withAccount (hv : acc.valid = true) :
    (s.withAccount a acc).evalLevel a =
      if (s.leveled a acc).level ≠ acc.level ∧ (s.leveled a acc).level ≠ .ok then
        (s.withAccount a (s.leveled a acc)).raiseByClass
          (s.notice .stock a.number (s.leveled a acc).level.number acc.stock)
      else s.withAccount a (s.leveled a acc) := by
  rw [State.evalLevel, State.withAccount_account, if_pos hv]
  simp only [State.withAccount_withAccount]
  rfl

/-- R125: an account that becomes `acc`, which is VALID, takes its level from its stock. -/
theorem State.evalLevel_takesAccount (hv : acc.valid = true) :
    s.takesAccount ((s.withAccount a acc).evalLevel a) a acc := by
  rw [State.evalLevel_withAccount hv]
  split
  next hraise =>
    refine ⟨rfl, fun p => ?_⟩
    rw [State.raiseByClass_port, ← StockLevel.number_reference hraise.2]
    simp only [ne_eq, hraise, not_false_eq_true, true_and]
    rfl
  next hquiet => exact ⟨rfl, fun p => (if_neg fun ⟨hchange, hlow, _⟩ => hquiet ⟨hchange, hlow⟩).symm⟩

/-- R125, R137: a VALID account whose stock changes. -/
theorem State.setStock_takesAccount (hv : (s.account a).valid = true) (stock : Nat) :
    s.takesAccount (s.setStock a stock) a { s.account a with stock := stock } :=
  State.evalLevel_takesAccount hv

/-- R125, R138: an account whose stock is declared. -/
theorem State.declareStock_takesAccount (stock : Nat) :
    s.takesAccount (s.declareStock a stock) a { s.account a with valid := true, tally := 0, held := none, stock := stock } :=
  State.evalLevel_takesAccount rfl

end

/-- R138: a write of an agent's stock is held while its dose record has a stroke in ON. -/
theorem State.strokeOn_iff {s : State} {a : Agent} :
    s.strokeOn a = true ↔ ∃ r, s.dosing.record = some r ∧ r.agent = a ∧ r.phase = .on := by
  unfold State.strokeOn
  cases s.dosing.record <;> simp

/-! ### The Dosing Unit's answers -/

section
variable {s : State} {a : Agent} {agent v : Nat}

/-- R137: no such agent, or an amount out of its range. -/
theorem State.refill_badField (h : agentOf agent = none ∨ v < 1 ∨ 2000000 < v) : s.refill agent v = s.say .badField := by
  unfold State.refill
  cases ha : agentOf agent with
  | none => rfl
  | some a => exact if_pos (h.resolve_left (by simp [ha]))

/-- R137: an agent's answer to an amount in its range. -/
theorem State.refill_inRange (ha : agentOf agent = some a) (hlo : 1 ≤ v) (hhi : v ≤ 2000000) :
    s.refill agent v =
      if s.store.configured = true ∧ (s.account a).valid = true then s.refillStock a v else s.say .notReady := by
  have hrange : ¬(v < 1 ∨ 2000000 < v) := by omega
  rw [State.refill, ha]
  refine (if_neg hrange).trans ?_
  cases s.store.configured <;> cases (s.account a).valid <;> rfl

/-- R137: no profile is locked yet, or the agent's account is UNLOADED. -/
theorem State.refill_notReady (ha : agentOf agent = some a) (hlo : 1 ≤ v) (hhi : v ≤ 2000000)
    (h : s.store.configured = false ∨ (s.account a).valid = false) : s.refill agent v = s.say .notReady := by
  rw [State.refill_inRange ha hlo hhi]
  refine if_neg fun ⟨hlocked, hvalid⟩ => ?_
  simp [hlocked, hvalid] at h

/-- R137: an amount that a VALID account takes. -/
theorem State.refill_taken (ha : agentOf agent = some a) (hlo : 1 ≤ v) (hhi : v ≤ 2000000)
    (hlocked : s.store.configured = true) (hvalid : (s.account a).valid = true) :
    s.refill agent v = (s.setStock a (min (s.capacity a) ((s.account a).stock + v))).say
      (if (s.account a).stock + v ≤ s.capacity a then .ok else .clamped)
      (be 4 (min (s.capacity a) ((s.account a).stock + v))) := by
  rw [State.refill_inRange ha hlo hhi]
  exact if_pos ⟨hlocked, hvalid⟩

/-- R138: no such agent. -/
theorem State.setStockAnswer_badField (h : agentOf agent = none) : s.setStockAnswer agent v = s.say .badField := by
  simp [State.setStockAnswer, h]

/-- R138: no profile is locked yet. -/
theorem State.setStockAnswer_notReady (ha : agentOf agent = some a) (hopen : s.store.configured = false) :
    s.setStockAnswer agent v = s.say .notReady := by
  simp [State.setStockAnswer, ha, hopen]

/-- R138: the value is declared at once, or held while the agent has a stroke in ON. -/
theorem State.setStockAnswer_taken (ha : agentOf agent = some a) (hlocked : s.store.configured = true) :
    s.setStockAnswer agent v
      = (if s.strokeOn a then s.holdWrite a (.set (min (s.capacity a) v))
          else s.declareStock a (min (s.capacity a) v)).say
        (if v ≤ s.capacity a then .ok else .clamped) (be 4 (min (s.capacity a) v)) := by
  simp [State.setStockAnswer, ha, hlocked, State.setStockValue]

end

/-! ### Requests that name an agent and an amount (R172) -/

theorem agentOf_eq_none : ∀ {n : Nat}, 1 < n → agentOf n = none
  | _ + 2, _ => rfl

theorem toNat_append_byte {m : Nat} (x : BitVec m) (b : Byte) : (x ++ b).toNat = x.toNat * 256 + b.toNat := by
  rw [BitVec.toNat_append, ← Nat.shiftLeft_add_eq_or_of_lt b.isLt, Nat.shiftLeft_eq]

/-- R172: four bytes, the most significant first, spell the number of their concatenation. -/
theorem beValue_four (v3 v2 v1 v0 : Byte) : beValue [v3, v2, v1, v0] = (v3 ++ v2 ++ v1 ++ v0).toNat := by
  simp only [beValue, List.foldl_cons, List.foldl_nil, toNat_append_byte, Nat.zero_mul, Nat.zero_add]

/-- R156, R172: a request that its port hands on, with an agent and an amount, leaves the block's answer to them in the port's slot. -/
theorem serve_agentAmount {cls : RightsClass} {q : Request} {agent v3 v2 v1 v0 : Byte} {v : Nat} {s u : State} {status : Status}
    {payload : List Byte} (h : State → Nat → Nat → Answer) (hq : s.hands q cls 5)
    (hpay : q.payload = [agent, v3, v2, v1, v0]) (hv : v = (v3 ++ v2 ++ v1 ++ v0).toNat)
    (ha : h s agent.toNat v = u.say status payload) :
    serve cls 5 q (fun s => h s (byteAt q.payload 0) (fieldAt q.payload 1 4)) s = .next (u.reply q status payload) := by
  have hagent : byteAt q.payload 0 = agent.toNat := by rw [hpay]; rfl
  have hamount : fieldAt q.payload 1 4 = v := by rw [hpay, hv]; exact beValue_four v3 v2 v1 v0
  apply serve_handed_say hq
  rw [hagent, hamount, ha]

/-- Settles O48: each case is the Dosing Unit's answer left in the port's slot; a stock that changes takes its level (R125). -/
theorem stockRequests : Obligations.StockRequests := by
  intro q s agent v3 v2 v1 v0 v hpay hv
  refine ⟨fun hq => ?refill, fun hq => ?setStock⟩
  case refill =>
    have answered {u : State} {status : Status} {payload : List Byte} (ha : s.refill agent.toNat v = u.say status payload) :
        exec (.refill q) s = .next (u.reply q status payload) := serve_agentAmount State.refill hq hpay hv ha
    refine ⟨fun hbad => ?bad, fun a ha hlo hhi => ⟨fun hnot => ?notReady, fun hlocked hvalid => ?taken⟩⟩
    case bad => exact answered (State.refill_badField (hbad.imp_left agentOf_eq_none))
    case notReady => exact answered (State.refill_notReady ha hlo hhi hnot)
    case taken =>
      exact ⟨_, answered (State.refill_taken ha hlo hhi hlocked hvalid), State.setStock_takesAccount hvalid _⟩
  case setStock =>
    have answered {u : State} {status : Status} {payload : List Byte}
        (ha : s.setStockAnswer agent.toNat v = u.say status payload) :
        exec (.setStock q) s = .next (u.reply q status payload) := serve_agentAmount State.setStockAnswer hq hpay hv ha
    refine ⟨fun hbad => ?bad, fun a ha => ⟨fun hopen => ?notReady, fun hlocked => ?taken⟩⟩
    case bad => exact answered (State.setStockAnswer_badField (agentOf_eq_none hbad))
    case notReady => exact answered (State.setStockAnswer_notReady ha hopen)
    case taken =>
      refine ⟨_, answered (State.setStockAnswer_taken ha hlocked), fun hon => ?held, fun hoff => ?atOnce⟩
      case held => exact if_pos (State.strokeOn_iff.mpr hon)
      case atOnce =>
        have hnone : ¬ s.strokeOn a = true := by
          rw [State.strokeOn_iff]
          rintro ⟨r, hr, hagent, hphase⟩
          exact hoff r hr hagent hphase
        rw [if_neg hnone]
        exact State.declareStock_takesAccount _

end Sys2Proof.Machine
end

-- ==== CLEAR ROD FAULT (R152) ====
section
namespace Sys2Proof.Machine

/-! ### The begin of a homing errand (R151, R152) -/

@[simp] theorem State.withDoor_supplyReady (s : State) (v : DoorUnit) : (s.withDoor v).supplyReady = s.supplyReady := rfl

section
variable {s : State}

/-- With the supply READY the brake's dead time toward the retract starts. -/
theorem State.startHoming_ready (h : s.supplyReady = true) (cause : HomingCause) :
    s.startHoming cause = s.withDoor { s.door with
      errand := .homing, cause := some cause, rod := .braking, drive := .brake, supplyHold := false, nextMove := .retract,
      deadTimer := timerFor s.now 50 } :=
  if_pos h

/-- Without the supply the errand brakes and waits for it. -/
theorem State.startHoming_waits (h : ¬ s.supplyReady = true) (cause : HomingCause) :
    s.startHoming cause = s.withDoor { s.door with
      errand := .homing, cause := some cause, rod := .braking, drive := .brake, supplyHold := true } :=
  if_neg h

/-! ### The Door Unit's answers -/

/-- R152: no profile is locked yet. -/
theorem State.clearRodFault_notReady (h : s.store.configured = false) : s.clearRodFault = s.say .notReady := by
  simp [State.clearRodFault, h]

/-- R152: there is no rod fault to clear. -/
theorem State.clearRodFault_wrongState (hlocked : s.store.configured = true) (hrod : s.door.rod ≠ .jammed) :
    s.clearRodFault = s.say .wrongState := by
  simp [State.clearRodFault, hlocked, hrod]

/-- R152: the jam is cleared and the rod is homed. -/
theorem State.clearRodFault_jammed (hlocked : s.store.configured = true) (hrod : s.door.rod = .jammed) :
    s.clearRodFault = ((s.withDoor { s.door with jam := .none }).startHoming .clearFault).say .ok := by
  simp [State.clearRodFault, hlocked, hrod, State.modDoor, State.done]

end

/-- Settles O53: each case is the Door Unit's answer left in the port's slot; a jammed rod's answer is the begin of its homing. -/
theorem clearRodFault : Obligations.ClearRodFault := by
  intro q s hq
  refine ⟨fun hopen => ?notReady, fun hlocked hrod => ?wrongState, fun hlocked hjam => ?jammed⟩
  case notReady => exact serve_handed_say hq (State.clearRodFault_notReady hopen)
  case wrongState => exact serve_handed_say hq (State.clearRodFault_wrongState hlocked hrod)
  case jammed =>
    have hanswer := State.clearRodFault_jammed hlocked hjam
    by_cases hready : s.supplyReady = true
    case pos =>
      rw [State.startHoming_ready (s.withDoor_supplyReady _ ▸ hready)] at hanswer
      rw [if_pos hready]
      exact serve_handed_say hq hanswer
    case neg =>
      rw [State.startHoming_waits (s.withDoor_supplyReady _ ▸ hready)] at hanswer
      rw [if_neg hready]
      exact serve_handed_say hq hanswer

end Sys2Proof.Machine
end

-- ==== The interlocks of settled outputs, and every step that keeps them (R34, R36, R38, R43) ====
section
namespace Sys2Proof.Machine

/-! ### What it is for the outputs to be settled -/

theorem Output.mem_evalOrder (o : Output) : o ∈ Output.evalOrder := by cases o <;> decide

/-- R34: settled outputs, output by output. -/
theorem State.settled_iff {s : State} : s.settled = true ↔ ∀ o, s.energised o = s.wanted o := by
  simp [State.settled, Output.mem_evalOrder]

/-- R34: an output that is settled is energised only where its permit holds. -/
theorem State.permit_of_energised {s : State} (h : s.settled = true) {o : Output}
    (hpump : ∀ src, o ≠ Agent.pump src) (he : s.energised o = true) : s.permit o = true := by
  have hw : s.wanted o = true := (State.settled_iff.mp h o) ▸ he
  cases o
  case doseD => exact absurd rfl (hpump .detergent)
  case doseR => exact absurd rfl (hpump .rinse)
  case mainsRelay => exact hw
  all_goals exact (Bool.and_eq_true_iff.mp hw).2

/-- R37: a pump that is settled is energised only where the terms hold that are tested at every evaluation. -/
theorem State.pumpBase_of_energised {s : State} (h : s.settled = true) (a : Agent) (he : s.energised a.pump = true) :
    s.pumpBase a.pump = true := by
  have hw : s.pumpWanted a.pump = true := by
    rw [← he, State.settled_iff.mp h a.pump]
    cases a <;> rfl
  simp only [State.pumpWanted, State.pumpWhole, Bool.or_eq_true, Bool.and_eq_true] at hw
  rcases hw with ⟨-, ⟨hbase, -⟩, -⟩ | ⟨⟨-, hbase⟩, -⟩
  · exact hbase
  · exact hbase

section
variable {s : State} (h : s.settled = true)
include h

/-- R38: the terms of the relay. -/
theorem State.relay_of_energised (he : s.energised .mainsRelay = true) :
    s.supplyReady = true ∧ s.store.configured = true ∧ s.guard.latched = false := by
  have hp := State.permit_of_energised h (by rintro ⟨⟩ <;> simp [Agent.pump]) he
  simpa [State.permit, and_assoc] using hp

/-- R36: the terms of the inlet valves. -/
theorem State.inletPath_of_energised {o : Output} (ho : o = .inlet ∨ o = .regen) (he : s.energised o = true) :
    s.energised .mainsRelay = true ∧ s.doorClosed = true ∧ s.floatClear = true ∧ s.guard.flood = false := by
  rcases ho with rfl | rfl
  all_goals
    have hp := State.permit_of_energised h (by rintro ⟨⟩ <;> simp [Agent.pump]) he
    simp [State.permit] at hp
    simp [hp]

/-- R36: the terms of the heater. -/
theorem State.heater_of_energised (he : s.energised .heater = true) :
    s.energised .mainsRelay = true ∧ s.doorClosed = true ∧ s.levelWet = true ∧ s.energised .circ = true
      ∧ s.tempBelowCutoff = true ∧ s.guard.flood = false := by
  have hp := State.permit_of_energised h (by rintro ⟨⟩ <;> simp [Agent.pump]) he
  simpa [State.permit, and_assoc] using hp

theorem State.inletSafe_of_settled : s.inletSafe = true := by
  have terms {o : Output} (ho : o = .inlet ∨ o = .regen) (he : s.energised o = true) :
      (s.doorClosed && s.floatClear && !s.guard.flood && s.supplyReady) = true := by
    obtain ⟨hrelay, hdoor, hfloat, hflood⟩ := State.inletPath_of_energised h ho he
    obtain ⟨hready, -, -⟩ := State.relay_of_energised h hrelay
    simp [hdoor, hfloat, hflood, hready]
  cases hi : s.energised .inlet
  · cases hr : s.energised .regen
    · simp [State.inletSafe, hi, hr]
    · simp [State.inletSafe, terms (.inr rfl) hr]
  · simp [State.inletSafe, terms (.inl rfl) hi]

theorem State.heaterSafe_of_settled : s.heaterSafe = true := by
  cases he : s.energised .heater
  · simp [State.heaterSafe, he]
  · obtain ⟨-, hdoor, hwet, hcirc, htemp, hflood⟩ := State.heater_of_energised h he
    simp [State.heaterSafe, hdoor, hwet, hcirc, htemp, hflood]

theorem State.relaySafe_of_settled : s.relaySafe = true := by
  cases he : s.energised .mainsRelay
  · simp [State.relaySafe, he]
  · obtain ⟨hready, hlocked, hclear⟩ := State.relay_of_energised h he
    simp [State.relaySafe, hready, hlocked, hclear]

/-- R43: what a LATCHED latch withholds. -/
theorem State.deEnergised_of_latched (hl : s.guard.latched = true) {o : Output}
    (ho : o ∈ [Output.mainsRelay, .inlet, .regen, .heater, .circ, .doseD, .doseR]) : s.energised o = false := by
  rw [← Bool.not_eq_true]
  intro he
  have hrelay : s.energised .mainsRelay = false := by
    rw [← Bool.not_eq_true]
    intro hr
    obtain ⟨-, -, hclear⟩ := State.relay_of_energised h hr
    simp [hl] at hclear
  simp only [List.mem_cons, List.not_mem_nil, or_false] at ho
  rcases ho with rfl | rfl | rfl | rfl | rfl | rfl | rfl
  · simp [hrelay] at he
  · exact absurd (State.inletPath_of_energised h (.inl rfl) he).1 (by simp [hrelay])
  · exact absurd (State.inletPath_of_energised h (.inr rfl) he).1 (by simp [hrelay])
  · exact absurd (State.heater_of_energised h he).1 (by simp [hrelay])
  · have hp := State.permit_of_energised h (by rintro ⟨⟩ <;> simp [Agent.pump]) he
    simp [State.permit, hl] at hp
  · have hp := State.pumpBase_of_energised h .detergent he
    simp [State.pumpBase, hl] at hp
  · have hp := State.pumpBase_of_energised h .rinse he
    simp [State.pumpBase, hl] at hp

theorem State.latchSafe_of_settled : s.latchSafe = true := by
  cases hl : s.guard.latched
  · simp [State.latchSafe, hl]
  · simp [State.latchSafe, hl, State.deEnergised_of_latched h hl]

/-- R36, R38, R43: settled outputs keep every interlock. -/
theorem State.safe_of_settled : s.safe = true := by
  simp [State.safe, State.inletSafe_of_settled h, State.heaterSafe_of_settled h, State.relaySafe_of_settled h,
    State.latchSafe_of_settled h]

/-- R36: no settled output is energised without the supply. -/
theorem State.deEnergised_of_lost (hs : s.supplyReady = false) (o : Output) : s.energised o = false := by
  rw [← Bool.not_eq_true]
  intro he
  have hrelay : s.energised .mainsRelay = false := by
    rw [← Bool.not_eq_true]
    intro hr
    exact absurd (State.relay_of_energised h hr).1 (by simp [hs])
  cases o
  case mainsRelay => simp [hrelay] at he
  case inlet => exact absurd (State.inletPath_of_energised h (.inl rfl) he).1 (by simp [hrelay])
  case regen => exact absurd (State.inletPath_of_energised h (.inr rfl) he).1 (by simp [hrelay])
  case heater => exact absurd (State.heater_of_energised h he).1 (by simp [hrelay])
  case doseD => simpa [State.pumpBase, hs] using State.pumpBase_of_energised h .detergent he
  case doseR => simpa [State.pumpBase, hs] using State.pumpBase_of_energised h .rinse he
  all_goals
    have hp := State.permit_of_energised h (by rintro ⟨⟩ <;> simp [Agent.pump]) he
    simp [State.permit, hs] at hp

end

/-- R36: without the supply, outputs that are all de-energised are settled. -/
theorem State.settled_of_lost {s : State} (hs : s.supplyReady = false) (hoff : ∀ o, s.energised o = false) :
    s.settled = true := by
  rw [State.settled_iff]
  intro o
  rw [hoff o]
  cases o <;>
    simp [State.wanted, State.permit, State.pumpWanted, State.pumpWhole, State.pumpBase, hs, hoff]

end Sys2Proof.Machine
end

-- ==== The commands by the frame they are taken in: requests to a block, and events inside the part ====
section
namespace Sys2Proof.Machine

/-- What a request asks of the block that owns it (R156, R157): rights class, payload length, the request and the block's answer. -/
structure Service where
  cls : RightsClass
  len : Nat
  request : Request
  block : State → Answer

/-- A READ of a content stream, whose payload is the page (R173). -/
def Service.page (q : Request) (stream : State → List Byte) : Service :=
  { cls := .query, len := 1, request := q, block := fun s => s.sayPage (byteAt q.payload 0) (stream s) }

/-- A request with a lane as its whole payload, which only the lane's holder may make (R69). -/
def Service.holder (q : Request) (h : Lane → State → Answer) : Service :=
  { cls := .lane, len := 1, request := q, block := asHolder q h }

end Sys2Proof.Machine

namespace Sys2Proof
open Machine

/-- The request that a command hands to a block; none for events, for resets, and for the exchanges that the port answers itself. -/
def Instr.service : Instr → Option Service
  | .readTimeBase q => some (.page q State.streamTimeBase)
  | .readInputs q => some (.page q State.streamInputs)
  | .readSamples q => some (.page q State.streamSamples)
  | .readOutputs q => some (.page q State.streamOutputs)
  | .readActions q => some (.page q State.streamActions)
  | .readSoftener q => some (.page q State.streamSoftener)
  | .readDosing q => some (.page q State.streamDosing)
  | .readDoor q => some (.page q State.streamDoor)
  | .readPort q => some (.page q (fun s => s.streamPort q.port))
  | .readCycle q => some (.page q State.streamCycle)
  | .readProfile q => some (.page q State.streamProfile)
  | .readSettings q => some (.page q State.streamSettings)
  | .readLane q =>
    some ⟨.query, 2, q, withNamedLane q (fun l s => s.sayPage (byteAt q.payload 1) (s.streamLane l))⟩
  | .readStep q => some ⟨.query, 3, q, withNamedLane q (State.readStep (fieldAt q.payload 1 2))⟩
  | .sampleNow q =>
    some ⟨.action, 0, q, fun s => (s.requestSample (some q.port) false).say .ok (flagBytes s.sampler.turb.lit)⟩
  | .clearFault q => some ⟨.service, 0, q, State.clearFault⟩
  | .testOutput q => some ⟨.service, 2, q, fun s => s.testOutput (byteAt q.payload 0) (byteAt q.payload 1)⟩
  | .postAction q => some ⟨.action, 9, q, fun s => s.postAction q⟩
  | .cancelAction q => some ⟨.action, 1, q, fun s => s.cancelAction q.port (byteAt q.payload 0)⟩
  | .claimLane q => some ⟨.lane, 1, q, withNamedLane q (State.claimLane q.port)⟩
  | .takeLane q => some ⟨.lane, 1, q, withNamedLane q (State.takeLane q.port)⟩
  | .releaseLane q => some (.holder q State.releaseHolder)
  | .skipStep q => some (.holder q State.skipStep)
  | .retryStep q => some (.holder q State.retryStep)
  | .flushLane q => some (.holder q State.flushLane)
  | .holdLane q => some (.holder q State.holdLane)
  | .resumeLane q => some (.holder q State.resumeLane)
  | .postStep q =>
    some ⟨.lane, 10, q,
      fun s => if postBytesOk q.payload then asHolder q (State.postStep q.payload) s else s.say .badField⟩
  | .resetResin q => some ⟨.accounts, 0, q, State.resetResin⟩
  | .refill q => some ⟨.refill, 5, q, fun s => s.refill (byteAt q.payload 0) (fieldAt q.payload 1 4)⟩
  | .setStock q => some ⟨.accounts, 5, q, fun s => s.setStockAnswer (byteAt q.payload 0) (fieldAt q.payload 1 4)⟩
  | .clearRodFault q => some ⟨.service, 0, q, State.clearRodFault⟩
  | .subscribe q => some ⟨.query, 3, q, fun s => s.subscribe q⟩
  | .takeNotices q => some ⟨.query, 0, q, fun s => s.takeNotices q.port⟩
  | .profileField q => some ⟨.profile, 5, q, fun s => s.profileField (byteAt q.payload 0) (fieldAt q.payload 1 4)⟩
  | .profileLock q => some ⟨.profile, 0, q, State.profileLock⟩
  | .writeSetting q =>
    some ⟨.settings, 5, q, fun s => s.writeSetting q.port (byteAt q.payload 0) (fieldAt q.payload 1 4)⟩
  | .loadAccounts q => some ⟨.accounts, 13, q, fun s => s.loadAccounts q.payload⟩
  | .beginCycle q => some ⟨.lane, 0, q, State.beginCycle⟩
  | .endCycle q => some ⟨.lane, 0, q, State.endCycle⟩
  | _ => none

/-- What an event does that is taken unless RESET_N is held low (R171); none for requests, resets, exchanges and the changes of pins. -/
def Instr.event : Instr → Option (State → State)
  | .runClockTick => some State.tick
  | .flowEdge rising => some fun s => if s.time.edgeMode.counts rising then s.countEdge else s
  | .zeroCrossEdge => some fun s =>
    let s1 := s.modTime (fun t => { t with zcPresent := true, lossWindow := s.timer 61 })
    if s.time.supply = .lost ∧ s.time.zcPresent = false ∧ s.pins.railOk = true then s1.startSettle else s1
  | .lossWindowExpiry order => some fun s =>
    if s.due s.time.lossWindow then
      let s1 := s.modTime (fun t => { t with lossWindow := none, zcPresent := false, settle := none })
      if s.supplyReady then s1.supplyBecomesLost .zeroCross order else s1
    else s
  | .supplySettleExpiry order => some fun s => if s.due s.time.settle then s.supplyBecomesReady order else s
  | .debounceTimerExpiry i order => some fun s =>
    match (s.inputs.get i).candidate with
    | none => s
    | some level => if s.due (s.inputs.get i).debounce then s.accept i level order else s
  | .tempSampleTimerExpiry code order => some fun s =>
    if s.due s.sampler.tempTimer then s.sampleTemp code order else s
  | .ledTimerExpiry code => some fun s => if s.due s.sampler.turb.ledTimer then s.completeSample code else s
  | .stuckOnWindowExpiry o => some fun s => if s.due (s.guard.checks.get o).stuckOn then s.stuckOnFault o else s
  | .stuckOffWindowExpiry o => some fun s => if s.due (s.guard.checks.get o).stuckOff then s.stuckOffFault o else s
  | .latchDrainExpiry => some fun s =>
    if s.due s.guard.latchDrain then (s.withGuard { s.guard with latchDrain := none }).putForced.evaluate else s
  | .floodClearTimerExpiry => some fun s => if s.guard.flood && s.due s.guard.floodClear then s.floodEnds else s
  | .testTimerExpiry => some fun s => if s.due s.guard.testTimer then s.endTest else s
  | .actionDueSet r => some fun s => if (entriesWhere (s.entryDue r) 0 s.actions).isEmpty then s else s.runDueSet r
  | .startAttempt l => some fun s => if s.attemptDue l then s.attemptInOrder l else s
  | .timeLimitExpiry l => some fun s => if s.limitReached l then s.limitExpires l else s
  | .retryTimerExpiry l => some fun s =>
    if (s.lane l).state = .retryWait ∧ s.due (s.lane l).retry = true then
      s.modLane l (fun r => { r with retry := none }.toReady)
    else s
  | .pauseSettleExpiry l => some fun s =>
    if (s.lane l).state = .paused ∧ s.due (s.lane l).laneSettle = true then s.pauseEnds l else s
  | .fillNoFlowExpiry => some fun s =>
    if s.due s.engine.fillNoFlow && s.activeWork .water (fun w => w.isFill) then
      (s.withEngine { s.engine with fillNoFlow := none }).failCounted .water .noFlow
    else s
  | .drainRunOnComplete => some fun s =>
    if s.waterMeets s.runOnComplete then s.succeed .water ResultFlags.clear (some (s.lane .water).running) else s
  | .circulateComplete => some fun s =>
    if s.waterMeets StepRec.circulated then s.succeed .water ResultFlags.clear none else s
  | .waterDryWindowExpiry => some fun s =>
    if s.due s.engine.waterDry then
      (s.withEngine { s.engine with waterDry := none }).failCounted .water .noWater
    else s
  | .pauseStepComplete => some fun s =>
    if s.waterMeets StepRec.paused then s.succeed .water ResultFlags.clear none else s
  | .soakComplete => some fun s => if s.soakDone then s.soakEnds else s
  | .regenNoFlowExpiry => some fun s =>
    if s.due s.softener.noFlow && decide (s.softener.phase ≠ .none) then
      (s.modSoftener (fun f => { f with noFlow := none })).failCounted .water .noFlow
    else s
  | .doseOnTimerExpiry => some fun s => if s.doseDue DoseRec.onTimer then s.strokeEnds else s
  | .doseOffTimerExpiry => some fun s =>
    if s.doseDue DoseRec.offTimer then (s.modDose (fun r => { r with offTimer := none })).strokeDue else s
  | .doseDryWindowExpiry => some fun s =>
    if s.doseDue DoseRec.dry then (s.modDose (fun r => { r with dry := none })).failCounted .dose .noWater else s
  | .extendTimerExpiry => some fun s =>
    if s.due s.door.extendTimer then s.modDoor (fun d => d.brakeToward s.now .retract .blocked) else s
  | .holdTimerExpiry => some fun s => if s.due s.door.holdTimer then s.endHold else s
  | .deadTimeExpiry => some fun s => if s.due s.door.deadTimer then s.deadTimeEnds else s
  | .retractTimerExpiry => some fun s => if s.due s.door.retractTimer then s.rodJam .retractLimit else s
  | _ => none

end Sys2Proof

namespace Sys2Proof.Machine

/-- R156: a request to a block is taken in the frame that all of them share. -/
theorem exec_of_service {c : Instr} {v : Service} (h : c.service = some v) (s : State) :
    exec c s = serve v.cls v.len v.request v.block s := by
  cases c <;> cases h <;> rfl

/-- R171: an event is taken unless RESET_N is held low. -/
theorem exec_of_event {c : Instr} {k : State → State} (h : c.event = some k) (s : State) :
    exec c s = unlessHeld s k := by
  cases c <;> cases h <;> rfl

/-- Tables 10-3 and 12-2: the class, the length and the request of a service are those of its command. -/
theorem Instr.service_spec {c : Instr} {v : Service} (h : c.service = some v) :
    c.rightsClass = some v.cls ∧ c.payloadLength = some v.len ∧ (codeOf c).map Prod.snd = some v.request
      ∧ c.isReset = false := by
  cases c <;> cases h <;> exact ⟨rfl, rfl, rfl, rfl⟩

end Sys2Proof.Machine

namespace Sys2Proof
open Machine

/-- What a change of a pin does that the part takes whether or not RESET_N is held low. -/
def Instr.pinChange : Instr → Option (State → State)
  | .filteredPinChange i level => some fun s =>
    let s1 := s.withPins (s.pins.withLevel i level)
    if s.resetHeld then s1
    else if s.pins.level i = level then s
    else s1.modInput i (fun f => f.pinChange level (s.timer i.debounceMs))
  | .rodOcChange level => some fun s =>
    let s1 := s.withPins { s.pins with rodOc := level }
    if s.resetHeld then s1
    else if s.pins.rodOc = level then s
    else if level then s1.rodOcAsserted
    else s1
  | .senseLineChange l level => some fun s =>
    let s1 := s.withPins (s.pins.withSense l level)
    if s.resetHeld then s1
    else if s.pins.sense l = level then s
    else s1.senseChange l level
  | .railOkRise => some fun s =>
    if s.resetHeld then s.takeRail true
    else if s.pins.railOk then s
    else if s.time.supply = .lost ∧ s.time.zcPresent = true then (s.takeRail true).startSettle
    else s.takeRail true
  | .railOkFall order => some fun s =>
    if s.resetHeld then s.takeRail false
    else if !s.pins.railOk then s
    else
      let s1 := (s.takeRail false).modTime (fun t => { t with settle := none })
      if s.supplyReady then s1.supplyBecomesLost .railOk order else s1
  | _ => none

end Sys2Proof

namespace Sys2Proof.Machine

theorem exec_of_pinChange {c : Instr} {k : State → State} (h : c.pinChange = some k) (s : State) :
    exec c s = .next (k s) := by
  cases c <;> cases h <;> rfl

/-- What is left: CLEAN_COUNT_REACHED, and the exchanges that the port answers itself. -/
theorem Instr.ownAnswer {c : Instr} (hc : c.isReset = false) (hv : c.service = none) (hk : c.event = none)
    (hp : c.pinChange = none) :
    c = .cleanCountReached ∨ (∃ p bytes, c = .badFrame p bytes)
    ∨ (∃ p code tag payload, c = .unknownRequest p code tag payload) ∨ (∃ q, c = .null q) := by
  cases c <;> simp [Instr.isReset, Instr.service, Instr.event, Instr.pinChange] at hc hv hk hp ⊢

/-- R154 to R156: all that an exchange can do that the port answers itself: nothing, the end of a wait, or a reply. -/
theorem takeExchange_reply_cases {p : Port} {s t : State} {k : State → State} (hk : k s = s ∨ ∃ r, k s = s.setReply p r)
    (h : takeExchange p s k = .next t) : t = s ∨ t = s.endWait p ∨ ∃ r, t = s.setReply p r := by
  rcases takeExchange_cases _ _ _ _ h with ⟨-, rfl⟩ | ⟨-, -, rfl⟩ | ⟨-, -, rfl⟩
  · exact .inl rfl
  · exact .inr (.inl rfl)
  · exact hk.imp_right .inr

/-- All that a command can do outside a reset: nothing, the end of its port's wait, a reply in its port's slot, the answer of a block
with its reply, an event, or a change of a pin. -/
theorem exec_cases {c : Instr} {s t : State} (hc : c.isReset = false) (h : exec c s = .next t) :
    t = s
    ∨ (∃ p bytes, exchangeOf c = some (p, bytes) ∧ (t = s.endWait p ∨ ∃ r, t = s.setReply p r))
    ∨ (∃ v r, c.service = some v ∧ s.resetHeld = false ∧ t = (v.block s).state.setReply v.request.port r)
    ∨ (∃ k, c.event = some k ∧ s.resetHeld = false ∧ t = k s)
    ∨ (∃ k, c.pinChange = some k ∧ t = k s) := by
  have port {p : Port} {bytes : List Byte} (he : exchangeOf c = some (p, bytes))
      (ht : t = s ∨ t = s.endWait p ∨ ∃ r, t = s.setReply p r) : t = s
      ∨ (∃ p bytes, exchangeOf c = some (p, bytes) ∧ (t = s.endWait p ∨ ∃ r, t = s.setReply p r)) :=
    ht.imp_right fun ht => ⟨p, bytes, he, ht⟩
  cases hv : c.service with
  | some v =>
    obtain ⟨-, -, hq, -⟩ := Instr.service_spec hv
    have he : exchangeOf c = some (v.request.port, (exchangeOf c).elim [] Prod.snd) := by
      cases c <;> cases hv <;> rfl
    rw [exec_of_service hv] at h
    rcases serve_cases _ _ _ _ _ _ h with ⟨-, ht⟩ | ⟨-, -, ht⟩ | ⟨-, -, ht⟩ | ⟨-, -, -, ht⟩ | ⟨hr, -, -, ht⟩
    · exact .inl ht
    · exact (port he (.inr (.inl ht))).imp_right .inl
    · exact (port he (.inr (.inr ⟨_, ht⟩))).imp_right .inl
    · exact (port he (.inr (.inr ⟨_, ht⟩))).imp_right .inl
    · exact .inr (.inr (.inl ⟨v, _, rfl, hr, ht⟩))
  | none =>
  cases hk : c.event with
  | some k =>
    rw [exec_of_event hk] at h
    cases hr : s.resetHeld
    · rw [unlessHeld_free _ _ hr] at h
      exact .inr (.inr (.inr (.inl ⟨k, rfl, rfl, (Host.Outcome.next.inj h).symm⟩)))
    · rw [unlessHeld_held _ _ hr] at h
      exact .inl (Host.Outcome.next.inj h).symm
  | none =>
  cases hp : c.pinChange with
  | some k =>
    rw [exec_of_pinChange hp] at h
    exact .inr (.inr (.inr (.inr ⟨k, rfl, (Host.Outcome.next.inj h).symm⟩)))
  | none =>
  rcases Instr.ownAnswer hc hv hk hp with rfl | ⟨p, bytes, rfl⟩ | ⟨p, code, tag, payload, rfl⟩ | ⟨q, rfl⟩
  case inl => exact .inl (Host.Outcome.next.inj h).symm
  case inr.inl =>
    change execBadFrame p bytes s = _ at h
    unfold execBadFrame at h
    refine (port rfl (takeExchange_reply_cases ?_ h)).imp_right .inl
    split
    · exact .inr ⟨_, rfl⟩
    · exact .inl rfl
    · exact .inl rfl
  case inr.inr.inl =>
    change execUnknownRequest p code tag payload s = _ at h
    unfold execUnknownRequest at h
    refine (port rfl (takeExchange_reply_cases ?_ h)).imp_right .inl
    split
    · exact .inr ⟨_, rfl⟩
    · exact .inl rfl
  case inr.inr.inr =>
    change execNull q s = _ at h
    unfold execNull at h
    exact (port rfl (takeExchange_reply_cases (.inr ⟨_, rfl⟩) h)).imp_right .inl

end Sys2Proof.Machine
end

-- ==== Every step keeps the outputs settled (R34) ====
section
namespace Sys2Proof.Machine

@[simp] theorem State.endWait_settled (s : State) (p : Port) : (s.endWait p).settled = s.settled := rfl
@[simp] theorem State.say_state (s : State) (st : Status) (payload : List Byte) : (s.say st payload).state = s := rfl
@[simp] theorem State.done_state (s : State) : s.done.state = s := rfl

/-- R62: the notices of removed resume entries touch no output. -/
@[simp] theorem State.dropResume_settled (s : State) (l : Lane) (former : Option Port) :
    (s.dropResume l former).settled = s.settled := by
  cases former with
  | none => rfl
  | some p => rw [State.dropResume_some]; rfl
@[simp] theorem State.setHolder_settled (s : State) (l : Lane) (p : Option Port) :
    (s.setHolder l p).settled = s.settled := by
  rw [State.setHolder, State.dropResume_settled]
  rfl

/-! ### The blocks' answers -/

section
variable {s : State}

/-- R34: an answer that names a lane, where every lane's answer keeps the outputs settled. -/
theorem withNamedLane_settled {q : Request} {h : Lane → State → Answer} (hs : s.settled = true)
    (hh : ∀ l, (h l s).state.settled = true) : (withNamedLane q h s).state.settled = true :=
  withNamedLane_keeps (fun s => s.settled = true) q h s hs hh

theorem asHolder_settled {q : Request} {h : Lane → State → Answer} (hs : s.settled = true)
    (hh : ∀ l, (h l s).state.settled = true) : (asHolder q h s).state.settled = true :=
  asHolder_keeps (fun s => s.settled = true) q h s hs hh

variable (h : s.settled = true)
include h

theorem State.clearFault_settled : s.clearFault.state.settled = true := by
  unfold State.clearFault
  (repeat' split) <;> simp [h]

theorem State.testOutput_settled (n seconds : Nat) : (s.testOutput n seconds).state.settled = true := by
  unfold State.testOutput State.beginTest
  (repeat' split) <;> simp [h]

theorem State.postAction_settled (q : Request) : (s.postAction q).state.settled = true := by
  unfold State.postAction State.placeEntry
  (repeat' split) <;> simp [h]

theorem State.cancelAction_settled (p : Port) (slot : Nat) : (s.cancelAction p slot).state.settled = true := by
  unfold State.cancelAction
  (repeat' split) <;> exact h

theorem State.claimLane_settled (p : Port) (l : Lane) : (s.claimLane p l).state.settled = true := by
  unfold State.claimLane
  (repeat' split) <;> simp [h]

theorem State.takeLane_settled (p : Port) (l : Lane) : (s.takeLane p l).state.settled = true := by
  unfold State.takeLane
  (repeat' split) <;> simp [h]

theorem State.removeHead_settled (l : Lane) (t : StepRec) : (s.removeHead l t).settled = true := by
  simp [State.removeHead, h]

theorem State.skipStep_settled (l : Lane) : (s.skipStep l).state.settled = true := by
  have htold : (s.tellSkip l).settled = true := by
    unfold State.tellSkip
    cases l <;> simp [h]
  unfold State.skipStep
  (repeat' split)
  · exact h
  · exact State.removeHead_settled h _ _
  · exact State.removeHead_settled htold _ _
  · exact h

theorem State.retryStep_settled (l : Lane) : (s.retryStep l).state.settled = true := by
  unfold State.retryStep
  (repeat' split) <;> simp [h]

theorem State.flushLane_settled (l : Lane) : (s.flushLane l).state.settled = true := by
  unfold State.flushLane
  dsimp only
  (repeat' split) <;> simp [h]

theorem State.holdLane_settled (l : Lane) : (s.holdLane l).state.settled = true := by
  unfold State.holdLane
  (repeat' split) <;> simp [h]

theorem State.resumeLane_settled (l : Lane) : (s.resumeLane l).state.settled = true := by
  unfold State.resumeLane
  (repeat' split) <;> simp [h]

theorem State.postStep_settled (payload : List Byte) (l : Lane) : (s.postStep payload l).state.settled = true := by
  unfold State.postStep State.acceptStep
  (repeat' split) <;> simp [h]

theorem State.setStockValue_settled (a : Agent) (v : Nat) : (s.setStockValue a v).state.settled = true := by
  unfold State.setStockValue State.holdWrite
  dsimp only
  (repeat' split) <;> simp [h]

omit h in
/-- R36: before PROFILE LOCK no output is marked absent, whatever the profile's fields hold. -/
theorem State.withProfile_settled (hopen : s.store.configured = false) (fields : List (Option Int)) :
    (s.withStore { s.store with profile := fields }).settled = s.settled := by
  have hw (o : Output) : (s.withStore { s.store with profile := fields }).wanted o = s.wanted o := by
    cases o <;> simp [State.wanted, State.permit, State.pumpWanted, State.pumpWhole, State.pumpBase, State.fitted,
      State.absent, hopen] <;> rfl
  simp only [State.settled, hw]
  rfl

theorem State.profileField_settled (i raw : Nat) : (s.profileField i raw).state.settled = true := by
  unfold State.profileField
  split
  · exact h
  next hopen =>
    split
    · exact h
    · dsimp only
      split
      · exact h
      · exact (State.withProfile_settled (by simpa using hopen) _).trans h

omit h in
theorem State.lockProfile_settled : s.lockProfile.settled = true := by
  have hbase := State.evaluate_settled
    ((s.modStore (fun t => { t with configured := true, lastRefused := 0 })).lockTimeBase)
  unfold State.lockProfile
  generalize (State.lockTimeBase _).evaluate = u at hbase ⊢
  have hresin {w : State} (hw : w.settled = true) : w.lockResin.settled = true := by
    unfold State.lockResin
    split <;> simp [hw]
  have hacc {w : State} (hw : w.settled = true) (a : Agent) : (w.lockAccount a).settled = true := by
    unfold State.lockAccount
    split <;> simp [hw]
  have hdoor {w : State} (hw : w.settled = true) : w.lockDoor.settled = true := by
    unfold State.lockDoor
    split <;> simp [hw]
  have hrights (w : State) : w.lockRights.settled = w.settled := State.withPorts_settled _ _
  rw [hrights]
  refine hdoor (hacc (hacc (hresin ?_) _) _)
  rw [State.withEngine_settled]
  exact hbase

theorem State.profileLock_settled : s.profileLock.state.settled = true := by
  unfold State.profileLock
  (repeat' split)
  · exact h
  · exact h
  · exact State.lockProfile_settled

/-- R36: a setting other than the heater cutoff moves no permit, and a write of the cutoff is an evaluation. -/
theorem State.writeSetting_settled (p : Port) (i v : Nat) : (s.writeSetting p i v).state.settled = true := by
  unfold State.writeSetting
  split
  · exact h
  next range hrange =>
    unfold State.storeSetting
    dsimp only [State.say_state]
    by_cases hi : i = 18
    · subst hi
      exact State.evaluate_settled _
    · have hstored : (s.modStore (fun t =>
          { t with settings := t.settings.set (i - 1) (s.storedSetting i v range) })).settled = true := by
        refine (State.settled_of (s := s) ?_ ?_ ?_ ?_ ?_ ?_ ?_ ?_ ?_ ?_ ?_).trans h
        case refine_11 =>
          have hne : i - 1 ≠ 17 := by
            rintro h17
            obtain rfl : i = 18 := by omega
            exact hi rfl
          simp [State.heaterCutoff, State.setting, State.modStore, List.getD, List.getElem?_set_ne hne]
        all_goals rfl
      have heffect {w : State} (hw : w.settled = true) : (w.settingEffect i).settled = true := by
        unfold State.settingEffect
        (repeat' split) <;> simp [hw]
      refine heffect ?_
      split
      · exact hstored
      · exact hstored

theorem State.loadAll_settled (r : LoadRequest) : (s.loadAll r).state.settled = true := by
  have hresin {w : State} (hw : w.settled = true) (v : Option Nat) : (w.loadResin v).settled = true := by
    cases v <;> simp [State.loadResin, hw]
  have hstock {w : State} (hw : w.settled = true) (a : Agent) (v : Option Nat) : (w.loadStock a v).settled = true := by
    cases v
    · exact hw
    · simp only [State.loadStock]
      split <;> simp [hw]
  exact hstock (hstock (hresin h _) _ _) _ _

theorem State.loadAccounts_settled (payload : List Byte) : (s.loadAccounts payload).state.settled = true := by
  unfold State.loadAccounts
  (repeat' split)
  case h_2 => exact State.loadAll_settled h _
  all_goals exact h

end

/-- R34: every block's answer keeps the outputs settled. -/
theorem State.block_settled {c : Instr} {v : Service} (hv : c.service = some v) {s : State} (h : s.settled = true) :
    (v.block s).state.settled = true := by
  cases c <;> cases hv
  case readLane => exact withNamedLane_settled h fun l => by simp [h]
  case readStep => exact withNamedLane_settled h fun l => by unfold State.readStep; split <;> exact h
  case sampleNow => exact State.requestSample_settled _ _ _ h
  case clearFault => exact State.clearFault_settled h
  case testOutput => exact State.testOutput_settled h _ _
  case postAction => exact State.postAction_settled h _
  case cancelAction => exact State.cancelAction_settled h _ _
  case claimLane => exact withNamedLane_settled h (State.claimLane_settled h _)
  case takeLane => exact withNamedLane_settled h (State.takeLane_settled h _)
  case releaseLane => exact asHolder_settled h fun l => by simp [State.releaseHolder, h]
  case skipStep => exact asHolder_settled h (State.skipStep_settled h)
  case retryStep => exact asHolder_settled h (State.retryStep_settled h)
  case flushLane => exact asHolder_settled h (State.flushLane_settled h)
  case holdLane => exact asHolder_settled h (State.holdLane_settled h)
  case resumeLane => exact asHolder_settled h (State.resumeLane_settled h)
  case postStep =>
    dsimp only
    split
    · exact asHolder_settled h (State.postStep_settled h _)
    · exact h
  case resetResin =>
    show s.resetResin.state.settled = true
    unfold State.resetResin State.freshResin
    split <;> simp [h]
  case refill =>
    dsimp only
    unfold State.refill State.refillStock
    (repeat' split) <;> simp [h]
  case setStock =>
    dsimp only
    unfold State.setStockAnswer
    (repeat' split)
    · exact h
    · exact h
    · exact State.setStockValue_settled h _ _
  case clearRodFault =>
    show s.clearRodFault.state.settled = true
    unfold State.clearRodFault
    (repeat' split) <;> simp [h]
  case subscribe =>
    dsimp only
    unfold State.subscribe
    dsimp only
    split <;> exact h
  case takeNotices => exact h
  case profileField => exact State.profileField_settled h _ _
  case profileLock => exact State.profileLock_settled h
  case writeSetting => exact State.writeSetting_settled h _ _ _
  case loadAccounts => exact State.loadAccounts_settled h _
  case beginCycle =>
    show s.beginCycle.state.settled = true
    unfold State.beginCycle State.startCycle
    (repeat' split) <;> simp [h]
  case endCycle =>
    show s.endCycle.state.settled = true
    unfold State.endCycle
    split <;> simp [h]
  all_goals simp [Service.page, h]

/-! ### Events inside the part, and changes of pins -/

section
variable {s : State} (h : s.settled = true)
include h

theorem State.tick_settled : s.tick.settled = true := by
  have hwater {u : State} (hu : u.settled = true) : u.waterTick.settled = true := by
    unfold State.waterTick
    (repeat' split) <;> simp [hu]
  have hclean {u : State} (hu : u.settled = true) : u.cleanTick.settled = true := by
    unfold State.cleanTick
    split
    · exact hu
    · exact hu
  have hheater {u : State} (hu : u.settled = true) : u.heaterTick.settled = true := by
    unfold State.heaterTick
    split <;> simp [hu]
  exact hheater (hclean (hwater h))

theorem State.countEdge_settled : s.countEdge.settled = true := by
  have hstray {u : State} (hu : u.settled = true) : u.strayEdge.settled = true := by
    unfold State.strayEdge
    dsimp only
    (repeat' split) <;> exact hu
  have hfill {u : State} (hu : u.settled = true) : u.fillEdge.settled = true := by
    unfold State.fillEdge
    dsimp only
    (repeat' split) <;> simp [hu]
  exact State.regenEdge_settled _ (hfill (hstray h))

/-- R19: the Guard evaluates its outputs at an input it reads, and the permits read no other. -/
theorem State.accept_settled (i : Input) (level : Bool) (order : List Receiver) :
    (s.accept i level order).settled = true := by
  refine deliver_inputTo_settled i _ _ order _ ?_
  cases i
  case door => exact .inl (by decide)
  case levelLow => exact .inl (by decide)
  case float => exact .inl (by decide)
  all_goals exact .inr h

theorem State.completeSample_settled (code : Code) : (s.completeSample code).settled = true := by
  have hclass {u : State} (hu : u.settled = true) (c : Nat) : (u.handClass c).settled = true := by
    unfold State.handClass
    (repeat' split) <;> simp [hu]
  unfold State.completeSample
  dsimp only
  split
  · exact hclass (by simp [h]) _
  · simp [h]

theorem State.stuckOnFault_settled (o : Checked) : (s.stuckOnFault o).settled = true := by
  cases o
  case inlet => exact State.latchFault_settled _ _
  case heater => exact State.latchFault_settled _ _
  case drain => exact State.outputFault_settled _ _ _ h
  case circ => exact State.outputFault_settled _ _ _ h

theorem State.stuckOffFault_settled (o : Checked) : (s.stuckOffFault o).settled = true := by
  have hmark : ((s.modCheck o (fun c => { c with stuckOff := none, offMark := true })).outputFault o.output 2).settled
      = true := State.outputFault_settled _ _ _ h
  have hreport {u : State} (hu : u.settled = true) (d : Bool) (l : Lane) :
      (if d then u.failCounted l .outputFault else u).settled = true := by
    split <;> simp [hu]
  have htest {u : State} (hu : u.settled = true) (d : Bool) : (if d then u.endTest else u).settled = true := by
    split <;> simp [hu]
  exact htest (hreport (hreport hmark _ _) _ _) _

theorem State.limitExpires_settled (l : Lane) : (s.limitExpires l).settled = true := by
  unfold State.limitExpires
  split <;> simp [h]

/-- R34: every event keeps the outputs settled. -/
theorem State.event_settled {c : Instr} {k : State → State} (hk : c.event = some k) : (k s).settled = true := by
  cases c <;> cases hk
  case runClockTick => exact State.tick_settled h
  case zeroCrossEdge => dsimp only; split <;> exact h
  case debounceTimerExpiry =>
    dsimp only
    (repeat' split)
    · exact h
    · exact State.accept_settled h _ _ _
    · exact h
  all_goals dsimp only; split
  case flowEdge.refl.isTrue => exact State.countEdge_settled h
  case lossWindowExpiry.refl.isTrue =>
    split
    · exact deliver_supplyTo_settled _ _ _
    · exact h
  case supplySettleExpiry.refl.isTrue => exact deliver_supplyTo_settled _ _ _
  case tempSampleTimerExpiry.refl.isTrue => exact deliver_sampleTo_settled _ _ _ _
  case ledTimerExpiry.refl.isTrue => exact State.completeSample_settled h _
  case stuckOnWindowExpiry.refl.isTrue => exact State.stuckOnFault_settled h _
  case stuckOffWindowExpiry.refl.isTrue => exact State.stuckOffFault_settled h _
  case actionDueSet.refl.isFalse => exact State.executeSet_settled _ _
  case timeLimitExpiry.refl.isTrue => exact State.limitExpires_settled h _
  all_goals simp [h]

/-- R34: a change of a pin keeps the outputs settled. -/
theorem State.pinChange_settled {c : Instr} {k : State → State} (hk : c.pinChange = some k) : (k s).settled = true := by
  have hsense {u : State} (hu : u.settled = true) (l : SenseLine) (on : Bool) : (u.senseChange l on).settled = true := by
    have hclean {w : State} (hw : w.settled = true) : (w.cleanSense l on).settled = true := by
      unfold State.cleanSense
      split
      · exact hw
      · exact hw
    have hfeedback {w : State} (hw : w.settled = true) (a : Agent) : (w.feedbackSense a on).settled = true := by
      unfold State.feedbackSense
      split <;> simp [hw]
    cases l
    case doseDSn => exact hfeedback (hclean hu) .detergent
    case doseRSn => exact hfeedback (hclean hu) .rinse
    all_goals exact hclean ((State.checkSense_settled _ _ _).trans hu)
  have hinput (i : Input) (level : Bool) (pins : Pins) : ((s.withPins pins).modInput i
      (fun f => f.pinChange level (s.timer i.debounceMs))).settled = true := by
    have hread (k : Input) : ((s.withPins pins).modInput i
        (fun f => f.pinChange level (s.timer i.debounceMs))).reads k = s.reads k := by
      simp only [State.reads, State.accepted, State.modInput, State.withInputs_inputs, State.withPins_inputs]
      by_cases hki : k = i
      · subst hki
        rw [PerInput.get_set, FilteredInput.pinChange]
        split <;> rfl
      · rw [PerInput.get_set_ne _ _ _ _ hki]
    rw [← h]
    exact State.settled_of rfl rfl rfl rfl rfl rfl (hread .door) (hread .levelLow) (hread .float) rfl rfl
  cases c <;> cases hk <;> dsimp only
  case railOkRise =>
    (repeat' split) <;> exact h
  case railOkFall =>
    (repeat' split)
    · exact h
    · exact h
    · exact deliver_supplyTo_settled _ _ _
    · exact h
  all_goals (repeat' split)
  all_goals simp [h, hsense, hinput]

end

/-! ### Resets -/

theorem Guard.reset_deEnergised (pins : Pins) (o : Output) : ((Guard.reset pins).outs.get o).energised = false := by
  cases o <;> rfl

/-- R51: after a reset nothing is energised, and the supply is LOST. -/
theorem State.afterPowerOn_settled (pins : Pins) (busy : List Port) (pending : List Instr) :
    (State.afterPowerOn pins busy pending).settled = true :=
  State.settled_of_lost rfl (Guard.reset_deEnergised pins)

theorem State.warmReset_settled (s : State) (kind : ResetKind) (busy : List Port) :
    (s.warmReset kind busy).settled = true :=
  State.settled_of_lost rfl (Guard.reset_deEnergised s.pins)

/-- R171: the pins are read with the supply LOST, where no output is energised whatever they read. -/
theorem State.readPins_settled {s : State} (h : s.settled = true) (hs : s.supplyReady = false) :
    s.readPins.settled = true := by
  have hclean (u : State) : u.cleanAtReset.supplyReady = u.supplyReady ∧ ∀ o, u.cleanAtReset.energised o = u.energised o := by
    unfold State.cleanAtReset
    split <;> exact ⟨rfl, fun _ => rfl⟩
  refine State.settled_of_lost ((hclean _).1.trans hs) fun o => ((hclean _).2 o).trans ?_
  exact State.deEnergised_of_lost h hs o

/-- R15, R51 and R171: a reset leaves the outputs settled, and the supply LOST or RESET_N high. -/
theorem exec_reset_settled {c : Instr} {s t : State} (hc : c.isReset = true) (hs : s.settled = true)
    (hl : s.heldLost = true) (h : exec c s = .next t) : t.settled = true ∧ t.heldLost = true := by
  cases c <;> cases hc
  case powerOn pins =>
    obtain rfl := Host.Outcome.next.inj h
    exact ⟨State.afterPowerOn_settled _ _ _, rfl⟩
  case resetLine edge =>
    cases edge
    case falls busy =>
      obtain rfl := Host.Outcome.next.inj h
      dsimp only
      split
      · exact ⟨hs, hl⟩
      · exact ⟨State.warmReset_settled s .resetLine busy, rfl⟩
    case rises busy =>
      obtain rfl := Host.Outcome.next.inj h
      dsimp only
      split
      next hheld =>
        have hlost : s.supplyReady = false := by simpa [State.heldLost, hheld] using hl
        have hread := State.readPins_settled (s := s.withResetHeld false) hs hlost
        refine ⟨hread, ?_⟩
        simp [State.heldLost, State.cutExchanges, State.readPins, State.cleanAtReset]
        split <;> simp
      · exact ⟨hs, hl⟩
  case resetPart q =>
    change execResetPart q s = _ at h
    unfold execResetPart at h
    rcases takeExchange_cases _ _ _ _ h with ⟨-, rfl⟩ | ⟨-, -, rfl⟩ | ⟨-, -, rfl⟩
    · exact ⟨hs, hl⟩
    · exact ⟨hs, hl⟩
    · dsimp only
      split
      · refine ⟨State.readPins_settled (State.warmReset_settled _ _ _) rfl, ?_⟩
        simp [State.heldLost, State.readPins, State.cleanAtReset, State.warmReset, State.afterPowerOn]
        split <;> simp
      · exact ⟨hs, hl⟩

/-! ### A step -/

theorem exec_settled {c : Instr} {s t : State} (hc : c.isReset = false) (hs : s.settled = true)
    (h : exec c s = .next t) : t.settled = true := by
  rcases exec_cases hc h with rfl | ⟨p, -, -, rfl | ⟨r, rfl⟩⟩ | ⟨v, r, hv, -, rfl⟩ | ⟨k, hk, -, rfl⟩ | ⟨k, hk, rfl⟩
  · exact hs
  · exact hs
  · exact hs
  · exact State.block_settled hv hs
  · exact State.event_settled hs hk
  · exact State.pinChange_settled hs hk

/-- R15 and R171: what a change of a pin leaves of the supply while RESET_N holds the part. -/
theorem State.pinChange_held {c : Instr} {k : State → State} (hk : c.pinChange = some k) {s : State}
    (hr : s.resetHeld = true) : (k s).time = s.time ∧ (k s).resetHeld = true := by
  cases c <;> cases hk <;> simp [hr, State.takeRail]

theorem exec_heldLost {c : Instr} {s t : State} (hc : c.isReset = false) (hl : s.heldLost = true)
    (hheld : s.resetHeld = false → t.resetHeld = false) (h : exec c s = .next t) : t.heldLost = true := by
  cases hr : s.resetHeld
  · simp [State.heldLost, hheld hr]
  · have htime : t.time = s.time := by
      rcases exec_cases hc h with rfl | ⟨p, -, -, rfl | ⟨r, rfl⟩⟩ | ⟨v, r, hv, hf, -⟩ | ⟨k, hk, hf, -⟩ | ⟨k, hk, rfl⟩
      · rfl
      · rfl
      · rfl
      · simp [hr] at hf
      · simp [hr] at hf
      · exact (State.pinChange_held hk hr).1
    have hlost : s.supplyReady = false := by simpa [State.heldLost, hr] using hl
    have hsupply : t.supplyReady = s.supplyReady := by simp only [State.supplyReady, htime]
    simp [State.heldLost, hsupply, hlost]

end Sys2Proof.Machine
end

-- ==== What only its own commands change (R1, R4, R43, R45, R67, R157, R165, R167, R171) ====
section
namespace Sys2Proof.Machine

/-- The state that each command but a few leaves alone. -/
structure Constants where
  clock : Word
  flow : Word
  supply : Supply
  profile : List (Option Int)
  configured : Bool
  edgeMode : EdgeMode
  strayThreshold : Option Nat
  rights : PerPort Rights
  settings : List Nat
  resetKind : ResetKind
  warmCount : Nat
  resetHeld : Bool
  record : Option FaultRecord
  latched : Bool
  holders : PerLane (Option Port)
  pending : List Instr
  replies : PerPort Reply

/-- The constants are part of the surroundings. -/
def Surroundings.constants (u : Surroundings) : Constants :=
  { clock := u.clock, flow := u.flow, supply := u.supply, profile := u.profile, configured := u.configured,
    edgeMode := u.edgeMode, strayThreshold := u.strayThreshold,
    rights := { a := u.faceA.rights, b := u.faceB.rights, c := u.faceC.rights }, settings := u.settings,
    resetKind := u.resetKind, warmCount := u.warmCount, resetHeld := u.resetHeld, record := u.record,
    latched := u.latched, holders := { water := u.waterHolder, dose := u.doseHolder }, pending := u.pending,
    replies := { a := u.faceA.reply, b := u.faceB.reply, c := u.faceC.reply } }

/-- The constants of a state. -/
def State.constants (s : State) : Constants := s.surroundings.constants

/-- The constants after a command, where `a` stood before it: those that are its own are taken from `b`. -/
def Constants.openTo (a : Constants) (c : Instr) (b : Constants) : Constants :=
  match c with
  | .runClockTick => { a with clock := b.clock }
  | .flowEdge _ => { a with flow := b.flow }
  | .lossWindowExpiry _ | .railOkFall _ | .supplySettleExpiry _ => { a with supply := b.supply }
  | .profileField _ => { a with profile := b.profile }
  | .profileLock _ =>
    { a with configured := b.configured, edgeMode := b.edgeMode, strayThreshold := b.strayThreshold, rights := b.rights }
  | .writeSetting _ => { a with settings := b.settings }
  | .stuckOnWindowExpiry _ => { a with record := b.record, latched := a.latched || b.latched }
  | .clearFault _ => { a with latched := a.latched && b.latched }
  | .claimLane _ | .releaseLane _ | .takeLane _ => { a with holders := b.holders }
  | _ => a

theorem State.constants_of_surroundings {s t : State} (h : t.surroundings = s.surroundings) :
    t.constants = s.constants := by rw [State.constants, h]; rfl

theorem State.setReply_constants (s : State) (p : Port) (r : Reply) :
    (s.setReply p r).constants = { s.constants with replies := s.constants.replies.set p r } := by
  cases p <;> rfl
theorem State.constants_replies (s : State) (p : Port) : s.constants.replies.get p = (s.port p).reply := by
  cases p <;> rfl
@[simp] theorem State.endWait_constants (s : State) (p : Port) : (s.endWait p).constants = s.constants := by
  cases p <;> rfl

/-- An update of a port that keeps its rights and its reply slot. -/
theorem State.withPort_constants {s : State} {p : Port} (v : PortRec) (h : v.rights = (s.port p).rights)
    (hr : v.reply = (s.port p).reply) : (s.withPort p v).constants = s.constants := by
  cases p <;>
    simpa [State.constants, Surroundings.constants, State.surroundings, State.withPort, State.port,
      PerPort.get, PerPort.set, PortRec.face] using And.intro h hr

/-- Nothing but the latch of the surroundings is the fault latch's. -/
theorem Constants.openTo_self (a : Constants) (c : Instr) : a.openTo c a = a := by
  unfold Constants.openTo
  split <;> simp

/-! ### The blocks' answers -/

section
variable {s : State}

theorem withNamedLane_constants {q : Request} {h : Lane → State → Answer}
    (hh : ∀ l, (h l s).state.constants = s.constants) : (withNamedLane q h s).state.constants = s.constants :=
  withNamedLane_keeps (fun u => u.constants = s.constants) q h s rfl hh

theorem asHolder_constants {q : Request} {h : Lane → State → Answer}
    (hh : ∀ l, (h l s).state.constants = s.constants) : (asHolder q h s).state.constants = s.constants :=
  asHolder_keeps (fun u => u.constants = s.constants) q h s rfl hh

theorem State.testOutput_surroundings (n seconds : Nat) :
    (s.testOutput n seconds).state.surroundings = s.surroundings := by
  unfold State.testOutput State.beginTest
  (repeat' split) <;> simp

theorem State.executeSet_constants (es : List (Nat × ActionEntry)) : (s.executeSet es).constants = s.constants :=
  State.constants_of_surroundings (by simp)

theorem State.postAction_constants (q : Request) : (s.postAction q).state.constants = s.constants := by
  unfold State.postAction State.placeEntry
  (repeat' split)
  all_goals first | rfl | exact State.executeSet_constants _

theorem State.cancelAction_constants (p : Port) (slot : Nat) :
    (s.cancelAction p slot).state.constants = s.constants := by
  unfold State.cancelAction
  (repeat' split) <;> rfl

/-- R67: a change of a holder changes nothing else that only commands change. -/
theorem State.setHolder_constants (l : Lane) (p : Option Port) :
    (s.setHolder l p).constants = { s.constants with holders := (s.setHolder l p).constants.holders } := by
  rw [State.constants, State.setHolder, State.dropResume_surroundings]
  cases l <;> rfl

theorem State.tellSkip_surroundings (l : Lane) : (s.tellSkip l).surroundings = s.surroundings := by
  unfold State.tellSkip
  cases l <;> simp

theorem State.removeHead_surroundings (l : Lane) (t : StepRec) : (s.removeHead l t).surroundings = s.surroundings := by
  simp [State.removeHead]

theorem State.skipStep_surroundings (l : Lane) : (s.skipStep l).state.surroundings = s.surroundings := by
  unfold State.skipStep
  (repeat' split) <;> simp [State.removeHead_surroundings, State.tellSkip_surroundings]

theorem State.retryStep_surroundings (l : Lane) : (s.retryStep l).state.surroundings = s.surroundings := by
  unfold State.retryStep
  (repeat' split)
  · rfl
  · exact (State.modLane_surroundings _ _ _ rfl).trans (by simp)
  · rfl

theorem State.flushLane_surroundings (l : Lane) : (s.flushLane l).state.surroundings = s.surroundings := by
  have hflush (u : State) (last : Option LastResult) :
      (u.modLane l (fun r => r.flushed last)).surroundings = u.surroundings := u.modLane_surroundings l _ rfl
  unfold State.flushLane
  dsimp only
  split <;> simp [hflush]

theorem State.holdLane_surroundings (l : Lane) : (s.holdLane l).state.surroundings = s.surroundings := by
  unfold State.holdLane
  (repeat' split) <;> simp

theorem State.resumeLane_surroundings (l : Lane) : (s.resumeLane l).state.surroundings = s.surroundings := by
  unfold State.resumeLane
  split <;> simp

theorem State.postStep_surroundings (payload : List Byte) (l : Lane) :
    (s.postStep payload l).state.surroundings = s.surroundings := by
  have hpost (r : LaneRec) (id : Nat) (t : StepRec) : (r.post id t).holder = r.holder := by
    unfold LaneRec.post
    dsimp only
    split <;> rfl
  unfold State.postStep State.acceptStep
  (repeat' split) <;> simp [hpost]

theorem State.loadAccounts_surroundings (payload : List Byte) :
    (s.loadAccounts payload).state.surroundings = s.surroundings := by
  have hresin (u : State) (v : Option Nat) : (u.loadResin v).surroundings = u.surroundings := by
    cases v <;> simp [State.loadResin]
  have hstock (u : State) (a : Agent) (v : Option Nat) : (u.loadStock a v).surroundings = u.surroundings := by
    cases v
    · rfl
    · simp only [State.loadStock]
      split <;> simp
  unfold State.loadAccounts State.loadAll
  (repeat' split) <;> simp [hresin, hstock]

/-- R166: a lock that passes changes the part state, the Time Base's mode and threshold, and the rights. -/
theorem State.lockProfile_constants : s.lockProfile.constants =
    { s.constants with configured := true, edgeMode := s.lockProfile.constants.edgeMode,
                       strayThreshold := s.lockProfile.constants.strayThreshold,
                       rights := s.lockProfile.constants.rights } := by
  have hresin (u : State) : u.lockResin.surroundings = u.surroundings := by
    unfold State.lockResin
    split <;> simp
  have hacc (u : State) (a : Agent) : (u.lockAccount a).surroundings = u.surroundings := by
    unfold State.lockAccount
    split <;> simp
  have hdoor (u : State) : u.lockDoor.surroundings = u.surroundings := by
    unfold State.lockDoor
    split <;> simp
  have hrights (u : State) : u.lockRights.constants = { u.constants with rights := u.lockRights.constants.rights } := rfl
  have hinner (u : State) : (((u.withEngine { u.engine with refVolume := some u.vref }).lockResin.lockAccount
      .detergent).lockAccount .rinse).lockDoor.constants = u.constants :=
    State.constants_of_surroundings (by rw [hdoor, hacc, hacc, hresin, State.withEngine_lanes_surroundings])
  have heval (u : State) : u.evaluate.constants = u.constants := State.constants_of_surroundings (by simp)
  unfold State.lockProfile
  dsimp only
  rw [hrights, hinner, heval]
  rfl

theorem State.settingEffect_surroundings (i : Nat) : (s.settingEffect i).surroundings = s.surroundings := by
  unfold State.settingEffect
  (repeat' split) <;> simp

theorem State.raiseSettingChanged_surroundings (p : Port) (i v : Nat) :
    (s.raiseSettingChanged p i v).surroundings = s.surroundings := by
  simp [State.raiseSettingChanged]

theorem State.storeSetting_constants (p : Port) (i v : Nat) (range : Nat × Nat) :
    (s.storeSetting p i v range).state.constants =
      { s.constants with settings := s.store.settings.set (i - 1) (s.storedSetting i v range) } := by
  unfold State.storeSetting
  simp only [State.say_state]
  rw [State.constants, State.settingEffect_surroundings]
  split
  · rfl
  · rw [State.raiseSettingChanged_surroundings]; rfl

end

/-- Each block's answer changes of the constants its command's own. -/
theorem State.block_constants {c : Instr} {v : Service} (hv : c.service = some v) (s : State) :
    (v.block s).state.constants = s.constants.openTo c (v.block s).state.constants := by
  have surr {t : State} (h : t.surroundings = s.surroundings) : t.constants = s.constants :=
    State.constants_of_surroundings h
  cases c <;> cases hv <;> dsimp only [Constants.openTo]
  case readLane => exact withNamedLane_constants fun l => by simp
  case readStep => exact withNamedLane_constants fun l => by unfold State.readStep; split <;> rfl
  case sampleNow => exact surr (by simp)
  case clearFault =>
    unfold State.clearFault
    split
    · cases h : s.guard.latched <;> simp_all [State.constants, Surroundings.constants, State.surroundings]
    · split
      · simp only [State.done_state, State.constants, State.evaluate_surroundings]
        simp [Surroundings.constants, State.surroundings]
      · cases h : s.guard.latched <;> simp_all [State.constants, Surroundings.constants, State.surroundings]
  case testOutput => exact surr (State.testOutput_surroundings _ _)
  case postAction => exact State.postAction_constants _
  case cancelAction => exact State.cancelAction_constants _ _
  case claimLane q =>
    refine withNamedLane_keeps (fun u => u.constants = { s.constants with holders := u.constants.holders }) q _ s rfl
      fun l => ?_
    unfold State.claimLane
    (repeat' split)
    · exact State.setHolder_constants _ _
    · rfl
    · rfl
  case takeLane q =>
    refine withNamedLane_keeps (fun u => u.constants = { s.constants with holders := u.constants.holders }) q _ s rfl
      fun l => ?_
    unfold State.takeLane
    (repeat' split)
    · rfl
    · exact State.setHolder_constants _ _
    · rfl
  case releaseLane q =>
    exact asHolder_keeps (fun u => u.constants = { s.constants with holders := u.constants.holders }) q _ s rfl
      fun l => State.setHolder_constants _ _
  case skipStep => exact asHolder_constants fun l => surr (State.skipStep_surroundings l)
  case retryStep => exact asHolder_constants fun l => surr (State.retryStep_surroundings l)
  case flushLane => exact asHolder_constants fun l => surr (State.flushLane_surroundings l)
  case holdLane => exact asHolder_constants fun l => surr (State.holdLane_surroundings l)
  case resumeLane => exact asHolder_constants fun l => surr (State.resumeLane_surroundings l)
  case postStep =>
    split
    · exact asHolder_constants fun l => surr (State.postStep_surroundings _ l)
    · rfl
  case resetResin =>
    unfold State.resetResin State.freshResin
    split <;> exact surr (by simp)
  case refill =>
    unfold State.refill State.refillStock
    (repeat' split) <;> exact surr (by simp)
  case setStock =>
    unfold State.setStockAnswer State.setStockValue State.holdWrite
    dsimp only
    (repeat' split) <;> exact surr (by simp)
  case clearRodFault =>
    unfold State.clearRodFault
    (repeat' split) <;> exact surr (by simp)
  case subscribe q =>
    unfold State.subscribe
    dsimp only
    split
    · rfl
    · exact State.withPort_constants _ rfl rfl
  case takeNotices => exact State.withPort_constants _ rfl rfl
  case profileField =>
    unfold State.profileField
    dsimp only
    (repeat' split) <;> rfl
  case profileLock =>
    unfold State.profileLock
    (repeat' split)
    · rfl
    · rfl
    · rw [State.done_state, State.lockProfile_constants]
  case writeSetting =>
    unfold State.writeSetting
    split
    · rfl
    · rw [State.storeSetting_constants]
  case loadAccounts => exact surr (State.loadAccounts_surroundings _)
  case beginCycle =>
    unfold State.beginCycle State.startCycle
    (repeat' split) <;> exact surr (by simp)
  case endCycle =>
    unfold State.endCycle
    split <;> exact surr (by simp)
  all_goals simp [Service.page]

/-! ### Events inside the part, and changes of pins -/

section
variable {s : State}

theorem State.tick_constants : s.tick.constants = { s.constants with clock := s.tick.constants.clock } := by
  have hwater (u : State) : u.waterTick.surroundings = u.surroundings := by
    unfold State.waterTick
    (repeat' split) <;> simp
  have hclean (u : State) : u.cleanTick.constants = u.constants := by
    unfold State.cleanTick
    split <;> rfl
  have hheater (u : State) : u.heaterTick.surroundings = u.surroundings := by
    unfold State.heaterTick
    split <;> simp
  unfold State.tick
  dsimp only
  rw [State.constants_of_surroundings (hheater _), hclean, State.constants_of_surroundings (hwater _)]
  rfl

theorem State.strayEdge_surroundings (u : State) : u.strayEdge.surroundings = u.surroundings := by
  unfold State.strayEdge
  dsimp only
  (repeat' split)
  case h_4.isTrue => exact (State.raiseByClass_surroundings _ _).trans rfl
  all_goals rfl

theorem State.fillEdge_surroundings (u : State) : u.fillEdge.surroundings = u.surroundings := by
  unfold State.fillEdge
  dsimp only
  (repeat' split) <;> simp

theorem State.countEdge_surroundings (s : State) :
    s.countEdge.surroundings = { s.surroundings with flow := s.time.flow + 1 } := by
  rw [State.countEdge, State.regenEdge_surroundings, State.fillEdge_surroundings, State.strayEdge_surroundings]
  rfl

theorem State.supplyBecomesLost_surroundings (s : State) (cause : LossCause) (order : List Receiver) :
    (s.supplyBecomesLost cause order).surroundings =
      { s.surroundings with supply := .lost, settle := none, lossCause := some cause } := by
  rw [State.supplyBecomesLost, deliver_supplyLost_surroundings]
  rfl

theorem State.supplyBecomesReady_surroundings (s : State) (order : List Receiver) :
    (s.supplyBecomesReady order).surroundings =
      { s.surroundings with supply := .ready, settle := none, drainAtReady := false, latchDrain :=
          if s.guard.drainAtReady then some (s.time.clock + 120000) else s.guard.latchDrain } := by
  rw [State.supplyBecomesReady, deliver_supplyReady_surroundings]
  rfl

/-- R18 and R19: what the acceptance of a candidate changes of the surroundings. -/
theorem State.accept_surroundings (s : State) (i : Input) (level : Bool) (order : List Receiver) :
    (s.accept i level order).surroundings = { s.surroundings with
      inputs := s.inputs.set i { accepted := some level, candidate := none, debounce := none,
                                 lastEvent := if (s.accepted i).isSome then some s.now else (s.inputs.get i).lastEvent },
      flood := s.guard.flood || (decide (i = .float) && !level),
      floodStart := if i = .float ∧ level = false ∧ s.guard.flood = false then some s.now else s.guard.floodStart } := by
  by_cases hi : i = .float
  · subst hi
    rw [State.accept, deliver_float_surroundings]
    cases level <;> cases hf : s.guard.flood <;> simp [State.surroundings, State.modInput, hf]
    rfl
  · rw [State.accept, deliver_inputTo_surroundings _ _ _ _ _ _ hi]
    simp [State.surroundings, State.modInput, hi]

theorem State.sampleTemp_surroundings (s : State) (code : Code) (order : List Receiver) :
    (s.sampleTemp code order).surroundings =
      { s.surroundings with temp := s.readingOf code, tempTimer := s.timer 500 } := by
  rw [State.sampleTemp, deliver_sampleTo_surroundings]
  rfl

theorem State.completeSample_surroundings (s : State) (code : Code) :
    (s.completeSample code).surroundings = s.surroundings := by
  have hclass (u : State) (c : Nat) : (u.handClass c).surroundings = u.surroundings := by
    unfold State.handClass
    (repeat' split) <;> simp
  unfold State.completeSample
  dsimp only
  split <;> simp [hclass]

theorem State.stuckOnFault_constants (o : Checked) : (s.stuckOnFault o).constants =
    { s.constants with record := (s.stuckOnFault o).constants.record,
                       latched := s.constants.latched || (s.stuckOnFault o).constants.latched } := by
  have hself : s.constants = { s.constants with latched := s.constants.latched || s.constants.latched } := by simp
  have hnotice {t : State} (h : t.surroundings = s.surroundings) :
      t.constants = { s.constants with record := t.constants.record, latched := s.constants.latched || t.constants.latched } := by
    rw [State.constants_of_surroundings h]
    simp
  cases o
  case drain => exact hnotice (State.outputFault_surroundings _ _ _)
  case circ => exact hnotice (State.outputFault_surroundings _ _ _)
  all_goals
    simp only [State.stuckOnFault, State.constants, State.latchFault_surroundings]
    simp [Surroundings.constants]

theorem State.stuckOffFault_surroundings (o : Checked) : (s.stuckOffFault o).surroundings = s.surroundings := by
  unfold State.stuckOffFault
  dsimp only
  (repeat' split) <;> simp

theorem State.senseChange_constants (l : SenseLine) (on : Bool) : (s.senseChange l on).constants = s.constants := by
  have hclean (u : State) : (u.cleanSense l on).constants = u.constants := by
    unfold State.cleanSense
    split <;> rfl
  have hfeedback (u : State) (a : Agent) : (u.feedbackSense a on).surroundings = u.surroundings := by
    unfold State.feedbackSense
    split <;> simp
  cases l
  case doseDSn => exact (State.constants_of_surroundings (hfeedback _ .detergent)).trans (hclean _)
  case doseRSn => exact (State.constants_of_surroundings (hfeedback _ .rinse)).trans (hclean _)
  all_goals exact (hclean _).trans (State.constants_of_surroundings (State.checkSense_surroundings _ _ _))

end

/-- Each event changes of the constants its command's own. -/
theorem State.event_constants {c : Instr} {k : State → State} (hk : c.event = some k) (s : State) :
    (k s).constants = s.constants.openTo c (k s).constants := by
  have surr {t : State} (h : t.surroundings = s.surroundings) : t.constants = s.constants :=
    State.constants_of_surroundings h
  cases c <;> cases hk
  case runClockTick => exact State.tick_constants
  case zeroCrossEdge => dsimp only; split <;> rfl
  case debounceTimerExpiry =>
    dsimp only [Constants.openTo]
    (repeat' split)
    · rfl
    · rw [State.constants, State.accept_surroundings]; rfl
    · rfl
  all_goals dsimp only [Constants.openTo]; split
  case flowEdge.refl.isTrue => rw [State.constants, State.countEdge_surroundings]; rfl
  case lossWindowExpiry.refl.isTrue =>
    split
    · rw [State.constants, State.supplyBecomesLost_surroundings]; rfl
    · rfl
  case supplySettleExpiry.refl.isTrue => rw [State.constants, State.supplyBecomesReady_surroundings]; rfl
  case tempSampleTimerExpiry.refl.isTrue => rw [State.constants, State.sampleTemp_surroundings]; rfl
  case ledTimerExpiry.refl.isTrue => exact surr (State.completeSample_surroundings _ _)
  case stuckOnWindowExpiry.refl.isTrue => exact State.stuckOnFault_constants _
  case stuckOnWindowExpiry.refl.isFalse => simp
  case stuckOffWindowExpiry.refl.isTrue => exact surr (State.stuckOffFault_surroundings _)
  case latchDrainExpiry.refl.isTrue => rw [State.constants, State.evaluate_surroundings]; rfl
  case floodClearTimerExpiry.refl.isTrue => rw [State.constants, State.floodEnds_surroundings]; rfl
  case actionDueSet.refl.isFalse => exact State.executeSet_constants _
  case timeLimitExpiry.refl.isTrue => unfold State.limitExpires; split <;> exact surr (by simp)
  case retryTimerExpiry.refl.isTrue => exact surr (State.modLane_surroundings _ _ _ rfl)
  all_goals exact surr (by simp)

/-- Each change of a pin changes of the constants its command's own. -/
theorem State.pinChange_constants {c : Instr} {k : State → State} (hk : c.pinChange = some k) (s : State) :
    (k s).constants = s.constants.openTo c (k s).constants := by
  cases c <;> cases hk <;> dsimp only [Constants.openTo]
  case senseLineChange =>
    (repeat' split)
    · rfl
    · rfl
    · exact State.senseChange_constants _ _
  case rodOcChange =>
    (repeat' split)
    · rfl
    · rfl
    · exact (State.constants_of_surroundings (State.rodOcAsserted_surroundings _)).trans rfl
    · rfl
  case railOkFall =>
    (repeat' split)
    · rfl
    · rfl
    · rw [State.constants, State.supplyBecomesLost_surroundings]; rfl
    · rfl
  all_goals (repeat' split) <;> rfl

/-- No command but an exchange is open to the replies, and an exchange sets no more than the reply of its own port. -/
theorem Constants.openTo_replies (a : Constants) (c : Instr) (b : Constants) : (a.openTo c b).replies = a.replies := by
  unfold Constants.openTo; split <;> rfl

/-- What a command is open to does not lie in the replies. -/
theorem Constants.openTo_withReplies (a : Constants) (c : Instr) (b : Constants) (r r' : PerPort Reply) :
    { a.openTo c b with replies := r } = { a.openTo c { b with replies := r' } with replies := r } := by
  cases c <;> rfl

/-- R1 to R171: outside a reset, a command changes of the constants its own, and the replies. -/
theorem exec_constants {c : Instr} {s t : State} (hc : c.isReset = false) (h : exec c s = .next t) :
    t.constants = { s.constants.openTo c t.constants with replies := t.constants.replies } := by
  rcases exec_cases hc h with rfl | ⟨p, -, -, rfl | ⟨r, rfl⟩⟩ | ⟨v, r, hv, -, rfl⟩ | ⟨k, hk, -, rfl⟩ | ⟨k, hk, rfl⟩
  · rw [Constants.openTo_self]
  · rw [State.endWait_constants, Constants.openTo_self]
  · rw [State.setReply_constants, ← Constants.openTo_withReplies, Constants.openTo_self]
  · have hb := State.block_constants hv s
    rw [State.setReply_constants, ← Constants.openTo_withReplies]
    exact congrArg (fun a : Constants =>
      { a with replies := (v.block s).state.constants.replies.set v.request.port r }) hb
  · exact congrArg (fun a : Constants => { a with replies := (k s).constants.replies }) (State.event_constants hk s)
  · exact congrArg (fun a : Constants => { a with replies := (k s).constants.replies }) (State.pinChange_constants hk s)

/-- R154: a reply slot changes only at an exchange on its port. -/
theorem exec_replies {c : Instr} {s t : State} (hc : c.isReset = false) (h : exec c s = .next t) (p : Port)
    (hp : ∀ bytes, exchangeOf c ≠ some (p, bytes)) : (t.port p).reply = (s.port p).reply := by
  have own {q : Port} {u : State} {r : Reply} (hq : p ≠ q) (hu : u.constants.replies = s.constants.replies) :
      ((u.setReply q r).port p).reply = (s.port p).reply := by
    rw [← State.constants_replies, State.setReply_constants, ← State.constants_replies s, ← hu]
    exact PerPort.get_set_ne _ _ _ _ hq
  have kept {u : State} (hu : u.constants = s.constants.openTo c u.constants) :
      u.constants.replies = s.constants.replies := by rw [hu, Constants.openTo_replies]
  rcases exec_cases hc h with rfl | ⟨q, bytes, hq, rfl | ⟨r, rfl⟩⟩ | ⟨v, r, hv, -, rfl⟩ | ⟨k, hk, -, rfl⟩ | ⟨k, hk, rfl⟩
  · rfl
  · rw [← State.constants_replies, State.endWait_constants, State.constants_replies]
  · refine own (fun e => ?_) rfl
    subst e
    exact hp _ hq
  · refine own (fun e => ?_) (kept (State.block_constants hv s))
    subst e
    exact hp ((exchangeOf c).elim [] Prod.snd) (by cases c <;> cases hv <;> rfl)
  · rw [← State.constants_replies, kept (State.event_constants hk s), State.constants_replies]
  · rw [← State.constants_replies, kept (State.pinChange_constants hk s), State.constants_replies]

/-! ### The commands that each constant is open to -/

section
variable {a b : Constants} {c : Instr}

theorem Constants.openTo_clock (h : c ≠ .runClockTick) :
    (a.openTo c b).clock = a.clock := by
  unfold Constants.openTo; split <;> simp_all
theorem Constants.openTo_flow (h : ∀ up, c ≠ .flowEdge up) :
    (a.openTo c b).flow = a.flow := by
  unfold Constants.openTo; split <;> simp_all
theorem Constants.openTo_supply (h1 : ∀ o, c ≠ .lossWindowExpiry o) (h2 : ∀ o, c ≠ .railOkFall o)
    (h3 : ∀ o, c ≠ .supplySettleExpiry o) :
    (a.openTo c b).supply = a.supply := by
  unfold Constants.openTo; split <;> simp_all
theorem Constants.openTo_profile (h : ∀ q, c ≠ .profileField q) :
    (a.openTo c b).profile = a.profile := by
  unfold Constants.openTo; split <;> simp_all
theorem Constants.openTo_configured (h : ∀ q, c ≠ .profileLock q) :
    (a.openTo c b).configured = a.configured := by
  unfold Constants.openTo; split <;> simp_all
theorem Constants.openTo_edgeMode (h : ∀ q, c ≠ .profileLock q) :
    (a.openTo c b).edgeMode = a.edgeMode := by
  unfold Constants.openTo; split <;> simp_all
theorem Constants.openTo_strayThreshold (h : ∀ q, c ≠ .profileLock q) :
    (a.openTo c b).strayThreshold = a.strayThreshold := by
  unfold Constants.openTo; split <;> simp_all
theorem Constants.openTo_rights (h : ∀ q, c ≠ .profileLock q) :
    (a.openTo c b).rights = a.rights := by
  unfold Constants.openTo; split <;> simp_all
theorem Constants.openTo_settings (h : ∀ q, c ≠ .writeSetting q) :
    (a.openTo c b).settings = a.settings := by
  unfold Constants.openTo; split <;> simp_all
theorem Constants.openTo_resetKind : (a.openTo c b).resetKind = a.resetKind := by
  unfold Constants.openTo; split <;> rfl
theorem Constants.openTo_warmCount : (a.openTo c b).warmCount = a.warmCount := by
  unfold Constants.openTo; split <;> rfl
theorem Constants.openTo_resetHeld : (a.openTo c b).resetHeld = a.resetHeld := by
  unfold Constants.openTo; split <;> rfl
theorem Constants.openTo_pending : (a.openTo c b).pending = a.pending := by
  unfold Constants.openTo; split <;> rfl
theorem Constants.openTo_record (h : ∀ o, c ≠ .stuckOnWindowExpiry o) :
    (a.openTo c b).record = a.record := by
  unfold Constants.openTo; split <;> simp_all
theorem Constants.openTo_clear (h : ∀ o, c ≠ .stuckOnWindowExpiry o) (hl : a.latched = false) :
    (a.openTo c b).latched = false := by
  unfold Constants.openTo; split <;> simp_all
theorem Constants.openTo_latched (h : ∀ q, c ≠ .clearFault q) (hl : a.latched = true) :
    (a.openTo c b).latched = true := by
  unfold Constants.openTo; split <;> simp_all
theorem Constants.openTo_holders (h1 : ∀ q, c ≠ .claimLane q) (h2 : ∀ q, c ≠ .releaseLane q)
    (h3 : ∀ q, c ≠ .takeLane q) :
    (a.openTo c b).holders = a.holders := by
  unfold Constants.openTo; split <;> simp_all

end

/-- Settles O8: what a command changes of the constants is its own, read off constant by constant. -/
theorem eachStateHasItsCommands : Obligations.EachStateHasItsCommands := by
  intro c s t hc h
  have hopen := exec_constants hc h
  have own {α : Type} (f : Constants → α) (hf : f (s.constants.openTo c t.constants) = f s.constants)
      (hr : ∀ (a : Constants) (r : PerPort Reply), f { a with replies := r } = f a := by intros; rfl) :
      f t.constants = f s.constants := (congrArg f hopen).trans ((hr _ _).trans hf)
  have hlatched : t.guard.latched = (s.constants.openTo c t.constants).latched := congrArg Constants.latched hopen
  refine ⟨fun hn => own Constants.clock (Constants.openTo_clock hn),
    fun hn => own Constants.flow (Constants.openTo_flow hn),
    fun h1 h2 h3 => own Constants.supply (Constants.openTo_supply h1 h2 h3),
    fun hn => own Constants.profile (Constants.openTo_profile hn),
    fun hn => ⟨own Constants.configured (Constants.openTo_configured hn),
      own Constants.edgeMode (Constants.openTo_edgeMode hn),
      own Constants.strayThreshold (Constants.openTo_strayThreshold hn), fun p => ?rights⟩,
    fun hn => own Constants.settings (Constants.openTo_settings hn),
    own Constants.resetKind Constants.openTo_resetKind, own Constants.warmCount Constants.openTo_warmCount,
    own Constants.resetHeld Constants.openTo_resetHeld,
    fun hn => ⟨own Constants.record (Constants.openTo_record hn),
      fun hl => hlatched.trans (Constants.openTo_clear hn hl)⟩,
    fun hn hl => hlatched.trans (Constants.openTo_latched hn hl), fun h1 h2 h3 l => ?holder⟩
  case rights =>
    have hrights := own Constants.rights (Constants.openTo_rights hn)
    cases p
    · exact congrArg PerPort.a hrights
    · exact congrArg PerPort.b hrights
    · exact congrArg PerPort.c hrights
  case holder =>
    have hholders := own Constants.holders (Constants.openTo_holders h1 h2 h3)
    cases l
    · exact congrArg PerLane.water hholders
    · exact congrArg PerLane.dose hholders

/-! ### Every command answers (R171) -/

theorem takeExchange_next (p : Port) (s : State) (k : State → State) : ∃ t, takeExchange p s k = .next t := ⟨_, rfl⟩

/-- A reset leaves the queue of waiting commands alone. -/
theorem exec_reset_pending {c : Instr} {s t : State} (hc : c.isReset = true) (h : exec c s = .next t) :
    t.pending = s.pending := by
  have hread (u : State) : u.readPins.pending = u.pending := by
    unfold State.readPins State.cleanAtReset
    dsimp only
    split <;> rfl
  cases c <;> cases hc
  case powerOn => obtain rfl := Host.Outcome.next.inj h; rfl
  case resetLine edge =>
    cases edge <;> obtain rfl := Host.Outcome.next.inj h <;> dsimp only <;> split
    · rfl
    · rfl
    · exact hread _
    · rfl
  case resetPart q =>
    change execResetPart q s = _ at h
    unfold execResetPart at h
    rcases takeExchange_cases _ _ _ _ h with ⟨-, rfl⟩ | ⟨-, -, rfl⟩ | ⟨-, -, rfl⟩
    · rfl
    · rfl
    · dsimp only
      split
      · exact hread _
      · rfl

theorem exec_answers (c : Instr) (s : State) : ∃ t, exec c s = .next t := by
  cases hc : c.isReset
  · cases hv : c.service with
    | some v => exact exec_of_service hv s ▸ takeExchange_next _ _ _
    | none =>
    cases hk : c.event with
    | some k => exact exec_of_event hk s ▸ ⟨_, rfl⟩
    | none =>
    cases hp : c.pinChange with
    | some k => exact ⟨_, exec_of_pinChange hp s⟩
    | none =>
    rcases Instr.ownAnswer hc hv hk hp with rfl | ⟨p, bytes, rfl⟩ | ⟨p, code, tag, payload, rfl⟩ | ⟨q, rfl⟩
    all_goals exact ⟨_, rfl⟩
  · cases c <;> cases hc <;> exact ⟨_, rfl⟩

/-- Settles O2: a reset keeps the queue as it is, and outside one the queue is among the constants. -/
theorem everyCommandAnswersNext : Obligations.EveryCommandAnswersNext := by
  intro c s
  obtain ⟨t, h⟩ := exec_answers c s
  refine ⟨t, h, ?_⟩
  cases hc : c.isReset
  · exact (congrArg Constants.pending (exec_constants hc h)).trans Constants.openTo_pending
  · exact exec_reset_pending hc h

/-- Settles O1: one step is what `step` does with the two shapes of the queue. -/
theorem stepTakesFrontCommand : Obligations.StepTakesFrontCommand :=
  fun s => ⟨step_front s, step_idle s⟩

/-- Settles O4: a reset leaves the outputs settled, and so does every block's answer and every event; settled outputs keep each
interlock through its permit. -/
theorem outputsStaySettled : Obligations.OutputsStaySettled := by
  refine ⟨fun s t hs hl h => ?_, fun s hs => State.safe_of_settled hs⟩
  cases hp : s.pending with
  | nil =>
    rw [step_idle s hp] at h
    obtain rfl := Host.Outcome.next.inj h
    exact ⟨hs, hl⟩
  | cons c rest =>
    rw [step_front s c rest hp] at h
    have hs' : (s.withPending rest).settled = true := (State.withPending_settled s rest).trans hs
    have hl' : (s.withPending rest).heldLost = true := hl
    cases hc : c.isReset
    · have hheld : t.resetHeld = (s.withPending rest).resetHeld :=
        (congrArg Constants.resetHeld (exec_constants hc h)).trans Constants.openTo_resetHeld
      exact ⟨exec_settled hc hs' h, exec_heldLost hc hl' (fun hr => hheld.trans hr) h⟩
    · exact exec_reset_settled hc hs' hl' h

end Sys2Proof.Machine
end

-- ==== Every step keeps the bounds of the queues (R52, R65, R70, R159), and the settings their ranges and order (R167) ====
section
namespace Sys2Proof.Machine

/-- A table of 16 slots in place of another. -/
theorem State.withActions_bounded {s : State} (h : s.bounded = true) (table : List (Option ActionEntry))
    (hn : table.length = 16) : (s.withActions table).bounded = true := by
  simp only [State.bounded, State.tableBounded, Bool.and_eq_true, decide_eq_true_eq] at h ⊢
  exact ⟨⟨h.1.1, hn⟩, h.2⟩

/-- R52: the Action Table has 16 slots. -/
theorem State.actions_length {s : State} (h : s.bounded = true) : s.actions.length = 16 := by
  simp only [State.bounded, State.tableBounded, Bool.and_eq_true, decide_eq_true_eq] at h
  exact h.1.2

@[simp] theorem dropEntries_length (f : ActionEntry → Bool) (table : List (Option ActionEntry)) :
    (dropEntries f table).length = table.length := by simp [dropEntries]

theorem State.port_bounded {s : State} (h : s.bounded = true) (p : Port) : (s.port p).bounded = true := by
  simp only [State.bounded, State.portsBounded, Bool.and_eq_true] at h
  cases p
  · exact h.1.1.1.1
  · exact h.1.1.1.2
  · exact h.1.1.2

theorem State.withPort_bounded {s : State} (h : s.bounded = true) (p : Port) {r : PortRec} (hr : r.bounded = true) :
    (s.withPort p r).bounded = true := by
  simp only [State.bounded, State.portsBounded, Bool.and_eq_true] at h ⊢
  obtain ⟨⟨⟨⟨ha, hb⟩, hc⟩, ht⟩, hl⟩ := h
  cases p
  · exact ⟨⟨⟨⟨hr, hb⟩, hc⟩, ht⟩, hl⟩
  · exact ⟨⟨⟨⟨ha, hr⟩, hc⟩, ht⟩, hl⟩
  · exact ⟨⟨⟨⟨ha, hb⟩, hr⟩, ht⟩, hl⟩

@[simp] theorem State.endWait_bounded (s : State) (p : Port) : (s.endWait p).bounded = s.bounded := by
  cases p <;> rfl

/-- R161: held notices join the queue only up to 16, and are held on only behind a full queue. -/
theorem PortRec.afterTake_bounded (r : PortRec) (h : r.bounded = true) : r.afterTake.bounded = true := by
  simp only [PortRec.bounded, Bool.and_eq_true, Bool.or_eq_true, decide_eq_true_eq, List.isEmpty_iff] at h ⊢
  simp only [PortRec.afterTake, List.length_append, List.length_drop, List.length_take, List.drop_eq_nil_iff]
  omega

/-- R62: a change of a lane's holder. -/
theorem State.setHolder_bounded {s : State} (h : s.bounded = true) (l : Lane) (new : Option Port) :
    (s.setHolder l new).bounded = true := by
  have hlane : (s.withLane l { s.lane l with holder := new }).bounded = true :=
    s.withLane_bounded l _ h List.suffix_rfl
  cases hp : (s.lane l).holder with
  | none => rw [State.setHolder_free hp]; exact hlane
  | some p =>
    have hport : (s.droppedPort l p).bounded = true := by
      have henter (es : List (Nat × ActionEntry)) (r : PortRec) (hr : r.bounded = true) :
          (es.foldl (fun r e => r.enter (s.notice .actionDropped e.1 9 l.number)) r).bounded = true := by
        induction es generalizing r with
        | nil => exact hr
        | cons e es ih => exact ih _ (PortRec.enter_bounded _ _ hr)
      unfold State.droppedPort
      split
      · exact henter _ _ (State.port_bounded h p)
      · exact State.port_bounded h p
    rw [State.setHolder_held hp]
    exact State.withPort_bounded (State.withActions_bounded hlane _ (by simp [State.actions_length h])) p hport

/-! ### The blocks' answers -/

section
variable {s : State}

theorem withNamedLane_bounded {q : Request} {h : Lane → State → Answer} (hs : s.bounded = true)
    (hh : ∀ l, (h l s).state.bounded = true) : (withNamedLane q h s).state.bounded = true :=
  withNamedLane_keeps (fun s => s.bounded = true) q h s hs hh

theorem asHolder_bounded {q : Request} {h : Lane → State → Answer} (hs : s.bounded = true)
    (hh : ∀ l, (h l s).state.bounded = true) : (asHolder q h s).state.bounded = true :=
  asHolder_keeps (fun s => s.bounded = true) q h s hs hh

variable (h : s.bounded = true)
include h

theorem State.testOutput_bounded (n seconds : Nat) : (s.testOutput n seconds).state.bounded = true := by
  unfold State.testOutput State.beginTest
  (repeat' split) <;> simp [h]

theorem State.placeEntry_bounded (slot : Nat) (e : ActionEntry) : (s.placeEntry slot e).state.bounded = true := by
  unfold State.placeEntry
  split
  · exact State.executeSet_bounded _ _ h
  · exact State.withActions_bounded h _ (by simp [State.actions_length h])

theorem State.postAction_bounded (q : Request) : (s.postAction q).state.bounded = true := by
  unfold State.postAction
  (repeat' split) <;> first | exact h | exact State.placeEntry_bounded h _ _

theorem State.cancelAction_bounded (p : Port) (slot : Nat) : (s.cancelAction p slot).state.bounded = true := by
  unfold State.cancelAction
  (repeat' split)
  case h_1.isTrue => exact State.withActions_bounded h _ (by simp [State.actions_length h])
  all_goals exact h

theorem State.claimLane_bounded (p : Port) (l : Lane) : (s.claimLane p l).state.bounded = true := by
  unfold State.claimLane
  (repeat' split)
  · exact State.setHolder_bounded h _ _
  · exact h
  · exact h

theorem State.takeLane_bounded (p : Port) (l : Lane) : (s.takeLane p l).state.bounded = true := by
  unfold State.takeLane
  (repeat' split)
  · exact h
  · exact State.setHolder_bounded h _ _
  · exact h

theorem State.removeHead_bounded (l : Lane) (t : StepRec) : (s.removeHead l t).bounded = true := by
  refine State.releaseExclusion_bounded _ (State.dropDose_bounded _ _ (State.modLane_bounded _ _ _ h ?_))
  simp [List.tail_suffix]

theorem State.skipStep_bounded (l : Lane) : (s.skipStep l).state.bounded = true := by
  have htold : (s.tellSkip l).bounded = true := by
    unfold State.tellSkip
    cases l <;> simp [h]
  unfold State.skipStep
  (repeat' split)
  · exact h
  · exact State.removeHead_bounded h _ _
  · exact State.removeHead_bounded htold _ _
  · exact h

theorem State.retryStep_bounded (l : Lane) : (s.retryStep l).state.bounded = true := by
  unfold State.retryStep
  (repeat' split)
  · exact h
  · exact State.modLane_bounded _ _ _ (State.modHead_bounded _ _ _ h fun _ => rfl) List.suffix_rfl
  · exact h

theorem State.flushLane_bounded (l : Lane) : (s.flushLane l).state.bounded = true := by
  have hend : (if s.headActive l && (s.lane l).tryInProgress then s.tryEnd l else s).bounded = true := by
    split <;> simp [h]
  exact State.releaseExclusion_bounded _ (State.dropDose_bounded _ _
    (State.modLane_bounded _ _ _ hend (by simp [LaneRec.flushed])))

theorem State.holdLane_bounded (l : Lane) : (s.holdLane l).state.bounded = true := by
  unfold State.holdLane
  (repeat' split) <;> simp [h]

theorem State.resumeLane_bounded (l : Lane) : (s.resumeLane l).state.bounded = true := by
  unfold State.resumeLane
  split <;> simp [h]

/-- R70: a step joins a queue below 8, and is of a kind of the lane. -/
theorem State.postStep_bounded (payload : List Byte) (l : Lane) : (s.postStep payload l).state.bounded = true := by
  have hqueue (r : LaneRec) (id : Nat) (t : StepRec) : (r.post id t).queue = r.queue ++ [t] := by
    unfold LaneRec.post
    dsimp only
    split <;> rfl
  unfold State.postStep
  (repeat' split)
  · exact h
  · exact h
  · exact h
  next w hw hroom =>
    have hl : w.lane = l := by
      unfold State.postedWork at hw
      split at hw
      · cases hw
      · dsimp only at hw
        split at hw
        next hok => cases hw; exact hok.1
        next => cases hw
    refine State.withLane_bounded_of _ _ _ h ?_ fun t ht => ?_
    · rw [hqueue]
      simp
      omega
    · rw [hqueue, List.mem_append, List.mem_singleton] at ht
      rcases ht with ht | rfl
      · exact s.lane_work h l t ht
      · exact hl

theorem State.loadAll_bounded (r : LoadRequest) : (s.loadAll r).state.bounded = true := by
  have hresin {w : State} (hw : w.bounded = true) (v : Option Nat) : (w.loadResin v).bounded = true := by
    cases v <;> simp [State.loadResin, hw]
  have hstock {w : State} (hw : w.bounded = true) (a : Agent) (v : Option Nat) : (w.loadStock a v).bounded = true := by
    cases v
    · exact hw
    · simp only [State.loadStock]
      split <;> simp [hw]
  exact hstock (hstock (hresin h _) _ _) _ _

theorem State.lockProfile_bounded : s.lockProfile.bounded = true := by
  have hbase := State.evaluate_bounded
    ((s.modStore (fun t => { t with configured := true, lastRefused := 0 })).lockTimeBase) h
  have hresin {w : State} (hw : w.bounded = true) : w.lockResin.bounded = true := by
    unfold State.lockResin
    split <;> simp [hw]
  have hacc {w : State} (hw : w.bounded = true) (a : Agent) : (w.lockAccount a).bounded = true := by
    unfold State.lockAccount
    split <;> simp [hw]
  have hdoor {w : State} (hw : w.bounded = true) : w.lockDoor.bounded = true := by
    unfold State.lockDoor
    split <;> simp [hw]
  exact hdoor (hacc (hacc (hresin ((State.withEngine_lanes_bounded _ _ _ _).trans hbase)) _) _)

theorem State.storeSetting_bounded (p : Port) (i v : Nat) (range : Nat × Nat) :
    (s.storeSetting p i v range).state.bounded = true := by
  have heffect {w : State} (hw : w.bounded = true) : (w.settingEffect i).bounded = true := by
    unfold State.settingEffect
    (repeat' split) <;> simp [hw]
  refine heffect ?_
  split
  · exact h
  · exact State.enterFor_bounded _ _ _ h

end

/-- R52, R65, R70, R159: every block's answer keeps the bounds. -/
theorem State.block_bounded {c : Instr} {v : Service} (hv : c.service = some v) {s : State} (h : s.bounded = true) :
    (v.block s).state.bounded = true := by
  cases c <;> cases hv
  case readLane => exact withNamedLane_bounded h fun l => by simp [h]
  case readStep => exact withNamedLane_bounded h fun l => by unfold State.readStep; split <;> exact h
  case sampleNow => exact State.requestSample_bounded _ _ _ h
  case clearFault =>
    show s.clearFault.state.bounded = true
    unfold State.clearFault
    (repeat' split) <;> simp [h]
  case testOutput => exact State.testOutput_bounded h _ _
  case postAction => exact State.postAction_bounded h _
  case cancelAction => exact State.cancelAction_bounded h _ _
  case claimLane => exact withNamedLane_bounded h (State.claimLane_bounded h _)
  case takeLane => exact withNamedLane_bounded h (State.takeLane_bounded h _)
  case releaseLane => exact asHolder_bounded h fun l => State.setHolder_bounded h _ _
  case skipStep => exact asHolder_bounded h (State.skipStep_bounded h)
  case retryStep => exact asHolder_bounded h (State.retryStep_bounded h)
  case flushLane => exact asHolder_bounded h (State.flushLane_bounded h)
  case holdLane => exact asHolder_bounded h (State.holdLane_bounded h)
  case resumeLane => exact asHolder_bounded h (State.resumeLane_bounded h)
  case postStep =>
    dsimp only
    split
    · exact asHolder_bounded h (State.postStep_bounded h _)
    · exact h
  case resetResin =>
    show s.resetResin.state.bounded = true
    unfold State.resetResin State.freshResin
    split <;> simp [h]
  case refill =>
    dsimp only
    unfold State.refill State.refillStock
    (repeat' split) <;> simp [h]
  case setStock =>
    dsimp only
    unfold State.setStockAnswer State.setStockValue State.holdWrite
    dsimp only
    (repeat' split) <;> simp [h]
  case clearRodFault =>
    show s.clearRodFault.state.bounded = true
    unfold State.clearRodFault
    (repeat' split) <;> simp [h]
  case subscribe =>
    dsimp only
    unfold State.subscribe
    dsimp only
    split
    · exact h
    · exact State.withPort_bounded h _ (State.port_bounded h _)
  case takeNotices => exact State.withPort_bounded h _ (PortRec.afterTake_bounded _ (State.port_bounded h _))
  case profileField =>
    dsimp only
    unfold State.profileField
    dsimp only
    (repeat' split) <;> exact h
  case profileLock =>
    show s.profileLock.state.bounded = true
    unfold State.profileLock
    (repeat' split)
    · exact h
    · exact h
    · exact State.lockProfile_bounded h
  case writeSetting =>
    dsimp only
    unfold State.writeSetting
    split
    · exact h
    · exact State.storeSetting_bounded h _ _ _ _
  case loadAccounts =>
    dsimp only
    unfold State.loadAccounts
    (repeat' split)
    case h_2 => exact State.loadAll_bounded h _
    all_goals exact h
  case beginCycle =>
    show s.beginCycle.state.bounded = true
    unfold State.beginCycle State.startCycle
    (repeat' split) <;> simp [h]
  case endCycle =>
    show s.endCycle.state.bounded = true
    unfold State.endCycle
    split <;> simp [h]
  all_goals simp [Service.page, h]

/-! ### Events inside the part, and changes of pins -/

section
variable {s : State} (h : s.bounded = true)
include h

theorem State.tick_bounded : s.tick.bounded = true := by
  have hlane {u : State} (hu : u.bounded = true) (l : Lane) : (u.modLane l LaneRec.tick).bounded = true :=
    State.modLane_bounded _ _ _ hu List.suffix_rfl
  have hwater {u : State} (hu : u.bounded = true) : u.waterTick.bounded = true := by
    have hprogress : (u.modHead .water StepRec.progressTick).bounded = true :=
      State.modHead_bounded _ _ _ hu fun _ => rfl
    unfold State.waterTick
    (repeat' split) <;> simp [hu, hprogress]
  have hclean {u : State} (hu : u.bounded = true) : u.cleanTick.bounded = true := by
    unfold State.cleanTick
    split <;> exact hu
  have hheater {u : State} (hu : u.bounded = true) : u.heaterTick.bounded = true := by
    unfold State.heaterTick
    split <;> simp [hu]
  exact hheater (hclean (hwater (hlane (hlane h _) _)))

theorem State.countEdge_bounded : s.countEdge.bounded = true := by
  have hstray {u : State} (hu : u.bounded = true) : u.strayEdge.bounded = true := by
    unfold State.strayEdge
    dsimp only
    (repeat' split)
    case h_4.isTrue => exact State.raiseByClass_bounded _ _ hu
    all_goals exact hu
  have hfill {u : State} (hu : u.bounded = true) : u.fillEdge.bounded = true := by
    unfold State.fillEdge
    dsimp only
    (repeat' split) <;> simp [hu]
  exact State.regenEdge_bounded _ (hfill (hstray h))

theorem State.completeSample_bounded (code : Code) : (s.completeSample code).bounded = true := by
  have hclass {u : State} (hu : u.bounded = true) (c : Nat) : (u.handClass c).bounded = true := by
    unfold State.handClass
    (repeat' split) <;> simp [hu]
  unfold State.completeSample
  dsimp only
  split
  · exact hclass (by simp [h]) _
  · simp [h]

theorem State.stuckOnFault_bounded (o : Checked) : (s.stuckOnFault o).bounded = true := by
  cases o
  case inlet => exact State.latchFault_bounded _ _ h
  case heater => exact State.latchFault_bounded _ _ h
  case drain => exact State.outputFault_bounded _ _ _ h
  case circ => exact State.outputFault_bounded _ _ _ h

theorem State.stuckOffFault_bounded (o : Checked) : (s.stuckOffFault o).bounded = true := by
  have hmark : ((s.modCheck o (fun c => { c with stuckOff := none, offMark := true })).outputFault o.output 2).bounded
      = true := State.outputFault_bounded _ _ _ h
  have hreport {u : State} (hu : u.bounded = true) (d : Bool) (l : Lane) :
      (if d then u.failCounted l .outputFault else u).bounded = true := by
    split <;> simp [hu]
  have htest {u : State} (hu : u.bounded = true) (d : Bool) : (if d then u.endTest else u).bounded = true := by
    split <;> simp [hu]
  exact htest (hreport (hreport hmark _ _) _ _) _

/-- R52, R65, R70, R159: every event keeps the bounds. -/
theorem State.event_bounded {c : Instr} {k : State → State} (hk : c.event = some k) : (k s).bounded = true := by
  cases c <;> cases hk
  case runClockTick => exact State.tick_bounded h
  case zeroCrossEdge => dsimp only; split <;> exact h
  case debounceTimerExpiry =>
    dsimp only
    (repeat' split)
    · exact h
    · exact deliver_bounded _ (fun r u hu => u.inputTo_bounded _ _ _ r hu) _ _ _ h
    · exact h
  all_goals dsimp only; split
  case flowEdge.refl.isTrue => exact State.countEdge_bounded h
  case lossWindowExpiry.refl.isTrue =>
    split
    · exact deliver_bounded _ (fun r u hu => u.supplyTo_bounded _ r hu) _ _ _ h
    · exact h
  case supplySettleExpiry.refl.isTrue =>
    exact deliver_bounded _ (fun r u hu => u.supplyTo_bounded _ r hu) _ _ _ h
  case tempSampleTimerExpiry.refl.isTrue =>
    exact deliver_bounded _ (fun r u hu => u.sampleTo_bounded _ _ r hu) _ _ _ h
  case ledTimerExpiry.refl.isTrue => exact State.completeSample_bounded h _
  case stuckOnWindowExpiry.refl.isTrue => exact State.stuckOnFault_bounded h _
  case stuckOffWindowExpiry.refl.isTrue => exact State.stuckOffFault_bounded h _
  case actionDueSet.refl.isFalse =>
    exact State.executeSet_bounded _ _ (State.withActions_bounded h _ (by simp [State.actions_length h]))
  case timeLimitExpiry.refl.isTrue => unfold State.limitExpires; split <;> simp [h]
  case retryTimerExpiry.refl.isTrue => exact State.modLane_bounded _ _ _ h List.suffix_rfl
  all_goals simp [h]

theorem State.pinChange_bounded {c : Instr} {k : State → State} (hk : c.pinChange = some k) : (k s).bounded = true := by
  have hsense {u : State} (hu : u.bounded = true) (l : SenseLine) (on : Bool) : (u.senseChange l on).bounded = true := by
    have hclean {w : State} (hw : w.bounded = true) : (w.cleanSense l on).bounded = true := by
      unfold State.cleanSense
      split <;> exact hw
    have hfeedback {w : State} (hw : w.bounded = true) (a : Agent) : (w.feedbackSense a on).bounded = true := by
      unfold State.feedbackSense
      split <;> simp [hw]
    cases l
    case doseDSn => exact hfeedback (hclean hu) .detergent
    case doseRSn => exact hfeedback (hclean hu) .rinse
    all_goals exact hclean (State.checkSense_bounded _ _ _ hu)
  cases c <;> cases hk <;> dsimp only
  case railOkFall =>
    (repeat' split)
    · exact h
    · exact h
    · exact deliver_bounded _ (fun r u hu => u.supplyTo_bounded _ r hu) _ _ _ h
    · exact h
  case railOkRise => (repeat' split) <;> exact h
  case filteredPinChange =>
    (repeat' split)
    · exact h
    · exact h
    · exact (State.withInputs_bounded _ _).trans h
  case rodOcChange =>
    (repeat' split)
    · exact h
    · exact h
    · exact State.rodOcAsserted_bounded _ h
    · exact h
  case senseLineChange =>
    (repeat' split)
    · exact h
    · exact h
    · exact hsense (u := s.withPins _) ((State.withPins_bounded _ _).trans h) _ _

end

/-! ### Resets -/

theorem State.afterPowerOn_bounded (pins : Pins) (busy : List Port) (pending : List Instr) :
    (State.afterPowerOn pins busy pending).bounded = true := rfl

theorem State.readPins_bounded (s : State) : s.readPins.bounded = s.bounded := by
  unfold State.readPins State.cleanAtReset
  dsimp only
  split <;> rfl

/-- R52, R64, R88 and R164: after a reset every queue is empty. -/
theorem exec_reset_bounded {c : Instr} {s t : State} (hc : c.isReset = true) (hs : s.bounded = true)
    (h : exec c s = .next t) : t.bounded = true := by
  cases c <;> cases hc
  case powerOn => obtain rfl := Host.Outcome.next.inj h; exact State.afterPowerOn_bounded _ _ _
  case resetLine edge =>
    cases edge <;> obtain rfl := Host.Outcome.next.inj h <;> dsimp only <;> split
    · exact hs
    · rfl
    · exact (State.readPins_bounded _).trans hs
    · exact hs
  case resetPart q =>
    change execResetPart q s = _ at h
    unfold execResetPart at h
    rcases takeExchange_cases _ _ _ _ h with ⟨-, rfl⟩ | ⟨-, -, rfl⟩ | ⟨-, -, rfl⟩
    · exact hs
    · exact (State.endWait_bounded _ _).trans hs
    · dsimp only
      split
      · exact State.readPins_bounded _
      · exact (State.setReply_bounded _ _ _).trans hs

theorem exec_bounded {c : Instr} {s t : State} (hs : s.bounded = true) (h : exec c s = .next t) : t.bounded = true := by
  cases hc : c.isReset
  · rcases exec_cases hc h with rfl | ⟨p, -, -, rfl | ⟨r, rfl⟩⟩ | ⟨v, r, hv, -, rfl⟩ | ⟨k, hk, -, rfl⟩ | ⟨k, hk, rfl⟩
    · exact hs
    · exact (State.endWait_bounded _ _).trans hs
    · exact (State.setReply_bounded _ _ _).trans hs
    · exact (State.setReply_bounded _ _ _).trans (State.block_bounded hv hs)
    · exact State.event_bounded hs hk
    · exact State.pinChange_bounded hs hk
  · exact exec_reset_bounded hc hs h

/-- A step keeps what every command keeps, the queue of waiting commands aside. -/
theorem step_keeps {P : State → Prop} (hq : ∀ s rest, P s → P (s.withPending rest))
    (hP : ∀ c s t, P s → exec c s = .next t → P t) {s t : State} (hs : P s) (h : step s = .next t) : P t := by
  cases hp : s.pending with
  | nil =>
    rw [step_idle s hp] at h
    exact Host.Outcome.next.inj h ▸ hs
  | cons c rest =>
    rw [step_front s c rest hp] at h
    exact hP c _ t (hq s rest hs) h

/-- Settles O6: every command keeps the bounds. -/
theorem queuesStayBounded : Obligations.QueuesStayBounded :=
  fun _ _ hs h => step_keeps (P := fun s => s.bounded = true) (fun _ _ hs => hs) (fun _ _ _ => exec_bounded) hs h

/-! ### The settings (R167) -/

/-- R167: the settings that lie in their ranges and keep their order, setting by setting. -/
theorem State.settingsOk_iff {s : State} : s.settingsOk = true ↔
    s.store.settings.length = 18
    ∧ (∀ i < 18, ∀ r, settingRange (i + 1) = some r → r.1 ≤ s.setting (i + 1) ∧ s.setting (i + 1) ≤ r.2)
    ∧ s.setting 3 ≤ s.setting 4 ∧ s.setting 4 ≤ s.setting 5 ∧ s.setting 12 ≤ s.setting 13 := by
  simp only [State.settingsOk, Bool.and_eq_true, decide_eq_true_eq, List.all_eq_true, List.mem_range, and_assoc]
  refine and_congr Iff.rfl (and_congr (forall₂_congr fun i _ => ?_) Iff.rfl)
  cases settingRange (i + 1) <;> simp

/-- The settings are all that their ranges and their order speak of. -/
theorem State.settingsOk_congr {s t : State} (h : t.store.settings = s.store.settings) : t.settingsOk = s.settingsOk := by
  simp only [State.settingsOk, State.setting, h]
  rfl

theorem clampNat_mem {lo hi : Nat} (h : lo ≤ hi) (n : Nat) : lo ≤ clampNat lo hi n ∧ clampNat lo hi n ≤ hi := by
  unfold clampNat
  split
  · omega
  · split <;> omega

/-- A setting after a write. -/
theorem setting_of_set {s t : State} {i v : Nat} (hn : s.store.settings.length = 18) (hi : 1 ≤ i ∧ i ≤ 18)
    (ht : t.store.settings = s.store.settings.set (i - 1) v) (k : Nat) (hk : 1 ≤ k) :
    t.setting k = if k = i then v else s.setting k := by
  by_cases hki : k = i
  · subst hki
    simp [State.setting, ht, List.getD, hn, show k - 1 < 18 by omega]
  · have hne : i - 1 ≠ k - 1 := by omega
    simp [State.setting, ht, List.getD, List.getElem?_set_ne hne, hki]

/-- Table 11-2: the indices of the settings, and that each range holds a value. -/
theorem settingRange_index {i : Nat} {r : Nat × Nat} (h : settingRange i = some r) : (1 ≤ i ∧ i ≤ 18) ∧ r.1 ≤ r.2 := by
  unfold settingRange at h
  split at h <;> cases h <;> decide

/-- R167: the settings with an ordered neighbour. -/
def ordered : List Nat := [3, 4, 5, 12, 13]

theorem State.orderClamp_free {s : State} {i : Nat} (h : i ∉ ordered) (v : Nat) : s.orderClamp i v = v := by
  unfold State.orderClamp
  split <;> first | rfl | exact absurd (by decide) h

section
variable {s : State} (hs : s.settingsOk = true) {i : Nat} {r : Nat × Nat} (hr : settingRange i = some r)
include hs hr

theorem State.setting_range : r.1 ≤ s.setting i ∧ s.setting i ≤ r.2 := by
  obtain ⟨-, hrange, -⟩ := State.settingsOk_iff.mp hs
  obtain ⟨hlo, hhi⟩ := (settingRange_index hr).1
  obtain ⟨k, rfl⟩ : ∃ k, i = k + 1 := ⟨i - 1, by omega⟩
  exact hrange k (by omega) r hr

/-- R167: the clamp against the neighbours leaves a value in the range, since the neighbours are in the same one. -/
theorem State.storedSetting_range (value : Nat) :
    r.1 ≤ s.storedSetting i value r ∧ s.storedSetting i value r ≤ r.2 := by
  have hclamp := clampNat_mem (settingRange_index hr).2 value
  unfold State.storedSetting
  generalize clampNat r.1 r.2 value = v at hclamp ⊢
  by_cases hi : i ∈ ordered
  · have h3 := State.setting_range hs (i := 3) rfl
    have h4 := State.setting_range hs (i := 4) rfl
    have h5 := State.setting_range hs (i := 5) rfl
    have h12 := State.setting_range hs (i := 12) rfl
    have h13 := State.setting_range hs (i := 13) rfl
    simp only [ordered, List.mem_cons, List.not_mem_nil, or_false] at hi
    rcases hi with rfl | rfl | rfl | rfl | rfl <;> cases hr <;>
      simp only [State.orderClamp, clampNat] at hclamp ⊢ <;> (repeat' split) <;> omega
  · rw [State.orderClamp_free hi]
    exact hclamp

/-- R167: a setting written keeps the settings in their ranges and their order. -/
theorem State.settingsOk_of_write {t : State} (value : Nat)
    (ht : t.store.settings = s.store.settings.set (i - 1) (s.storedSetting i value r)) : t.settingsOk = true := by
  obtain ⟨hn, -, h34, h45, h1213⟩ := State.settingsOk_iff.mp hs
  have hi := (settingRange_index hr).1
  have hset := setting_of_set hn hi ht
  have hstored := State.storedSetting_range hs hr value
  refine State.settingsOk_iff.mpr ⟨by simp [ht, hn], fun k hk r' hr' => ?_, ?_⟩
  · rw [hset (k + 1) (by omega)]
    split
    next hki =>
      subst hki
      cases hr.symm.trans hr'
      exact hstored
    next => exact State.setting_range hs hr'
  · simp only [hset 3 (by omega), hset 4 (by omega), hset 5 (by omega), hset 12 (by omega), hset 13 (by omega)]
    by_cases ho : i ∈ ordered
    · simp only [ordered, List.mem_cons, List.not_mem_nil, or_false] at ho
      have hmid := clampNat_mem (Nat.le_trans h34 h45) (clampNat r.1 r.2 value)
      rcases ho with rfl | rfl | rfl | rfl | rfl <;>
        simp only [State.storedSetting, State.orderClamp, Nat.reduceEqDiff, reduceIte] <;> omega
    · simp only [ordered, List.mem_cons, List.not_mem_nil, or_false, not_or] at ho
      obtain ⟨n3, n4, n5, n12, n13⟩ := ho
      simp [Ne.symm n3, Ne.symm n4, Ne.symm n5, Ne.symm n12, Ne.symm n13, h34, h45, h1213]

end

/-- R167: a reset leaves the settings as they were, or at their defaults. -/
theorem exec_reset_settings {c : Instr} {s t : State} (hc : c.isReset = true) (h : exec c s = .next t) :
    t.store.settings = s.store.settings ∨ t.store.settings = Store.defaultSettings := by
  have hread (u : State) : u.readPins.store = u.store := by
    unfold State.readPins State.cleanAtReset
    dsimp only
    split <;> rfl
  cases c <;> cases hc
  case powerOn => obtain rfl := Host.Outcome.next.inj h; exact .inr rfl
  case resetLine edge =>
    cases edge <;> obtain rfl := Host.Outcome.next.inj h <;> dsimp only <;> split
    · exact .inl rfl
    · exact .inl rfl
    · exact .inl ((congrArg Store.settings (hread _)).trans rfl)
    · exact .inl rfl
  case resetPart q =>
    change execResetPart q s = _ at h
    unfold execResetPart at h
    rcases takeExchange_cases _ _ _ _ h with ⟨-, rfl⟩ | ⟨-, -, rfl⟩ | ⟨-, -, rfl⟩
    · exact .inl rfl
    · exact .inl rfl
    · dsimp only
      split
      · exact .inl ((congrArg Store.settings (hread _)).trans rfl)
      · exact .inl rfl

theorem State.defaultSettings_ok {s : State} (h : s.store.settings = Store.defaultSettings) : s.settingsOk = true := by
  rw [State.settingsOk_congr (s := State.reset) h]
  decide

/-- R167: a WRITE SETTING that answers keeps the settings in order. -/
theorem exec_writeSetting_settingsOk {q : Request} {s t : State} (hs : s.settingsOk = true)
    (h : exec (.writeSetting q) s = .next t) : t.settingsOk = true := by
  refine serve_keeps (fun s => s.settingsOk = true) (fun _ _ _ h => h) (fun _ _ h => h) hs (fun _ => ?_) h
  unfold State.writeSetting
  split
  · exact hs
  next r hr =>
    exact State.settingsOk_of_write hs hr _ (congrArg Constants.settings (State.storeSetting_constants _ _ _ _))

theorem exec_settingsOk {c : Instr} {s t : State} (hs : s.settingsOk = true) (h : exec c s = .next t) :
    t.settingsOk = true := by
  cases hc : c.isReset
  · by_cases hw : ∃ q, c = .writeSetting q
    · obtain ⟨q, rfl⟩ := hw
      exact exec_writeSetting_settingsOk hs h
    · have hkept : t.store.settings = s.store.settings :=
        (congrArg Constants.settings (exec_constants hc h)).trans
          (Constants.openTo_settings fun q hq => hw ⟨q, hq⟩)
      exact (State.settingsOk_congr hkept).trans hs
  · rcases exec_reset_settings hc h with hkept | hdefault
    · exact (State.settingsOk_congr hkept).trans hs
    · exact State.defaultSettings_ok hdefault

/-- Settles O7: only WRITE SETTING writes a setting, and it clamps against the range and the neighbours. -/
theorem settingsStayOrdered : Obligations.SettingsStayOrdered :=
  fun _ _ hs h => step_keeps (P := fun s => s.settingsOk = true) (fun _ _ hs => hs) (fun _ _ _ => exec_settingsOk) hs h

/-- Settles O5: after reset nothing is energised without supply, every queue is empty, and the settings are the defaults. -/
theorem invariantsHoldAtReset : Obligations.InvariantsHoldAtReset :=
  ⟨State.afterPowerOn_settled _ _ _, rfl, State.afterPowerOn_bounded _ _ _,
    State.safe_of_settled (State.afterPowerOn_settled _ _ _), State.defaultSettings_ok rfl⟩

end Sys2Proof.Machine
end

-- ==== The frame of a request: what the port answers itself (R154 to R157) ====
section
namespace Sys2Proof.Machine

/-! ### Requests that the port refuses (R156, R157) -/

section
variable {cls : RightsClass} {len : Nat} {q : Request} {h : State → Answer} {s : State}

theorem serve_notPermitted (ht : s.takes q.port) (hc : (s.port q.port).rights.has cls = false) :
    serve cls len q h s = .next (s.reply q .notPermitted) := by
  unfold serve
  rw [takeExchange_taken _ _ _ ht.1 ht.2]
  simp [portAnswer, hc, State.say, State.reply]

theorem serve_badLength (ht : s.takes q.port) (hc : (s.port q.port).rights.has cls = true)
    (hl : q.payload.length ≠ len) : serve cls len q h s = .next (s.reply q .badField) := by
  unfold serve
  rw [takeExchange_taken _ _ _ ht.1 ht.2]
  simp [portAnswer, hc, hl, State.say, State.reply]

end

/-- A request of Table 12-2 is NULL, RESET PART or a request to a block. -/
theorem Instr.request_cases {c : Instr} {code : Byte} {q : Request} (h : codeOf c = some (code, q)) :
    c = .null q ∨ (∃ busy, c = .resetPart { q with busy := busy }) ∨ ∃ v, c.service = some v ∧ v.request = q := by
  cases c <;> cases h
  case null => exact .inl rfl
  case resetPart r => exact .inr (.inl ⟨r.busy, rfl⟩)
  all_goals exact .inr (.inr ⟨_, rfl, rfl⟩)

section
variable {q : Request} {busy : List Port} {s : State}

theorem exec_resetPart_notPermitted (ht : s.takes q.port) (hc : (s.port q.port).rights.profile = false) :
    exec (.resetPart { q with busy := busy }) s = .next (s.reply q .notPermitted) := by
  change execResetPart _ s = _
  unfold execResetPart
  rw [takeExchange_taken _ _ _ ht.1 ht.2]
  simp [portAnswer, Rights.has, hc, State.say, State.reply]

theorem exec_resetPart_badLength (ht : s.takes q.port) (hc : (s.port q.port).rights.profile = true)
    (hl : q.payload.length ≠ 0) : exec (.resetPart { q with busy := busy }) s = .next (s.reply q .badField) := by
  change execResetPart _ s = _
  unfold execResetPart
  rw [takeExchange_taken _ _ _ ht.1 ht.2]
  have hl : q.payload ≠ [] := fun hnil => hl (List.length_eq_zero_iff.mpr hnil)
  simp [portAnswer, Rights.has, hc, hl, State.say, State.reply]

/-- R156: NULL is OK once its length is 0. -/
theorem exec_null (ht : s.takes q.port) :
    exec (.null q) s = .next (s.reply q (if q.payload.length = 0 then .ok else .badField)) := by
  change execNull q s = _
  unfold execNull
  exact takeExchange_taken _ _ _ ht.1 ht.2

end

/-- Settles O10: the port answers before the request reaches its block, whichever request it is. -/
theorem portRefusesBeforeTheBlock : Obligations.PortRefusesBeforeTheBlock := by
  intro i code q s hi ht
  rcases Instr.request_cases hi with rfl | ⟨busy, rfl⟩ | ⟨v, hv, rfl⟩
  · refine ⟨fun cls hcls => absurd hcls (by simp [Instr.rightsClass]), fun len hlen hne _ => ?_⟩
    cases hlen
    rw [exec_null ht, if_neg hne]
  · refine ⟨fun cls hcls hc => ?_, fun len hlen hne hc => ?_⟩
    · cases hcls
      exact exec_resetPart_notPermitted ht hc
    · cases hlen
      exact exec_resetPart_badLength ht (hc .profile rfl) hne
  · obtain ⟨hclass, hlength, -, -⟩ := Instr.service_spec hv
    refine ⟨fun cls hcls hc => ?_, fun len hlen hne hc => ?_⟩
    · cases hclass.symm.trans hcls
      rw [exec_of_service hv]
      exact serve_notPermitted ht hc
    · cases hlength.symm.trans hlen
      rw [exec_of_service hv]
      exact serve_badLength ht (hc v.cls hclass) hne

/-! ### Exchanges that reach no block (R154 to R156, R164) -/

/-- The end of an exchange that a reset has cut ends its port's wait, whatever it brings (R164). -/
theorem exec_cut {c : Instr} {p : Port} {bytes : List Byte} {s : State} (hc : exchangeOf c = some (p, bytes))
    (hr : s.resetHeld = false) (hw : (s.port p).waitCs = true) : exec c s = .next (s.endWait p) := by
  cases hv : c.service with
  | some v =>
    have hp : v.request.port = p := by
      cases c <;> cases hv <;> cases hc <;> rfl
    subst hp
    rw [exec_of_service hv]
    exact takeExchange_cut _ _ _ hr hw
  | none =>
    cases c <;> cases hv <;> cases hc
    case none.resetPart.refl.refl => change execResetPart _ s = _; unfold execResetPart; exact takeExchange_cut _ _ _ hr hw
    case none.badFrame.refl.refl => change execBadFrame _ _ s = _; unfold execBadFrame; exact takeExchange_cut _ _ _ hr hw
    case none.unknownRequest.refl.refl =>
      change execUnknownRequest _ _ _ _ s = _
      unfold execUnknownRequest
      exact takeExchange_cut _ _ _ hr hw
    case none.null.refl.refl => change execNull _ s = _; unfold execNull; exact takeExchange_cut _ _ _ hr hw

/-- Settles O11: each of these exchanges is taken by its port alone. -/
theorem framesThatReachNoBlock : Obligations.FramesThatReachNoBlock := by
  refine ⟨fun p bytes tag s ht hbad => ?badFrame, fun p code tag payload s ht hcode => ?unknown,
    fun q s ht hempty => ?null, fun p s ht => ?noByte,
    fun c p bytes s hc hr hw => exec_cut hc hr hw⟩
  case badFrame =>
    change execBadFrame p bytes s = _
    unfold execBadFrame
    rw [takeExchange_taken p s _ ht.1 ht.2, hbad]
  case unknown =>
    change execUnknownRequest p code tag payload s = _
    unfold execUnknownRequest
    rw [takeExchange_taken p s _ ht.1 ht.2, hcode]
  case noByte =>
    change execBadFrame p [] s = _
    unfold execBadFrame
    exact takeExchange_taken p s _ ht.1 ht.2
  case null => rw [exec_null ht, if_pos (by simp [hempty])]

/-! ### The frame check (R155) -/

/-- Settles O12: the check's three ways to a bad frame, and the frame that is taken. -/
theorem frameCheckFollowsTheTable : Obligations.FrameCheckFollowsTheTable := by
  refine ⟨fun _ => rfl, fun _ _ => rfl, fun code tag len rest => ⟨fun hbad => ?_, ?_⟩⟩
  · unfold checkFrame
    dsimp only
    split
    · rfl
    · rw [if_pos (by omega)]
  · rintro payload tail crc hlen hmax rfl
    unfold checkFrame
    dsimp only
    rw [if_neg (by omega), if_neg (by simp; omega), ← hlen]
    simp

/-! ### Notices at a port (R159) -/

/-- Settles O14: the four branches of the placement. -/
theorem noticePlacement : Obligations.NoticePlacement := by
  intro p n
  have hany : p.held.any (fun h => decide (h.kind = n.kind)) = true ↔ ∃ h ∈ p.held, h.kind = n.kind := by simp
  refine ⟨fun hroom => ?room, fun hfull hurgent => ?ordinary, fun hfull hurgent hnew => ?joins,
    fun hfull hurgent hold => ?replaces⟩
  case room => simp [PortRec.enter, hroom]
  case ordinary => simp [PortRec.enter, hurgent, Nat.not_lt.mpr hfull]
  case joins =>
    have hnone : p.held.any (fun h => decide (h.kind = n.kind)) = false := by simpa using hnew
    simp [PortRec.enter, hurgent, Nat.not_lt.mpr hfull, hnone]
  case replaces =>
    obtain ⟨h, hmem, hkind⟩ := hold
    have henter : p.enter n = { p with held := p.held.map (fun h => if h.kind = n.kind then n else h), lost := true } := by
      simp only [PortRec.enter, hurgent, Nat.not_lt.mpr hfull, hany.mpr ⟨h, hmem, hkind⟩]
      rfl
    rw [henter]
    refine ⟨rfl, rfl, List.mem_map.mpr ⟨h, hmem, if_pos hkind⟩, ?_⟩
    rw [List.map_map]
    exact List.map_congr_left fun x _ => by
      dsimp only [Function.comp]
      split
      · exact ‹x.kind = n.kind›.symm
      · rfl

end Sys2Proof.Machine
end

-- ==== Reading an exchange back, and what a port shifts out (R154 to R156, R160, R161) ====
section
namespace Sys2Proof
open Machine

/-! ### Commands and their bytes (R155) -/

/-- The request table has a request of its code for each command of Table 12-2 (R156). -/
theorem requestOf_of_codeOf {i : Instr} {code : Byte} {q : Request} (h : codeOf i = some (code, q)) :
    (requestOf code q).map (fun j => j.amid i.cuts) = some i := by
  cases i <;> cases h <;> rfl

/-- Each entry of the request table makes a request that hands its payload over. -/
theorem requestTable_makes (q : Request) (busy : List Port) :
    ∀ e ∈ requestTable, (codeOf ((e.2 q).amid busy)).map Prod.snd = some q
      ∧ (q.payload.length ≤ 28 → q.port ∉ busy → ((e.2 q).amid busy).wf = true) := by
  simp [requestTable, codeOf, Instr.amid, Instr.wf, Request.wf]
  exact ⟨fun hl _ => hl, fun hl hp => ⟨hl, hp⟩⟩

theorem requestOf_makes {code : Byte} {q : Request} {i : Instr} (h : requestOf code q = some i) (busy : List Port) :
    (codeOf (i.amid busy)).map Prod.snd = some q
      ∧ (q.payload.length ≤ 28 → q.port ∉ busy → (i.amid busy).wf = true) := by
  obtain ⟨mk, hlookup, rfl⟩ := Option.map_eq_some_iff.mp h
  obtain ⟨l1, l2, htable, -⟩ := List.lookup_eq_some_iff.mp hlookup
  exact requestTable_makes q busy (code.toNat, mk) (by rw [htable]; simp)

/-- A request comes by an exchange on its own port. -/
theorem exchangeOf_of_codeOf {i : Instr} {q : Request} (h : (codeOf i).map Prod.snd = some q) :
    ∃ bytes, exchangeOf i = some (q.port, bytes) := by
  cases i <;> cases h <;> exact ⟨_, rfl⟩

/-- R155: a frame that is taken has at most 28 bytes of payload. -/
theorem checkFrame_taken_length {bytes payload : List Byte} {code tag : Byte}
    (h : checkFrame bytes = .taken code tag payload) : payload.length ≤ 28 := by
  unfold checkFrame at h
  dsimp only at h
  (repeat' split at h) <;> cases h
  simp only [List.length_take]
  omega

theorem checkFrame_noByte {bytes : List Byte} (h : checkFrame bytes = .noByte) : bytes = [] := by
  unfold checkFrame at h
  dsimp only at h
  (repeat' split at h) <;> first | rfl | cases h

/-- A well-formed command is read back from the bytes of its exchange. -/
theorem commandOfExchange_exchangeOf {i : Instr} {p : Port} {bytes : List Byte} (hw : i.wf = true)
    (he : exchangeOf i = some (p, bytes)) : commandOfExchange p i.cuts bytes = some i := by
  cases hc : codeOf i with
  | some cq =>
    obtain ⟨code, q⟩ := cq
    have hbytes : exchangeOf i = some (q.port, frameBytes code q.tag q.payload) := by
      cases i <;> cases hc <;> rfl
    have hlen : q.payload.length ≤ 28 := by
      cases i <;> cases hc <;> first | exact of_decide_eq_true hw | exact of_decide_eq_true (Bool.and_eq_true_iff.mp hw).1
    cases hbytes.symm.trans he
    rw [commandOfExchange, checkFrame_frameBytes _ _ _ hlen]
    obtain ⟨j, hj, hamid⟩ := Option.map_eq_some_iff.mp (requestOf_of_codeOf hc)
    dsimp only
    rw [hj]
    exact congrArg some hamid
  | none =>
    cases i <;> cases hc <;> cases he
    case none.badFrame.refl.refl =>
      unfold commandOfExchange
      unfold Instr.wf at hw
      dsimp only at hw
      split at hw
      next h => rw [h]
      next h => rw [h, checkFrame_noByte h]
      next => cases hw
    case none.unknownRequest.refl.refl =>
      simp only [Instr.wf, Bool.and_eq_true, decide_eq_true_eq, Option.isNone_iff_eq_none] at hw
      rw [commandOfExchange, checkFrame_frameBytes _ _ _ hw.1]
      dsimp only
      rw [hw.2]

/-- Settles O3: by the three results of the frame check, and the request table. -/
theorem exchangesSpellCommands : Obligations.ExchangesSpellCommands := by
  refine ⟨fun i p bytes hw he => commandOfExchange_exchangeOf hw he, fun p busy bytes hp => ?_⟩
  unfold commandOfExchange
  cases hcheck : checkFrame bytes with
  | noByte => exact ⟨_, rfl, rfl, [], rfl, fun _ => rfl⟩
  | bad tag => exact ⟨_, rfl, by simp [Instr.wf, hcheck], bytes, rfl, id⟩
  | taken code tag payload =>
    have hne : bytes ≠ [] := by
      rintro rfl
      cases hcheck
    have hlen := checkFrame_taken_length hcheck
    dsimp only
    cases hr : requestOf code { port := p, tag := tag, payload := payload } with
    | none => exact ⟨_, rfl, by simp [Instr.wf, hlen, hr], _, rfl, fun h => absurd h hne⟩
    | some i =>
      obtain ⟨hcode, hwf⟩ := requestOf_makes hr busy
      obtain ⟨bytes', hex⟩ := exchangeOf_of_codeOf hcode
      exact ⟨_, rfl, hwf hlen hp, bytes', hex, fun h => absurd h hne⟩

end Sys2Proof

namespace Sys2Proof.Machine

/-! ### Reply slots (R154, R156) -/

/-- R156: the reply to a request that is taken echoes its tag. -/
theorem exec_reply_tag {c : Instr} {code : Byte} {q : Request} {s t : State} (hc : c.isReset = false)
    (h : exec c s = .next t) (hcode : codeOf c = some (code, q)) (ht : s.takes q.port) :
    (t.port q.port).reply.tag = q.tag := by
  rcases Instr.request_cases hcode with rfl | ⟨busy, rfl⟩ | ⟨v, hv, rfl⟩
  · rw [exec_null ht] at h
    obtain rfl := Host.Outcome.next.inj h
    simp [State.reply]
  · cases hc
  · rw [exec_of_service hv] at h
    unfold serve at h
    rw [takeExchange_taken _ _ _ ht.1 ht.2] at h
    obtain rfl := Host.Outcome.next.inj h
    simp

/-- R154: an exchange shifts out the frame of the slot, and then 00H. -/
theorem State.shiftsOut_getElem? {s : State} {p : Port} {n i : Nat} (hi : i < n) :
    (s.shiftsOut p n)[i]? = some ((s.port p).reply.frame.getD i 0) := by
  unfold State.shiftsOut
  generalize (s.port p).reply.frame = frame
  dsimp only
  by_cases h : i < frame.length
  · rw [List.getElem?_append_left (by simp; omega), List.getElem?_take_of_lt hi, List.getD_eq_getElem?_getD,
      List.getElem?_eq_getElem h]
    rfl
  · have hpast : frame.getD i 0 = 0 := by simp [List.getElem?_eq_none (Nat.not_lt.mp h)]
    rw [List.getElem?_append_right (by simp; omega), List.getElem?_replicate, hpast]
    simp
    omega

/-- R155: the bytes of a frame. -/
theorem frameBytes_getD (head tag : Byte) (payload : List Byte) (i : Nat) :
    (frameBytes head tag payload).getD i 0 =
      (if i = 0 then head else if i = 1 then tag else if i = 2 then BitVec.ofNat 8 payload.length
       else if i < 3 + payload.length then payload.getD (i - 3) 0
       else if i = 3 + payload.length then crc8 (head :: tag :: BitVec.ofNat 8 payload.length :: payload)
       else 0) := by
  unfold frameBytes
  dsimp only
  generalize crc8 (head :: tag :: BitVec.ofNat 8 payload.length :: payload) = crc
  match i with
  | 0 => rfl
  | 1 => rfl
  | 2 => rfl
  | k + 3 =>
    have hk : k + 3 - 3 = k := by omega
    simp only [List.cons_append, List.getD_cons_succ, hk]
    rw [if_neg (by omega), if_neg (by omega), if_neg (by omega)]
    split
    next h =>
      rw [List.getD_eq_getElem?_getD, List.getD_eq_getElem?_getD, List.getElem?_append_left (by omega)]
    next h =>
      rw [List.getD_eq_getElem?_getD, List.getElem?_append_right (by omega)]
      split
      next he => simp [show k - payload.length = 0 by omega]
      next he =>
        obtain ⟨d, hd⟩ : ∃ d, k - payload.length = d + 1 := ⟨k - payload.length - 1, by omega⟩
        simp [hd]

/-- Settles O9: only an exchange on a port touches its slot, and what the slot shifts out is its frame. -/
theorem replySlotsBelongToTheirPorts : Obligations.ReplySlotsBelongToTheirPorts :=
  ⟨fun _ _ _ hc h => ⟨exec_replies hc h, fun _ _ hcode ht => exec_reply_tag hc h hcode ht⟩,
    fun s p n _ => ⟨s.shiftsOut_length p n, fun i hi => by
      rw [State.shiftsOut_getElem? hi, Reply.frame, frameBytes_getD]⟩⟩

/-! ### SUBSCRIBE and TAKE NOTICES (R160, R161) -/

theorem numByte_toNat (b : Byte) : numByte b.toNat = [b] := by simp [numByte, be]

theorem exec_subscribe {q : Request} {s : State} {classes mask threshold : Byte} (hq : s.hands q .query 3)
    (hpay : q.payload = [classes, mask, threshold]) : exec (.subscribe q) s = .next (
      if classes.toNat ≤ 63 ∧ mask.toNat ≤ 63 ∧ 1 ≤ threshold.toNat ∧ threshold.toNat ≤ 16 then
        (s.withPort q.port { s.port q.port with
          classes := classes.setWidth 6, inputMask := mask.setWidth 6, threshold := threshold.toNat }).reply q .ok
            [classes, mask, threshold]
      else s.reply q .badField) := by
  have hbytes : byteAt q.payload 0 = classes.toNat ∧ byteAt q.payload 1 = mask.toNat
      ∧ byteAt q.payload 2 = threshold.toNat := by simp [hpay, byteAt]
  obtain ⟨h0, h1, h2⟩ := hbytes
  have narrow {b : Byte} (h : b.toNat ≤ 63) : numByte (BitVec.ofNat 6 b.toNat).toNat = [b] := by
    rw [BitVec.toNat_ofNat, Nat.mod_eq_of_lt (by omega), numByte_toNat]
  change serve .query 3 q (fun s => s.subscribe q) s = _
  split
  next h =>
    refine serve_handed_say hq ?_
    unfold State.subscribe
    dsimp only
    rw [h0, h1, h2, if_neg (by omega)]
    unfold PortRec.routing
    dsimp only
    rw [narrow h.1, narrow h.2.1, numByte_toNat]
    rfl
  next h =>
    refine serve_handed_say hq ?_
    unfold State.subscribe
    dsimp only
    rw [h0, h1, h2, if_pos (by omega)]

/-- R161: the notices left over and held stay in their order, and only a full queue leaves any held. -/
theorem PortRec.afterTake_spec (r : PortRec) : r.afterTake.queue ++ r.afterTake.held = r.queue.drop 2 ++ r.held
    ∧ (r.afterTake.held ≠ [] → 16 ≤ r.afterTake.queue.length) := by
  unfold PortRec.afterTake
  dsimp only
  refine ⟨by simp, fun h => ?_⟩
  have hroom := List.length_pos_iff.mpr h
  simp only [List.length_drop, List.length_append, List.length_take] at hroom ⊢
  omega

/-- Settles O13: the two answers of the port, and what the removal leaves. -/
theorem routingAndTakingNotices : Obligations.RoutingAndTakingNotices := by
  refine ⟨fun q s classes mask threshold hq hpay => exec_subscribe hq hpay, fun q s hq => ?_⟩
  have hport : (s.withPort q.port (s.port q.port).afterTake).port q.port = (s.port q.port).afterTake := by simp
  refine ⟨s.withPort q.port (s.port q.port).afterTake, ?_, ?_⟩
  · change serve .query 0 q (fun s => s.takeNotices q.port) s = _
    refine serve_handed_say hq ?_
    rw [hport]
    simp [State.takeNotices, State.say, numByte, be, flagBytes]
  · rw [hport]
    exact ⟨rfl, rfl, rfl, (s.port q.port).afterTake_spec⟩

end Sys2Proof.Machine
end

-- ==== The requests to the Profile and Settings store, but the lock (R165, R167 to R169) ====
section
namespace Sys2Proof.Machine

theorem byte_eq_iff {b c : Byte} : b = c ↔ b.toNat = c.toNat := BitVec.toNat_inj.symm

/-! ### PROFILE FIELD (R165) -/

theorem fieldRange_eq_none {n : Nat} (h : n < 1 ∨ 38 < n) : fieldRange n = none := by
  have h19 : ¬ (19 ≤ n ∧ n ≤ 27) := by omega
  have h28 : ¬ (28 ≤ n ∧ n ≤ 36) := by omega
  unfold fieldRange
  split
  case h_21 => rw [if_neg h19, if_neg h28]
  all_goals omega

theorem fieldValue_bytes (index : Byte) (v3 v2 v1 v0 : Byte) : fieldValue index.toNat (v3 ++ v2 ++ v1 ++ v0).toNat
    = if 28 ≤ index ∧ index ≤ 36 then (v3 ++ v2 ++ v1 ++ v0).toInt else ((v3 ++ v2 ++ v1 ++ v0).toNat : Int) := by
  unfold fieldValue signed32
  rw [show BitVec.ofNat 32 (v3 ++ v2 ++ v1 ++ v0).toNat = v3 ++ v2 ++ v1 ++ v0 by simp]
  rfl

section
variable {s : State} {index raw : Nat}

theorem State.profileField_locked (h : s.store.configured = true) : s.profileField index raw = s.say .locked := by
  simp [State.profileField, h]

theorem State.profileField_open (h : s.store.configured = false) {lo hi : Int} (hr : fieldRange index = some (lo, hi)) :
    s.profileField index raw = if fieldValue index raw < lo ∨ hi < fieldValue index raw then s.say .badField
      else (s.modStore (fun t => { t with profile := t.profile.set (index - 1) (some (fieldValue index raw)) })).done := by
  simp [State.profileField, h, hr]

theorem State.profileField_unknown (h : s.store.configured = false) (hr : fieldRange index = none) :
    s.profileField index raw = s.say .badField := by
  simp [State.profileField, h, hr]

end

/-- Settles O54: the lock, the index and the range in this order. -/
theorem profileField : Obligations.ProfileField := by
  intro q s index v3 v2 v1 v0 hq hpay
  have answered {u : State} {status : Status} {payload : List Byte}
      (ha : s.profileField index.toNat (v3 ++ v2 ++ v1 ++ v0).toNat = u.say status payload) :
      exec (.profileField q) s = .next (u.reply q status payload) :=
    serve_agentAmount State.profileField hq hpay rfl ha
  refine ⟨fun hlocked => answered (State.profileField_locked hlocked),
    fun hopen hi => answered (State.profileField_unknown hopen (fieldRange_eq_none hi)),
    fun lo hi v hopen hr hv => ⟨fun hout => ?_, fun hlo hhi => ?_⟩⟩
  · refine answered ((State.profileField_open hopen hr).trans ?_)
    rw [fieldValue_bytes, ← hv, if_pos hout]
  · refine answered ((State.profileField_open hopen hr).trans ?_)
    rw [fieldValue_bytes, ← hv, if_neg (by omega)]
    rfl

/-! ### WRITE SETTING (R167) -/

theorem settingRange_eq_none {n : Nat} (h : n < 1 ∨ 18 < n) : settingRange n = none := by
  unfold settingRange
  split <;> first | omega | rfl

theorem State.orderClamp_byte (s : State) (index : Byte) (x : Nat) : s.orderClamp index.toNat x =
    (if index = 3 then min x (s.setting 4)
     else if index = 4 then clampNat (s.setting 3) (s.setting 5) x
     else if index = 5 then max x (s.setting 4)
     else if index = 12 then min x (s.setting 13)
     else if index = 13 then max x (s.setting 12)
     else x) := by
  simp only [byte_eq_iff]
  unfold State.orderClamp
  split <;> simp_all

theorem State.settingEffect_none {s : State} {i : Nat} (h : i ≠ 14 ∧ i ≠ 15 ∧ i ≠ 18) : s.settingEffect i = s := by
  unfold State.settingEffect
  split <;> first | rfl | omega

/-- R158: the ports subscribed to SETTING, but the writer. -/
theorem mem_portsWhere {f : Port → Bool} {p : Port} : p ∈ portsWhere f ↔ f p = true := by
  cases p <;> simp [portsWhere]

theorem State.raiseSettingChanged_port (s : State) (p k : Port) (i v : Nat) : (s.raiseSettingChanged p i v).port k =
    if k ≠ p ∧ (s.port k).classes.getLsbD 5 = true then (s.port k).enter (s.notice .settingChanged i p.number v)
    else s.port k := by
  rw [State.raiseSettingChanged, State.enterFor_port]
  simp only [mem_portsWhere, Bool.and_eq_true, decide_eq_true_eq, and_comm]

/-- Settles O56: the stored value by the two clamps, and the notice where it differs from the one that stood. -/
theorem writeSetting : Obligations.WriteSetting := by
  intro q s index v3 v2 v1 v0 value hq hpay hvalue
  have answered {u : State} {status : Status} {payload : List Byte}
      (ha : s.writeSetting q.port index.toNat value = u.say status payload) :
      exec (.writeSetting q) s = .next (u.reply q status payload) :=
    serve_agentAmount (fun s => s.writeSetting q.port) hq hpay hvalue ha
  refine ⟨fun hi => answered (by rw [State.writeSetting, settingRange_eq_none hi]), fun lo hi v hr hv => ?_⟩
  have hstored : s.storedSetting index.toNat value (lo, hi) = v := by
    rw [hv, State.storedSetting, State.orderClamp_byte]
  let stored := s.withStore { s.store with settings := s.store.settings.set (index.toNat - 1) v }
  let told := if v = s.setting index.toNat then stored else stored.raiseSettingChanged q.port index.toNat v
  have htold : told = stored.withPorts told.ports ∧ ∀ p, told.port p =
      if v ≠ s.setting index.toNat ∧ p ≠ q.port ∧ (s.port p).classes.getLsbD 5 = true then
        (s.port p).enter (s.notice .settingChanged index.toNat q.port.number v)
      else s.port p := by
    by_cases hsame : v = s.setting index.toNat
    · rw [show told = stored from if_pos hsame]
      exact ⟨rfl, fun p => (if_neg fun h => h.1 hsame).symm⟩
    · rw [show told = stored.raiseSettingChanged q.port index.toNat v from if_neg hsame]
      refine ⟨rfl, fun p => ?_⟩
      rw [State.raiseSettingChanged_port]
      simp only [ne_eq, hsame, not_false_eq_true, true_and]
      rfl
  refine ⟨told.settingEffect index.toNat, answered ?_, ?_, fun h18 => ?_, fun hplain => ?_⟩
  · rw [State.writeSetting, hr]
    dsimp only
    rw [State.storeSetting, hstored]
    rfl
  · rw [State.settingEffect_surroundings]
    have hold : stored.surroundings = { s.surroundings with settings := s.store.settings.set (index.toNat - 1) v } := rfl
    rw [← hold]
    change State.surroundings (ite _ _ _) = _
    split
    · rfl
    · exact State.raiseSettingChanged_surroundings _ _ _
  · subst h18
    exact State.evaluate_settled _
  · have hne : index.toNat ≠ 14 ∧ index.toNat ≠ 15 ∧ index.toNat ≠ 18 := by
      simp only [List.mem_cons, List.not_mem_nil, or_false, not_or, byte_eq_iff] at hplain
      exact hplain
    rw [State.settingEffect_none hne]
    refine ⟨htold.1, fun p => (htold.2 p).trans ?_⟩
    simp [State.notice, State.now]

end Sys2Proof.Machine
end

-- ==== LOAD ACCOUNTS (R168) ====
section
namespace Sys2Proof.Machine

/-! ### What a load leaves -/

/-- R168 and R112: the resin account after a load. -/
def State.resinLoaded (s : State) : Option Nat → Softener
  | none => s.softener
  | some value =>
    { s.softener with
      valid := true, remaining := min s.cFull value - s.softener.tally, tally := 0,
      pendingFlag := decide ((min s.cFull value - s.softener.tally) * 10000 / s.cFull < s.regenThreshold) }

/-- R168 and R125: a stock account after a load, no stroke of its agent being in ON. -/
def State.stockLoaded (s : State) (a : Agent) : Option Nat → StockAccount
  | none => s.account a
  | some value => s.leveled a
      { s.account a with
        valid := true, tally := 0, held := none, stock := min (s.capacity a) value - (s.account a).tally }

theorem State.loadResin_spec (s : State) (r : Option Nat) :
    ∃ ports, s.loadResin r = (s.withSoftener (s.resinLoaded r)).withPorts ports := by
  cases r with
  | none => exact ⟨s.ports, rfl⟩
  | some value =>
    let loaded := s.modSoftener (fun f => { f with valid := true, remaining := s.loadedResin value, tally := 0 })
    have htarget : s.resinLoaded (some value)
        = { loaded.softener with pendingFlag := decide (loaded.resinBp < loaded.regenThreshold) } := rfl
    change ∃ ports, loaded.pendingAtLoad = _
    rw [htarget]
    unfold State.pendingAtLoad
    split
    next h =>
      rw [decide_eq_false (Nat.not_lt.mpr h)]
      exact ⟨s.ports, rfl⟩
    next h =>
      rw [decide_eq_true (Nat.lt_of_not_le h)]
      split
      next hset =>
        rw [← hset]
        exact ⟨s.ports, rfl⟩
      next =>
        exact ⟨(State.raiseRegenPending (loaded.withSoftener { loaded.softener with pendingFlag := true })).ports, rfl⟩

theorem State.loadStock_spec {s : State} {a : Agent} (hoff : s.strokeOn a = false) (r : Option Nat) :
    s.loadStock a r = (s.withAccount a (s.stockLoaded a r)).withPorts (s.loadStock a r).ports := by
  cases r with
  | none => cases a <;> rfl
  | some value =>
    have hload : s.loadStock a (some value) = s.declareStock a (s.loadedStock a value (s.account a).tally) := by
      simp [State.loadStock, hoff]
    rw [hload]
    exact (State.declareStock_takesAccount _).1

/-! ### The reply -/

theorem State.replyTally_off {s : State} {a : Agent} (hoff : s.strokeOn a = false) : s.replyTally a = (s.account a).tally := by
  simp [State.replyTally, hoff]

theorem State.replyStock_off {s : State} {a : Agent} (hoff : s.strokeOn a = false) (r : Option Nat) :
    s.replyStock a r = (s.stockLoaded a r).stock := by
  cases r with
  | none => rfl
  | some value => simp [State.replyStock, State.stockLoaded, State.loadedStock, State.replyTally_off hoff, State.leveled]

theorem State.replyResin_eq (s : State) (r : Option Nat) : s.replyResin r = (s.resinLoaded r).remaining := by
  cases r <;> rfl

theorem loadClamped_named (named : Bool) (limit tally value : Nat) :
    loadClamped limit tally (if named then some value else none)
      = (named && decide (limit < value ∨ min limit value < tally)) := by
  cases named <;> simp [loadClamped]

/-- R168: the whole load, no stroke being in ON: the three accounts and notices, and the reply. -/
theorem State.loadAll_spec {s : State} (hoff : ∀ a, s.strokeOn a = false) (r : LoadRequest) :
    ∃ ports, s.loadAll r = ((((s.withSoftener (s.resinLoaded r.resin)).withAccount .detergent
      (s.stockLoaded .detergent r.detergent)).withAccount .rinse (s.stockLoaded .rinse r.rinse)).withPorts ports).say
        (if loadClamped s.cFull s.softener.tally r.resin
            || loadClamped (s.capacity .detergent) (s.account .detergent).tally r.detergent
            || loadClamped (s.capacity .rinse) (s.account .rinse).tally r.rinse then .clamped else .ok)
        (be 4 (s.resinLoaded r.resin).remaining ++ be 4 (s.stockLoaded .detergent r.detergent).stock
          ++ be 4 (s.stockLoaded .rinse r.rinse).stock) := by
  unfold State.loadAll
  rw [State.replyResin_eq, State.replyStock_off (hoff _), State.replyStock_off (hoff _),
    State.replyTally_off (hoff _), State.replyTally_off (hoff _)]
  dsimp only
  obtain ⟨ports, hresin⟩ := s.loadResin_spec r.resin
  rw [hresin]
  let s1 := (s.withSoftener (s.resinLoaded r.resin)).withPorts ports
  have h1 : s1.strokeOn .detergent = false := hoff .detergent
  rw [State.loadStock_spec (s := s1) h1]
  generalize (s1.loadStock .detergent r.detergent).ports = ports
  let s2 := (s1.withAccount .detergent (s1.stockLoaded .detergent r.detergent)).withPorts ports
  have h2 : s2.strokeOn .rinse = false := hoff .rinse
  have hrinse : s2.stockLoaded .rinse r.rinse = s.stockLoaded .rinse r.rinse := by cases r.rinse <;> rfl
  have hdetergent : s1.stockLoaded .detergent r.detergent = s.stockLoaded .detergent r.detergent := by
    cases r.detergent <;> rfl
  rw [State.loadStock_spec (s := s2) h2, hrinse]
  exact ⟨_, by rw [← hdetergent]; rfl⟩

/-! ### The answer -/

section
variable {s : State} {flags r3 r2 r1 r0 d3 d2 d1 d0 n3 n2 n1 n0 : Byte} {payload : List Byte}

/-- R168: the values that the payload's flags name. -/
theorem loadRequest_payload (hpay : payload = [flags, r3, r2, r1, r0, d3, d2, d1, d0, n3, n2, n1, n0]) :
    byteAt payload 0 = flags.toNat ∧ loadRequest payload =
      { resin := if flags.getLsbD 0 then some (r3 ++ r2 ++ r1 ++ r0).toNat else none,
        detergent := if flags.getLsbD 1 then some (d3 ++ d2 ++ d1 ++ d0).toNat else none,
        rinse := if flags.getLsbD 2 then some (n3 ++ n2 ++ n1 ++ n0).toNat else none } := by
  subst hpay
  refine ⟨rfl, ?_⟩
  rw [← beValue_four, ← beValue_four, ← beValue_four]
  rfl

theorem State.loadAccounts_badFlags (h : 7 < byteAt payload 0) : s.loadAccounts payload = s.say .badField := by
  simp [State.loadAccounts, h]

theorem State.loadAccounts_notReady (h : byteAt payload 0 ≤ 7) (hopen : s.store.configured = false) :
    s.loadAccounts payload = s.say .notReady := by
  simp [State.loadAccounts, Nat.not_lt.mpr h, hopen]

theorem State.loadAccounts_none (h : byteAt payload 0 = 0) (hlocked : s.store.configured = true) :
    s.loadAccounts payload = s.say .badField := by
  simp [State.loadAccounts, h, hlocked]

theorem State.loadAccounts_named (h : byteAt payload 0 ≤ 7) (hlocked : s.store.configured = true)
    (hsome : byteAt payload 0 ≠ 0) : s.loadAccounts payload = match s.alreadyLoaded (loadRequest payload) with
      | some n => s.say .wrongState (numByte n)
      | none => s.loadAll (loadRequest payload) := by
  simp [State.loadAccounts, Nat.not_lt.mpr h, hlocked, hsome] <;> rfl

end

theorem isSome_named {α : Type} (named : Bool) (v : α) : (if named then some v else none).isSome = named := by
  cases named <;> rfl

/-- Settles O57: the refusals in their order, and the three accounts with their reply. -/
theorem loadAccounts : Obligations.LoadAccounts := by
  intro q s flags r3 r2 r1 r0 d3 d2 d1 d0 n3 n2 n1 n0 hq hpay
  obtain ⟨hflags, hreq⟩ := loadRequest_payload hpay
  have hle {n : Nat} (hn : n < 256) : flags ≤ BitVec.ofNat 8 n ↔ byteAt q.payload 0 ≤ n := by
    rw [hflags, BitVec.le_def, BitVec.toNat_ofNat, Nat.mod_eq_of_lt hn]
  have hzero : flags = 0 ↔ byteAt q.payload 0 = 0 := by rw [hflags, byte_eq_iff]; rfl
  have answered {u : State} {status : Status} {payload : List Byte}
      (ha : s.loadAccounts q.payload = u.say status payload) :
      exec (.loadAccounts q) s = .next (u.reply q status payload) := serve_handed_say hq ha
  have refused {n : Nat} (h : flags ≤ 7) (hlocked : s.store.configured = true) (hsome : flags ≠ 0)
      (hloaded : s.alreadyLoaded (loadRequest q.payload) = some n) :
      exec (.loadAccounts q) s = .next (s.reply q .wrongState (numByte n)) :=
    answered (by rw [State.loadAccounts_named ((hle (by decide)).mp h) hlocked (fun hno => hsome (hzero.mpr hno)), hloaded])
  have named {i : Nat} (h : flags.getLsbD i = true) : flags ≠ 0 := by
    rintro rfl
    simp at h
  refine ⟨fun h => answered (State.loadAccounts_badFlags ?_), fun h hopen =>
    answered (State.loadAccounts_notReady ((hle (by decide)).mp h) hopen), fun h hlocked =>
    answered (State.loadAccounts_none (hzero.mp h) hlocked), fun h hlocked => ⟨?_, ?_, ?_⟩,
    fun hsome h hlocked hr hd hn hoff => ?_⟩
  · exact Nat.lt_of_not_le fun hn => absurd ((hle (n := 7) (by decide)).mpr hn) (BitVec.not_le.mpr h)
  · rintro ⟨hset, hvalid⟩
    exact refused h hlocked (named hset) (by simp [State.alreadyLoaded, hreq, hset, hvalid])
  · rintro hfirst ⟨hset, hvalid⟩
    refine refused h hlocked (named hset) ?_
    simp only [State.alreadyLoaded, hreq, isSome_named, hfirst, hset, hvalid]
    rfl
  · rintro hfirst hsecond ⟨hset, hvalid⟩
    refine refused h hlocked (named hset) ?_
    simp only [State.alreadyLoaded, hreq, isSome_named, hfirst, hsecond, hset, hvalid]
    rfl
  · have hfree : s.alreadyLoaded (loadRequest q.payload) = none := by
      simp only [State.alreadyLoaded, hreq, isSome_named, hr, hd, hn]
      rfl
    have hstroke (a : Agent) : s.strokeOn a = false := by
      rw [← Bool.not_eq_true, State.strokeOn_iff]
      rintro ⟨r, hrec, -, hon⟩
      exact hoff r hrec hon
    have hanswer := State.loadAccounts_named ((hle (by decide)).mp h) hlocked (fun hno => hsome (hzero.mpr hno))
    rw [hfree] at hanswer
    obtain ⟨ports, hload⟩ := State.loadAll_spec hstroke (loadRequest q.payload)
    rw [hload] at hanswer
    have hsurr := State.loadAccounts_surroundings (s := s) q.payload
    rw [hanswer] at hsurr
    refine ⟨_, answered (hanswer.trans ?_), hsurr, rfl, rfl, rfl, ?_, ?_, ?_⟩
    · rw [hreq]
      simp only [loadClamped_named]
      rfl
    · rw [hreq]
      dsimp only
      cases flags.getLsbD 0 <;> rfl
    · rw [hreq]
      dsimp only
      cases flags.getLsbD 1 <;> rfl
    · rw [hreq]
      dsimp only
      cases flags.getLsbD 2 <;> rfl

end Sys2Proof.Machine
end

-- ==== The READ requests (R87, R173) ====
section
namespace Sys2Proof.Machine

theorem State.sayPage_reply (s : State) (page : Byte) (stream : List Byte) : ∃ status payload,
    s.sayPage page.toNat stream = s.say status payload ∧ ∀ q, s.replyPage q page stream = s.reply q status payload := by
  unfold State.sayPage State.replyPage
  dsimp only
  split
  next h => exact ⟨_, _, rfl, fun q => by rw [if_neg (Nat.not_le.mpr h)]; rfl⟩
  next h =>
    refine ⟨_, _, rfl, fun q => ?_⟩
    rw [if_pos (Nat.not_lt.mp h), numByte_toNat]
    rfl

/-- R173: a READ whose payload is the page. -/
theorem exec_page {c : Instr} {q : Request} {page : Byte} {stream : State → List Byte} {s : State}
    (hc : c.service = some (.page q stream)) (hq : s.hands q .query 1) (hpay : q.payload = [page]) :
    exec c s = .next (s.replyPage q page (stream s)) := by
  obtain ⟨status, payload, hsay, hreply⟩ := s.sayPage_reply page (stream s)
  rw [exec_of_service hc, hreply]
  refine serve_handed_say hq ?_
  change s.sayPage (byteAt q.payload 0) (stream s) = _
  rw [hpay]
  exact hsay

/-! ### The lengths of records (R173) -/

@[simp] theorem numByte_length (n : Nat) : (numByte n).length = 1 := rfl
@[simp] theorem flagBytes_length (b : Bool) : (flagBytes b).length = 1 := rfl
@[simp] theorem optTime_length (t : Option Word) : (optTime t).length = 5 := by cases t <;> simp [optTime, optField]
@[simp] theorem wordBytes_length (w : Word) : (wordBytes w).length = 4 := be_length 4 _
@[simp] theorem Work.parameters_length (w : Work) : w.parameters.length = 4 := by cases w <;> simp [Work.parameters]
@[simp] theorem slotBytes_length (x : Option ActionEntry) : (slotBytes x).length = 7 := by
  cases x <;> simp [slotBytes, ActionEntry.bytes]

/-- Table 12-5: a step record has 25 bytes. -/
theorem StepRec.bytes_length (t : StepRec) (l : Lane) : (t.bytes l).length = 25 := by
  simp [StepRec.bytes]

/-- R63: the content stream of the Action Table has 121 bytes. -/
theorem State.streamActions_length {s : State} (h : s.actions.length = 16) : s.streamActions.length = 121 := by
  simp [State.streamActions, List.length_flatMap, List.map_const', List.sum_replicate_nat, h]

/-! ### READ LANE and READ STEP (R87) -/

section
variable {q : Request} {s : State} {lane : Byte}

theorem withNamedLane_of_some {h : Lane → State → Answer} {l : Lane} (hl : laneOf (byteAt q.payload 0) = some l) :
    withNamedLane q h s = h l s := by rw [withNamedLane, hl]

theorem withNamedLane_of_none {h : Lane → State → Answer} (hl : laneOf (byteAt q.payload 0) = none) :
    withNamedLane q h s = s.say .badField := by rw [withNamedLane, hl]

theorem exec_readLane {page : Byte} {l : Lane} (hq : s.hands q .query 2) (hpay : q.payload = [lane, page])
    (hl : laneOf lane.toNat = some l) : exec (.readLane q) s = .next (s.replyPage q page (s.streamLane l)) := by
  obtain ⟨status, payload, hsay, hreply⟩ := s.sayPage_reply page (s.streamLane l)
  rw [hreply]
  refine serve_handed_say hq ((withNamedLane_of_some (l := l) (by rw [hpay]; exact hl)).trans ?_)
  rw [hpay]
  exact hsay

theorem exec_readLane_unknown {page : Byte} (hq : s.hands q .query 2) (hpay : q.payload = [lane, page])
    (hl : 1 < lane) : exec (.readLane q) s = .next (s.reply q .badField) :=
  serve_handed_say hq (withNamedLane_of_none (by rw [hpay]; exact laneOf_eq_none hl))

theorem exec_readStep {i1 i0 : Byte} {l : Lane} {status : Status} {payload : List Byte} (hq : s.hands q .query 3)
    (hpay : q.payload = [lane, i1, i0]) (hl : laneOf lane.toNat = some l)
    (hstep : s.readStep (i1 ++ i0).toNat l = s.say status payload) :
    exec (.readStep q) s = .next (s.reply q status payload) := by
  refine serve_handed_say hq ((withNamedLane_of_some (l := l) (by rw [hpay]; exact hl)).trans ?_)
  have hid : fieldAt q.payload 1 2 = (i1 ++ i0).toNat := by
    rw [hpay, toNat_append_byte]
    simp [fieldAt, beValue]
  rw [hid]
  exact hstep

end

theorem State.readStep_notFound {s : State} {l : Lane} {id : Nat} (h : ∀ x ∈ (s.lane l).queue, x.id ≠ id) :
    s.readStep id l = s.say .notFound := by
  have hnone : (s.lane l).queue.find? (fun t => decide (t.id = id)) = none := by simpa using h
  rw [State.readStep, hnone]

theorem State.readStep_found {s : State} {l : Lane} {id : Nat} {before rest : List StepRec} {x : StepRec}
    (hq : (s.lane l).queue = before ++ x :: rest) (hbefore : ∀ y ∈ before, y.id ≠ id) (hx : x.id = id) :
    s.readStep id l = s.say .ok (x.bytes l) := by
  have hnone : before.find? (fun t => decide (t.id = id)) = none := by simpa using hbefore
  have hsome : (s.lane l).queue.find? (fun t => decide (t.id = id)) = some x := by
    rw [hq, List.find?_append, hnone, List.find?_cons_of_pos (by simpa using hx)]
    rfl
  rw [State.readStep, hsome]

/-- Settles O59: every READ of a page in its one form, and the two READs that name a lane. -/
theorem readsAnswerWithPages : Obligations.ReadsAnswerWithPages := by
  refine ⟨fun q page s hq hpay => ⟨exec_page rfl hq hpay, exec_page rfl hq hpay, exec_page rfl hq hpay, exec_page rfl hq hpay,
      exec_page rfl hq hpay, exec_page rfl hq hpay, exec_page rfl hq hpay, exec_page rfl hq hpay, exec_page rfl hq hpay,
      exec_page rfl hq hpay, exec_page rfl hq hpay, exec_page (stream := fun s => s.streamPort q.port) rfl hq hpay⟩,
    fun q lane page s hq hpay => ⟨fun l hl => exec_readLane hq hpay hl, exec_readLane_unknown hq hpay⟩,
    fun q lane i1 i0 l s hq hpay hl => ⟨fun hnone => exec_readStep hq hpay hl (State.readStep_notFound hnone),
      fun before x rest hqueue hbefore hx =>
        ⟨exec_readStep hq hpay hl (State.readStep_found hqueue hbefore hx), StepRec.bytes_length _ _⟩⟩,
    fun s h => State.streamActions_length h⟩

end Sys2Proof.Machine
end

-- ==== What an evaluation changes: no more than its output events do (R34, R39) ====
section
namespace Sys2Proof.Machine

/-! ### The settling of the outputs -/

theorem State.settleOutputs_keeps {α : Type} (f : State → α) (hs : ∀ u o, f (State.settleOutput u o) = f u) (s : State) :
    f s.settleOutputs = f s := by
  unfold State.settleOutputs
  generalize Output.evalOrder = os
  induction os generalizing s with
  | nil => rfl
  | cons o os ih => rw [List.foldl_cons, ih, hs]

/-- The outputs that an evaluation changes, which give an event each (R39). -/
def State.changes (s : State) (o : Output) : Prop := s.energised o ≠ s.settleOutputs.energised o

/-- The output events of an evaluation, in its order. -/
def State.giveEvents (s t : State) (os : List Output) (u : State) : State :=
  os.foldl (fun u o => if s.energised o = t.energised o then u else u.outputEvent o (t.energised o)) u

theorem State.evaluate_eq (s : State) : s.evaluate = s.giveEvents s.settleOutputs Output.evalOrder s.settleOutputs := rfl

theorem State.giveEvents_keeps {α : Type} (f : State → α) {s t : State} {os : List Output}
    (he : ∀ u, ∀ o ∈ os, s.energised o ≠ t.energised o → f (u.outputEvent o (t.energised o)) = f u) (u : State) :
    f (s.giveEvents t os u) = f u := by
  unfold State.giveEvents
  induction os generalizing u with
  | nil => rfl
  | cons o os ih =>
    rw [List.foldl_cons, ih fun u k hk => he u k (List.mem_cons_of_mem _ hk)]
    split
    · rfl
    next h => exact he u o List.mem_cons_self h

/-- R39: what no settling and no event of a changing output touches, the evaluation keeps. -/
theorem State.evaluate_keeps_unless {α : Type} (f : State → α) {s : State} (hs : ∀ u o, f (State.settleOutput u o) = f u)
    (he : ∀ u o, s.changes o → f (u.outputEvent o (s.settleOutputs.energised o)) = f u) : f s.evaluate = f s := by
  rw [State.evaluate_eq, State.giveEvents_keeps f fun u o _ hne => he u o hne, State.settleOutputs_keeps f hs]

/-- R34: settled outputs stay as they are. -/
theorem State.settleOutputs_of_settled {s : State} (h : s.settled = true) : s.settleOutputs = s := by
  have hstay (o : Output) : s.settleOutput o = s := by
    rw [State.settleOutput, ← State.settled_iff.mp h o]
    cases o <;> rfl
  unfold State.settleOutputs
  generalize Output.evalOrder = os
  induction os with
  | nil => rfl
  | cons o os ih => rw [List.foldl_cons, hstay, ih]

/-- R34: an evaluation of settled outputs changes nothing. -/
theorem State.evaluate_of_settled {s : State} (h : s.settled = true) : s.evaluate = s := by
  rw [State.evaluate_eq, State.settleOutputs_of_settled h]
  exact State.giveEvents_keeps id (fun _ _ _ hne => absurd rfl hne) s

theorem State.evaluate_energised (s : State) (o : Output) : s.evaluate.energised o = s.settleOutputs.energised o := by
  have hcore := congrArg Prod.fst s.evaluate_guardCore
  exact congrArg (fun outs : PerOutput OutputRec => (outs.get o).energised) hcore

theorem State.settleOutputs_outDemands (s : State) (o : Output) : (s.settleOutputs.out o).demands = (s.out o).demands :=
  State.settleOutputs_keeps (fun u => (u.out o).demands) (fun u k => State.settleOutput_demands u k o) s

/-! ### What settled outputs are, by their demands and the surroundings -/

/-- R38: the relay. -/
theorem State.relay_of_settled {s : State} (h : s.settled = true) :
    s.energised .mainsRelay = (s.supplyReady && s.store.configured && !s.guard.latched) :=
  State.settled_iff.mp h .mainsRelay

/-- R36: the terms of INLET that no demand touches. -/
def State.inletTerms (s : State) : Bool :=
  s.supplyReady && s.store.configured && !s.guard.latched && s.doorClosed && s.floatClear && !s.guard.flood

theorem State.inlet_of_settled {s : State} (h : s.settled = true) :
    s.energised .inlet = ((s.out .inlet).demands.any && s.inletTerms) := by
  rw [State.settled_iff.mp h .inlet]
  change ((s.out .inlet).demands.any && (s.energised .mainsRelay && s.doorClosed && s.floatClear && !s.guard.flood)) = _
  rw [State.relay_of_settled h]
  rfl

theorem State.inletTerms_congr {s t : State} (h : t.surroundings = s.surroundings) : t.inletTerms = s.inletTerms := by
  have hinputs : t.inputs = s.inputs := congrArg Surroundings.inputs h
  have hsupply : t.time.supply = s.time.supply := congrArg Surroundings.supply h
  have hlocked : t.store.configured = s.store.configured := congrArg Surroundings.configured h
  have hlatched : t.guard.latched = s.guard.latched := congrArg Surroundings.latched h
  have hflood : t.guard.flood = s.guard.flood := congrArg Surroundings.flood h
  simp [State.inletTerms, State.supplyReady, State.doorClosed, State.floatClear, State.reads, State.accepted, hinputs, hsupply,
    hlocked, hlatched, hflood]

/-- R36: INLET does not change where its demands did not, in surroundings in which it was settled. -/
theorem State.not_changes_inlet {s u : State} (h : s.settled = true) (hs : u.surroundings = s.surroundings)
    (hd : (u.out .inlet).demands = (s.out .inlet).demands) (he : u.energised .inlet = s.energised .inlet) :
    ¬ u.changes .inlet := by
  rw [State.changes, Classical.not_not, he, State.inlet_of_settled h, State.inlet_of_settled u.settleOutputs_settled,
    State.settleOutputs_outDemands, hd, State.inletTerms_congr (u.settleOutputs_surroundings.trans hs)]

/-! ### The state apart from the Step Engine and the ports -/

/-- The state with its Step Engine and its ports blanked: what an end of a step leaves alone. -/
def State.apart (s : State) : State := (s.withEngine Engine.reset).withPorts (PortRec.resetAll [])

@[simp] theorem State.withEngine_apart (s : State) (v : Engine) : (s.withEngine v).apart = s.apart := rfl
@[simp] theorem State.withPorts_apart (s : State) (v : PerPort PortRec) : (s.withPorts v).apart = s.apart := rfl
@[simp] theorem State.modLane_apart (s : State) (l : Lane) (f : LaneRec → LaneRec) : (s.modLane l f).apart = s.apart := rfl
@[simp] theorem State.modHead_apart (s : State) (l : Lane) (f : StepRec → StepRec) : (s.modHead l f).apart = s.apart := rfl
@[simp] theorem State.enterFor_apart (s : State) (set : List Port) (n : Notice) : (s.enterFor set n).apart = s.apart := rfl
@[simp] theorem State.raiseByClass_apart (s : State) (n : Notice) : (s.raiseByClass n).apart = s.apart := rfl
@[simp] theorem State.raiseStep_apart (s : State) (l : Lane) (n : Notice) : (s.raiseStep l n).apart = s.apart := by
  unfold State.raiseStep; split <;> rfl
@[simp] theorem State.raiseHalted_apart (s : State) (l : Lane) (n : Notice) : (s.raiseHalted l n).apart = s.apart := rfl
@[simp] theorem State.releaseLane_apart (s : State) (l : Lane) : (s.releaseLane l).apart = s.apart := by
  unfold State.releaseLane; split <;> rfl
@[simp] theorem State.releaseExclusion_apart (s : State) : s.releaseExclusion.apart = s.apart := by
  simp [State.releaseExclusion]
@[simp] theorem State.setRefFrom_apart (s : State) (t : StepRec) : (s.setRefFrom t).apart = s.apart := by
  unfold State.setRefFrom; split <;> rfl

section
variable {s t : State} (h : t.apart = s.apart)
include h

theorem State.time_of_apart : t.time = s.time := (congrArg State.time h :)
theorem State.guard_of_apart : t.guard = s.guard := (congrArg State.guard h :)
theorem State.softener_of_apart : t.softener = s.softener := (congrArg State.softener h :)
theorem State.dosing_of_apart : t.dosing = s.dosing := (congrArg State.dosing h :)
theorem State.door_of_apart : t.door = s.door := (congrArg State.door h :)

end

theorem State.dropDose_apart_congr {s t : State} (l : Lane) (h : t.apart = s.apart) :
    (t.dropDose l).apart = (s.dropDose l).apart := by
  cases l
  · exact h
  · exact congrArg (fun u : State => u.withDose none) h

@[simp] theorem State.failForGood_apart (s : State) (l : Lane) (r : StepResult) : (s.failForGood l r).apart = s.apart := by
  unfold State.failForGood
  split <;> simp

@[simp] theorem State.concludeCounted_apart (s : State) (l : Lane) (r : StepResult) :
    (s.concludeCounted l r).apart = s.apart := by
  unfold State.concludeCounted
  dsimp only
  (repeat' split) <;> simp

/-- R77 and R126: a success changes of the rest of the part only that the dose record of a DOSE is dropped. -/
theorem State.concludeSuccess_apart {s : State} {l : Lane} {flags : ResultFlags} (h : s.head l ≠ none ∨ l = .water) :
    (s.concludeSuccess l flags).apart = (s.dropDose l).apart := by
  unfold State.concludeSuccess
  split
  next hnone =>
    rcases h with h | rfl
    · exact absurd hnone h
    · rfl
  next t _ =>
    dsimp only
    split <;> simp only [State.releaseExclusion_apart, State.raiseStep_apart] <;>
      exact State.dropDose_apart_congr l (by simp)

theorem State.concludeSuccess_water_apart (s : State) (flags : ResultFlags) :
    (s.concludeSuccess .water flags).apart = s.apart := State.concludeSuccess_apart (.inr rfl)

/-! ### What only some outputs' events touch -/

/-- The state apart from the Step Engine, the ports and the Door Unit. -/
def State.bulk (s : State) : State := s.apart.withDoor DoorUnit.reset

theorem State.bulk_of_apart {s t : State} (h : t.apart = s.apart) : t.bulk = s.bulk :=
  congrArg (fun u : State => u.withDoor DoorUnit.reset) h

section
variable {s t : State} (h : t.bulk = s.bulk)
include h

theorem State.time_of_bulk : t.time = s.time := (congrArg State.time h :)
theorem State.softener_of_bulk : t.softener = s.softener := (congrArg State.softener h :)
theorem State.dosing_of_bulk : t.dosing = s.dosing := (congrArg State.dosing h :)
theorem State.store_of_bulk : t.store = s.store := (congrArg State.store h :)

end

@[simp] theorem State.withDoor_bulk (s : State) (v : DoorUnit) : (s.withDoor v).bulk = s.bulk := rfl
@[simp] theorem State.modDoor_bulk (s : State) (f : DoorUnit → DoorUnit) : (s.modDoor f).bulk = s.bulk := rfl
@[simp] theorem State.modLane_bulk (s : State) (l : Lane) (f : LaneRec → LaneRec) : (s.modLane l f).bulk = s.bulk := rfl
@[simp] theorem State.beginExtend_bulk (s : State) : s.beginExtend.bulk = s.bulk := by
  unfold State.beginExtend; dsimp only; split <;> rfl
@[simp] theorem State.rodHandOver_bulk (s : State) : s.rodHandOver.bulk = s.bulk := by
  unfold State.rodHandOver; dsimp only; split <;> simp
@[simp] theorem State.extendGuard_bulk (s : State) : s.extendGuard.bulk = s.bulk := by
  unfold State.extendGuard; split <;> rfl

/-- R107: the event of HEATER concerns the Step Engine, the ports and the Door Unit alone. -/
@[simp] theorem State.autoOpenHeater_bulk (s : State) : s.autoOpenHeater.bulk = s.bulk := by
  unfold State.autoOpenHeater
  (repeat' split)
  · rfl
  · rfl
  · exact State.bulk_of_apart ((State.concludeSuccess_water_apart _ _).trans rfl)
  · exact State.bulk_of_apart (State.concludeCounted_apart _ _ _)
  · exact State.bulk_of_apart (State.failForGood_apart _ _ _)
  · simp
  · rfl

@[simp] theorem State.heaterEvent_bulk (s : State) (on : Bool) : (s.heaterEvent on).bulk = s.bulk := by
  unfold State.heaterEvent; dsimp only; split <;> simp

theorem State.pumpEvent_keeps {s : State} (a : Agent) (on : Bool) : ∃ r, s.pumpEvent a on = s.withDose r := by
  unfold State.pumpEvent State.modDose
  split
  next h => exact ⟨none, by rw [← h]; rfl⟩
  · exact ⟨_, rfl⟩

@[simp] theorem State.checkOutput_withGuard (s : State) (o : Checked) (on : Bool) :
    ∃ g, s.checkOutput o on = s.withGuard g := ⟨_, rfl⟩

/-- R39: only the event of INLET touches the Time Base, the Softener and the store. -/
theorem State.outputEvent_waterless (s : State) {o : Output} (h : o ≠ .inlet) (on : Bool) :
    (s.outputEvent o on).time = s.time ∧ (s.outputEvent o on).softener = s.softener
      ∧ (s.outputEvent o on).store = s.store := by
  cases o
  case inlet => exact absurd rfl h
  case heater =>
    have hb := (s.checkOutput .heater on).heaterEvent_bulk on
    exact ⟨(State.time_of_bulk hb :), (State.softener_of_bulk hb :), (State.store_of_bulk hb :)⟩
  case doseD => obtain ⟨r, hr⟩ := s.pumpEvent_keeps .detergent on; rw [State.outputEvent, hr]; exact ⟨rfl, rfl, rfl⟩
  case doseR => obtain ⟨r, hr⟩ := s.pumpEvent_keeps .rinse on; rw [State.outputEvent, hr]; exact ⟨rfl, rfl, rfl⟩
  all_goals exact ⟨rfl, rfl, rfl⟩

/-- R34: an evaluation that does not change INLET leaves the Time Base, the Softener and the store alone. -/
theorem State.evaluate_waterless {s : State} (h : ¬ s.changes .inlet) :
    s.evaluate.time = s.time ∧ s.evaluate.softener = s.softener ∧ s.evaluate.store = s.store := by
  have hne {o : Output} (ho : s.changes o) : o ≠ .inlet := fun e => h (e ▸ ho)
  exact ⟨State.evaluate_keeps_unless State.time (fun _ _ => rfl) fun u o ho => (u.outputEvent_waterless (hne ho) _).1,
    State.evaluate_keeps_unless State.softener (fun _ _ => rfl) fun u o ho => (u.outputEvent_waterless (hne ho) _).2.1,
    State.evaluate_keeps_unless State.store (fun _ _ => rfl) fun u o ho => (u.outputEvent_waterless (hne ho) _).2.2⟩

@[simp] theorem State.inletClosing_dosing (s : State) : s.inletClosing.dosing = s.dosing := by
  unfold State.inletClosing State.softenerClosing State.debit State.pendingTest State.cycleWater State.cycleEvent State.strayClosing
  dsimp only
  (repeat' split) <;> rfl

@[simp] theorem State.inletClosing_door (s : State) : s.inletClosing.door = s.door := by
  unfold State.inletClosing State.softenerClosing State.debit State.pendingTest State.cycleWater State.cycleEvent State.strayClosing
  dsimp only
  (repeat' split) <;> rfl

@[simp] theorem State.inletOpening_dosing (s : State) : s.inletOpening.dosing = s.dosing := by
  unfold State.inletOpening State.startNoFlow
  dsimp only
  (repeat' split) <;> rfl

@[simp] theorem State.inletOpening_door (s : State) : s.inletOpening.door = s.door := by
  unfold State.inletOpening State.startNoFlow
  dsimp only
  (repeat' split) <;> rfl

@[simp] theorem State.modDose_door (s : State) (f : DoseRec → DoseRec) : (s.modDose f).door = s.door := by
  unfold State.modDose; split <;> rfl

/-- R39: only the events of the pumps touch the Dosing Unit. -/
theorem State.outputEvent_dosing (s : State) {o : Output} (h : ∀ a : Agent, o ≠ a.pump) (on : Bool) :
    (s.outputEvent o on).dosing = s.dosing := by
  cases o
  case doseD => exact absurd rfl (h .detergent)
  case doseR => exact absurd rfl (h .rinse)
  case inlet => unfold State.outputEvent; dsimp only; split <;> simp [State.checkOutput, State.modCheck]
  case heater => exact (State.dosing_of_bulk ((s.checkOutput .heater on).heaterEvent_bulk on) :)
  all_goals rfl

/-- R39: only the event of HEATER touches the Door Unit. -/
theorem State.outputEvent_door (s : State) {o : Output} (h : o ≠ .heater) (on : Bool) :
    (s.outputEvent o on).door = s.door := by
  cases o
  case heater => exact absurd rfl h
  case inlet => unfold State.outputEvent; dsimp only; split <;> simp [State.checkOutput, State.modCheck]
  case doseD => exact State.modDose_door _ _
  case doseR => exact State.modDose_door _ _
  all_goals rfl

/-! ### The reference volume (R86) -/

@[simp] theorem State.releaseExclusion_refVolume (s : State) : s.releaseExclusion.engine.refVolume = s.engine.refVolume := by
  unfold State.releaseExclusion State.releaseLane
  (repeat' split) <;> rfl

theorem State.concludeSuccess_refVolume {s : State} {l : Lane} {flags : ResultFlags} {h : StepRec} (hh : s.head l = some h) :
    (s.concludeSuccess l flags).engine.refVolume = if h.work.isFill then some h.actual else s.engine.refVolume := by
  simp only [State.concludeSuccess, hh]
  split <;> simp only [State.releaseExclusion_refVolume, State.raiseStep_engine, State.dropDose_engine] <;>
    (unfold State.setRefFrom; split <;> rfl)

@[simp] theorem State.failForGood_refVolume (s : State) (l : Lane) (r : StepResult) :
    (s.failForGood l r).engine.refVolume = s.engine.refVolume := by
  unfold State.failForGood
  split
  · rfl
  · simp only [State.releaseExclusion_refVolume, State.raiseStep_engine]
    rfl

@[simp] theorem State.concludeCounted_refVolume (s : State) (l : Lane) (r : StepResult) :
    (s.concludeCounted l r).engine.refVolume = s.engine.refVolume := by
  unfold State.concludeCounted
  dsimp only
  (repeat' split)
  · rfl
  · rfl
  · exact (State.failForGood_refVolume _ _ _).trans rfl

@[simp] theorem State.autoOpenHeater_refVolume (s : State) : s.autoOpenHeater.engine.refVolume = s.engine.refVolume := by
  unfold State.autoOpenHeater
  split
  · rfl
  next t ht =>
    split
    next hwait =>
      have hwork : t.work = .autoOpen := by simpa using (Bool.and_eq_true_iff.mp hwait).2
      split
      · rfl
      next flags _ _ =>
        have hq : (s.modHead .water (fun t => { t with actual := 0 })).head .water = some { t with actual := 0 } := by
          simp only [State.head] at ht ⊢
          simp only [State.modHead, State.modLane_lane]
          cases hl : (s.lane .water).queue <;> simp_all [modFirst]
        rw [State.concludeSuccess_refVolume hq]
        simp only [hwork]
        rfl
      · simp
      · simp
      · simp
        rfl
    · rfl

theorem State.outputEvent_refVolume (s : State) (o : Output) (on : Bool) :
    (s.outputEvent o on).engine.refVolume = s.engine.refVolume := by
  cases o
  case inlet =>
    unfold State.outputEvent
    dsimp only
    split
    · unfold State.inletOpening State.startNoFlow; dsimp only; (repeat' split) <;> rfl
    · unfold State.inletClosing State.softenerClosing State.debit State.pendingTest State.cycleWater State.cycleEvent
        State.strayClosing
      dsimp only
      (repeat' split) <;> rfl
  case heater =>
    unfold State.outputEvent State.heaterEvent State.extendGuard
    dsimp only
    (repeat' split) <;> exact (State.autoOpenHeater_refVolume _).trans rfl
  case doseD => exact congrArg Engine.refVolume (State.modDose_engine _ _)
  case doseR => exact congrArg Engine.refVolume (State.modDose_engine _ _)
  all_goals rfl

@[simp] theorem State.evaluate_refVolume (s : State) : s.evaluate.engine.refVolume = s.engine.refVolume :=
  State.evaluate_keeps (fun u => u.engine.refVolume) (fun _ _ => rfl) State.outputEvent_refVolume s

end Sys2Proof.Machine
end

-- ==== The supply, the inputs and the samples (R11 to R13, R18 to R29, R32) ====
section
namespace Sys2Proof.Machine

/-- R171: an event while RESET_N is high. -/
theorem exec_event {c : Instr} {k : State → State} {s : State} (hk : c.event = some k) (hr : s.resetHeld = false) :
    exec c s = .next (k s) := by
  rw [exec_of_event hk, unlessHeld_free _ _ hr]

/-! ### The supply (R11 to R13) -/

section
variable {s : State} {order : List Receiver} (hr : s.resetHeld = false)
include hr

theorem exec_lossWindow_ready (hs : s.time.supply = .ready) (hd : s.due s.time.lossWindow = true) :
    exec (.lossWindowExpiry order) s = .next ((s.withTime
      { s.time with lossWindow := none, zcPresent := false, settle := none }).supplyBecomesLost .zeroCross order) := by
  have hready : s.supplyReady = true := decide_eq_true hs
  rw [exec_event rfl hr, if_pos hd, if_pos hready]
  rfl

theorem exec_lossWindow_lost (hs : s.time.supply = .lost) (hd : s.due s.time.lossWindow = true) :
    exec (.lossWindowExpiry order) s = .next (s.withTime
      { s.time with lossWindow := none, zcPresent := false, settle := none }) := by
  have hlost : ¬ s.supplyReady = true := by simp [State.supplyReady, hs]
  rw [exec_event rfl hr, if_pos hd, if_neg hlost]
  rfl

theorem exec_railOkFall (hrail : s.pins.railOk = true) : exec (.railOkFall order) s = .next
    (if s.supplyReady then ((s.withPins { s.pins with railOk := false }).withTime
        { s.time with settle := none }).supplyBecomesLost .railOk order
     else (s.withPins { s.pins with railOk := false }).withTime { s.time with settle := none }) := by
  rw [exec_of_pinChange rfl]
  simp only [hr, hrail]
  rfl

end

/-- Settles O18: each of these events in LOST, and the edges in every supply state. -/
theorem supplyConditions : Obligations.SupplyConditions := by
  refine ⟨fun s hr => ?zeroCross, fun s hr hrail => ?railRise, fun s order hr hlost =>
    ⟨fun hd => exec_lossWindow_lost hr hlost hd, fun hrail => ?railFall⟩⟩
  case zeroCross =>
    rw [exec_event rfl hr]
    dsimp only
    split <;> rfl
  case railRise =>
    rw [exec_of_pinChange rfl]
    simp only [hr, hrail, Bool.false_eq_true, if_false]
    split <;> rfl
  case railFall => rw [exec_railOkFall hr hrail, if_neg (by simp [State.supplyReady, hlost])]

theorem State.supplyBecomesLost_deEnergised (s : State) (cause : LossCause) (order : List Receiver) (o : Output) :
    (s.supplyBecomesLost cause order).energised o = false := by
  have hsettled : (s.supplyBecomesLost cause order).settled = true := deliver_supplyTo_settled _ _ _
  have hlost : (s.supplyBecomesLost cause order).time.supply = .lost :=
    congrArg Surroundings.supply (s.supplyBecomesLost_surroundings cause order)
  exact State.deEnergised_of_lost hsettled (decide_eq_false fun h => nomatch hlost.symm.trans h) o

/-- Settles O19: the supply is LOST before its receivers take the change, and settled outputs need it. -/
theorem supplyLossOpensEveryOutput : Obligations.SupplyLossOpensEveryOutput := by
  refine fun s order hr hs => ⟨fun hd => ⟨_, exec_lossWindow_ready hr hs hd,
    State.supplyBecomesLost_surroundings _ _ _, State.supplyBecomesLost_deEnergised _ _ _⟩, fun hrail => ?_⟩
  have hready : s.supplyReady = true := decide_eq_true hs
  have hexec := exec_railOkFall (order := order) hr hrail
  rw [if_pos hready] at hexec
  exact ⟨_, hexec, State.supplyBecomesLost_surroundings _ _ _, State.supplyBecomesLost_deEnergised _ _ _⟩

/-- Settles O20: the supply is READY before its receivers take the change, and the outputs are settled at the end. -/
theorem settledSupplyIsReady : Obligations.SettledSupplyIsReady := by
  intro s order hr hd
  have hsettled : (s.supplyBecomesReady order).settled = true := deliver_supplyTo_settled _ _ _
  have hsurr := s.supplyBecomesReady_surroundings order
  refine ⟨s.supplyBecomesReady order, ?_, hsurr, hsettled, ?_⟩
  · rw [exec_event rfl hr, if_pos hd]
  · have hready : (s.supplyBecomesReady order).time.supply = .ready := congrArg Surroundings.supply hsurr
    have hlocked : (s.supplyBecomesReady order).store.configured = s.store.configured := congrArg Surroundings.configured hsurr
    have hlatched : (s.supplyBecomesReady order).guard.latched = s.guard.latched := congrArg Surroundings.latched hsurr
    rw [State.relay_of_settled hsettled, State.supplyReady, hready, hlocked, hlatched]
    rfl

/-! ### The filtered inputs (R18 to R21) -/

theorem FilteredInput.pinChange_eq (f : FilteredInput) (level : Bool) (start : Timer) :
    f.pinChange level start =
      { accepted := f.accepted,
        candidate := if f.accepted = some level then none else some level,
        debounce := if f.accepted = some level then none else start,
        lastEvent := f.lastEvent } := by
  unfold FilteredInput.pinChange
  split <;> rfl

/-- Settles O21: the two branches of the filter at a change of its pin. -/
theorem pinChangeStartsDebounce : Obligations.PinChangeStartsDebounce := by
  intro i level s hr hne
  rw [exec_of_pinChange rfl]
  simp only [hr, hne, if_false, Bool.false_eq_true]
  simp only [State.modInput, FilteredInput.pinChange_eq]
  cases i <;> rfl

/-- Settles O22: the acceptance, and what the Guard's delivery of FLOAT adds to it. -/
theorem debounceAcceptsCandidate : Obligations.DebounceAcceptsCandidate := by
  intro i order s level hr hs hc hd
  refine ⟨s.accept i level order, ?_, State.accept_surroundings _ _ _ _, State.accept_settled hs _ _ _⟩
  rw [exec_event rfl hr]
  simp only [hc, hd]
  rfl

/-! ### Temperature samples (R23 to R26) -/

/-- Settles O24: the reading before the receivers take the sample, which they leave alone. -/
theorem temperatureSample : Obligations.TemperatureSample := by
  intro code order s hr hd
  refine ⟨s.sampleTemp code order, by rw [exec_event rfl hr, if_pos hd], ?_, deliver_sampleTo_settled _ _ _ _⟩
  rw [State.sampleTemp_surroundings]
  have hends : (code.toNat = 0 ∨ code.toNat = 1023) ↔ (code = 0 ∨ code = 1023) := by
    simp only [← BitVec.toNat_inj]
    rfl
  have hreading : s.readingOf code =
      if s.store.configured = false then
        { s.sampler.temp with value := none, status := .noTable, code := some code, sampleTime := some s.time.clock }
      else if code = 0 ∨ code = 1023 then
        { s.sampler.temp with status := .sensorFault, code := some code, sampleTime := some s.time.clock }
      else
        { value := some (convertCode code.toNat s.tempTable), status := .valid, code := some code,
          sampleTime := some s.time.clock, validTime := some s.time.clock } := by
    unfold State.readingOf
    simp only [hends, Bool.not_eq_true', State.now]
  rw [hreading]
  rfl

/-! ### The conversion (R24) -/

theorem mul_neg_iff_of_pos (m : Int) {d : Nat} (hd : 0 < d) : m * (d : Int) < 0 ↔ m < 0 := by
  have hpos : (0 : Int) < d := Int.natCast_pos.mpr hd
  refine ⟨fun h => Int.not_le.mp fun hm => ?_, fun hm => Int.mul_neg_of_neg_of_pos hm hpos⟩
  exact Int.not_lt.mpr (Int.mul_nonneg hm (Int.le_of_lt hpos)) h

/-- R24: an exact quotient is not rounded. -/
theorem roundAway_mul (m : Int) {d : Nat} (hd : 0 < d) : roundAway (m * d) d = m := by
  have hquot : (2 * (m * (d : Int)).natAbs + d) / (2 * d) = m.natAbs := by
    rw [Int.natAbs_mul, Int.natAbs_natCast]
    have hdouble : m.natAbs * (2 * d) = 2 * (m.natAbs * d) := Nat.mul_left_comm _ _ _
    have hsucc : (m.natAbs + 1) * (2 * d) = m.natAbs * (2 * d) + 2 * d := Nat.succ_mul _ _
    exact Nat.div_eq_of_lt_le (by omega) (by omega)
  unfold roundAway
  rw [hquot]
  split
  next h =>
    have : m < 0 := (mul_neg_iff_of_pos m hd).mp h
    omega
  next h =>
    have : ¬ m < 0 := fun hneg => h ((mul_neg_iff_of_pos m hd).mpr hneg)
    omega

theorem roundAway_zero (d : Nat) : roundAway 0 d = 0 := by
  rcases Nat.eq_zero_or_pos d with rfl | hd
  · rfl
  · simpa using roundAway_mul 0 hd

/-- R24: a rounded part of a slope lies between nothing and the whole slope. -/
theorem roundAway_between (m : Int) {x d : Nat} (hx : x ≤ d) (hd : 0 < d) :
    min 0 m ≤ roundAway (m * x) d ∧ roundAway (m * x) d ≤ max 0 m := by
  rcases Nat.eq_zero_or_pos x with rfl | hpos
  · rw [Int.natCast_zero, Int.mul_zero, roundAway_zero]
    omega
  have hquot : (2 * (m * (x : Int)).natAbs + d) / (2 * d) ≤ m.natAbs := by
    rw [Int.natAbs_mul, Int.natAbs_natCast]
    have := Nat.mul_le_mul_left m.natAbs hx
    have hdouble : m.natAbs * (2 * d) = 2 * (m.natAbs * d) := Nat.mul_left_comm _ _ _
    have hsucc : m.natAbs.succ * (2 * d) = m.natAbs * (2 * d) + 2 * d := Nat.succ_mul _ _
    exact Nat.le_of_lt_succ ((Nat.div_lt_iff_lt_mul (by omega)).mpr (by omega))
  have hsign : m * (x : Int) < 0 ↔ m < 0 := mul_neg_iff_of_pos m hpos
  unfold roundAway
  simp only [hsign]
  generalize (2 * (m * (x : Int)).natAbs + d) / (2 * d) = n at hquot ⊢
  split <;> omega

theorem convertFrom_of_mem {c : Nat} {x : Nat × Int} (hc : x.1 = c) :
    ∀ (rest : List (Nat × Int)) (p : Nat × Int), (p :: rest).Pairwise (fun a b => a.1 < b.1) → x ∈ p :: rest →
      convertFrom c p rest = x.2
  | [], p, _, hx => by
    rw [List.mem_singleton.mp hx]
    rfl
  | q :: rest, p, hasc, hx => by
    obtain ⟨hp, hq⟩ := List.pairwise_cons.mp hasc
    have hpq : p.1 < q.1 := hp q List.mem_cons_self
    unfold convertFrom
    rcases List.mem_cons.mp hx with rfl | hx
    · subst hc
      simp [Nat.le_of_lt hpq, roundAway_zero]
    · split
      next hle =>
        have hxq : x = q := (List.mem_cons.mp hx).resolve_right fun hin => by
          have := (List.pairwise_cons.mp hq).1 x hin
          omega
        rw [← hc, hxq, roundAway_mul _ (by omega)]
        omega
      next => exact convertFrom_of_mem hc rest q hq hx

theorem convertFrom_of_above {c : Nat} {last : Nat × Int} (hc : last.1 < c) :
    ∀ (rest : List (Nat × Int)) (p : Nat × Int), (p :: rest).Pairwise (fun a b => a.1 < b.1) →
      (p :: rest).getLast? = some last → convertFrom c p rest = last.2
  | [], p, _, hlast => by
    cases hlast
    rfl
  | q :: rest, p, hasc, hlast => by
    have hq : ∀ b ∈ p :: q :: rest, b = last ∨ b.1 < last.1 := fun b hb => by
      have hget := List.getLast?_eq_some_iff.mp hlast
      obtain ⟨init, hinit⟩ := hget
      rw [hinit] at hasc hb
      rcases List.mem_append.mp hb with hb | hb
      · exact .inr ((List.pairwise_append.mp hasc).2.2 b hb last List.mem_cons_self)
      · exact .inl (List.mem_singleton.mp hb)
    have hlt : ¬ c ≤ q.1 := by
      rcases hq q (by simp) with rfl | h <;> omega
    unfold convertFrom
    rw [if_neg hlt]
    exact convertFrom_of_above hc rest q (List.pairwise_cons.mp hasc).2 (by rwa [List.getLast?_cons_cons] at hlast)

theorem convertFrom_between {c : Nat} {lo hi : Int} :
    ∀ (rest : List (Nat × Int)) (p : Nat × Int), (p :: rest).Pairwise (fun a b => a.1 < b.1) → p.1 ≤ c →
      (∀ b ∈ p :: rest, lo ≤ b.2 ∧ b.2 ≤ hi) → lo ≤ convertFrom c p rest ∧ convertFrom c p rest ≤ hi
  | [], p, _, _, hb => hb p List.mem_cons_self
  | q :: rest, p, hasc, hpc, hb => by
    obtain ⟨hp, hq⟩ := List.pairwise_cons.mp hasc
    have hpq : p.1 < q.1 := hp q List.mem_cons_self
    unfold convertFrom
    split
    next hle =>
      have hround := roundAway_between (q.2 - p.2) (x := c - p.1) (d := q.1 - p.1) (by omega) (by omega)
      have := hb p List.mem_cons_self
      have := hb q (by simp)
      omega
    next hgt => exact convertFrom_between rest q hq (by omega) fun b hmem => hb b (List.mem_cons_of_mem _ hmem)

/-- Settles O25: the points, both clamps and the bounds, by the walk along the table. -/
theorem conversionStaysInTable : Obligations.ConversionStaysInTable := by
  intro table hasc c
  cases table with
  | nil => simp
  | cons p rest =>
    have hleast : ∀ b ∈ p :: rest, p.1 ≤ b.1 := fun b hb => by
      rcases List.mem_cons.mp hb with rfl | hb
      · exact Nat.le_refl _
      · exact Nat.le_of_lt ((List.pairwise_cons.mp hasc).1 b hb)
    refine ⟨fun x hx hc => ?_, fun first hfirst hlt => ?_, fun last hlast hlt => ?_, fun lo hi _ hb => ?_⟩
    · have := hleast x hx
      rw [convertCode, if_neg (by omega)]
      exact convertFrom_of_mem hc rest p hasc hx
    · cases hfirst
      rw [convertCode, if_pos hlt]
    · have := hleast last (List.mem_of_getLast? hlast)
      rw [convertCode, if_neg (by omega)]
      exact convertFrom_of_above hlt rest p hasc hlast
    · rw [convertCode]
      split
      next => exact hb p List.mem_cons_self
      next hge => exact convertFrom_between rest p hasc (by omega) hb

end Sys2Proof.Machine
end

-- ==== The Output Guard's commands (R41 to R49) ====
section
namespace Sys2Proof.Machine

/-! ### Demands and lanes through the ends of tries -/

theorem State.demands_evaluate (s : State) (o : Output) (src : Source) : s.evaluate.demands o src = s.demands o src :=
  congrArg (fun d : DemandSet => d.has src) (s.evaluate_demands o)

theorem State.concludeCounted_demands (s : State) (l : Lane) (r : StepResult) (o : Output) (src : Source) :
    (s.concludeCounted l r).demands o src = s.demands o src :=
  State.demands_of_guardCore (State.concludeCounted_guardCore _ _ _) o src

theorem State.failForGood_demands (s : State) (l : Lane) (r : StepResult) (o : Output) (src : Source) :
    (s.failForGood l r).demands o src = s.demands o src :=
  State.demands_of_guardCore (State.failForGood_guardCore _ _ _) o src

/-- R35: an immediate failure withdraws no demand but its lane's and the Softener's. -/
theorem State.failImmediate_demands (s : State) {l : Lane} (r : StepResult) (o : Output) {src : Source} (h1 : src ≠ l.source)
    (h2 : src ≠ .softener) : (s.failImmediate l r).demands o src = s.demands o src := by
  unfold State.failImmediate
  split
  · rw [State.failForGood_demands, State.tryEnd_demands _ _ _ _ h1 h2]
  · rw [State.failForGood_demands]

theorem State.guardReport_forced (s : State) (r : StepResult) (o : Output) :
    (s.guardReport r).demands o .forced = s.demands o .forced := by
  have hlane (u : State) (l : Lane) : (u.guardReportLane r l).demands o .forced = u.demands o .forced := by
    unfold State.guardReportLane
    split
    · exact State.failImmediate_demands u r o (by cases l <;> decide) (by decide)
    · rfl
  rw [State.guardReport, hlane, hlane]

/-! ### Sense lines (R41, R42, R44, R132) -/

theorem exec_senseLineChange {l : SenseLine} {on : Bool} {s : State} (hr : s.resetHeld = false) (hne : s.pins.sense l ≠ on) :
    exec (.senseLineChange l on) s = .next ((s.withPins (s.pins.withSense l on)).senseChange l on) := by
  rw [exec_of_pinChange rfl]
  simp only [hr, hne, if_false, Bool.false_eq_true]

theorem State.cleanSense_eq (s : State) (l : SenseLine) (on : Bool) :
    s.cleanSense l on = s.withGuard { s.guard with cleanCount :=
      if s.guard.latched ∧ on ∧ (l = .inletSn ∨ l = .heaterSn) then 0 else s.guard.cleanCount } := by
  have hcond : (s.guard.latched && on && (decide (l = .inletSn) || decide (l = .heaterSn))) = true
      ↔ s.guard.latched ∧ on ∧ (l = .inletSn ∨ l = .heaterSn) := by simp [and_assoc]
  unfold State.cleanSense
  simp only [hcond]
  split <;> rfl

theorem State.feedbackSense_eq (s : State) (a : Agent) (on : Bool) :
    s.feedbackSense a on = s.withDosing { s.dosing with record := s.dosing.record.map (fun r =>
      if on ∧ a.line = r.agent.line ∧ s.energised r.agent.pump ∧ r.phase = .on then { r with feedback := true } else r) } := by
  have hline (b : Agent) : a.line = b.line ↔ b = a := by cases a <;> cases b <;> decide
  unfold State.feedbackSense State.modDose
  cases hrec : s.dosing.record with
  | none =>
    have hkeep : s.withDosing { s.dosing with record := none } = s := by rw [← hrec]; rfl
    split <;> exact hkeep.symm
  | some r =>
    have hkeep : s.withDosing { s.dosing with record := some r } = s := by rw [← hrec]; rfl
    by_cases hag : r.agent = a
    · subst hag
      by_cases hon : on = true <;> by_cases he : s.energised r.agent.pump = true <;>
        simp [hon, he, State.withDose, hkeep]
    · simp [hline, hag, State.withDose, hkeep]

theorem Agent.line_unchecked (a : Agent) : a.line.checked = none := by cases a <;> rfl

/-- Settles O23: the sense line of a checked output, or the feedback line of a pump. -/
theorem senseLineChange : Obligations.SenseLineChange := by
  intro l on s hr hne
  refine ⟨_, exec_senseLineChange hr hne, ?_⟩
  have hdose (c : Checked) (h : l.checked = some c) : s.dosing = { s.dosing with record := s.dosing.record.map (fun r =>
      if on ∧ l = r.agent.line ∧ s.energised r.agent.pump ∧ r.phase = .on then { r with feedback := true } else r) } := by
    have hline (a : Agent) : l ≠ a.line := by
      rintro rfl
      exact nomatch h.symm.trans a.line_unchecked
    simp [hline]
  cases l
  case doseDSn | doseRSn =>
    simp only [State.senseChange, SenseLine.checked, SenseLine.agent, State.cleanSense_eq, State.feedbackSense_eq]
    exact ⟨rfl, rfl, fun o => by cases o <;> rfl, rfl, rfl, rfl, rfl, rfl⟩
  all_goals
    simp only [State.senseChange, SenseLine.checked, SenseLine.agent, State.cleanSense_eq]
    exact ⟨rfl, rfl, fun o => by cases o <;> rfl, hdose _ rfl, rfl, rfl, rfl, rfl⟩

/-! ### Stuck-on and stuck-off faults (R41 to R43, R78) -/

theorem exec_stuckOn {c : Checked} {s : State} (hr : s.resetHeld = false) (hd : s.due (s.guard.checks.get c).stuckOn = true) :
    exec (.stuckOnWindowExpiry c) s = .next (s.stuckOnFault c) := by
  rw [exec_event rfl hr, if_pos hd]

theorem exec_stuckOff {c : Checked} {s : State} (hr : s.resetHeld = false) (hd : s.due (s.guard.checks.get c).stuckOff = true) :
    exec (.stuckOffWindowExpiry c) s = .next (s.stuckOffFault c) := by
  rw [exec_event rfl hr, if_pos hd]

/-- R41 and R42: an OUTPUT_FAULT notice for the ports with SAFETY. -/
theorem State.outputFault_port (s : State) (o : Output) (kind : Nat) (p : Port) : (s.outputFault o kind).port p =
    if (s.port p).classes.getLsbD 4 then (s.port p).enter
      { kind := .outputFault, subject := BitVec.ofNat 8 o.number, reference := BitVec.ofNat 16 kind, value := 0,
        time := s.time.clock }
    else s.port p := by
  have hcycle : s.cycleFault.ports = s.ports ∧ s.cycleFault.time = s.time := by
    unfold State.cycleFault State.cycleEvent
    split <;> exact ⟨rfl, rfl⟩
  have hport : s.cycleFault.port p = s.port p := congrArg (fun t : PerPort PortRec => t.get p) hcycle.1
  rw [State.outputFault, State.raiseByClass_port, hport]
  rfl

/-- R41, R42, R170: an OUTPUT_FAULT changes the cycle record and the ports alone. -/
theorem State.outputFault_eq (s : State) (o : Output) (kind : Nat) : ∃ ports, s.outputFault o kind =
    (s.withStore { s.store with cycle := { s.store.cycle with
      fault := s.store.cycle.fault || decide (s.store.cycle.state = CycleState.open) } }).withPorts ports := by
  have hcycle : s.cycleFault = s.withStore { s.store with cycle := { s.store.cycle with
      fault := s.store.cycle.fault || decide (s.store.cycle.state = CycleState.open) } } := by
    unfold State.cycleFault State.cycleEvent
    split
    next h => simp [State.withCycle, h]
    next h =>
      simp only [h, decide_false, Bool.or_false]
      rfl
  exact ⟨_, by rw [State.outputFault, hcycle]; rfl⟩

theorem State.latchFault_forced (s : State) (o : LatchOutput) : (s.latchFault o).demands .drain .forced = true := by
  have hcycle (u : State) : u.cycleFault.demands .drain .forced = u.demands .drain .forced :=
    State.demands_of_guardCore (State.cycleFault_guardCore _) _ _
  rw [State.latchFault, State.guardReport_forced]
  change (State.cycleFault _).demands .drain .forced = true
  rw [hcycle, State.demands_evaluate, State.startLatchDrain, State.putForced, State.putDemand_demands]
  simp [State.drainReason, State.timer, timerFor]

/-- Settles O27: a latching fault, which settled outputs obey, and the notice of the other outputs. -/
theorem stuckOnFaults : Obligations.StuckOnFaults := by
  refine ⟨fun o c s hco hr hd => ⟨_, exec_stuckOn hr hd, ?latching⟩, fun c s hc hr hd => ⟨_, exec_stuckOn hr hd, ?notice⟩⟩
  case latching =>
    have hfault : s.stuckOnFault c = (s.modCheck c (fun r => { r with stuckOn := none, onMark := true })).latchFault o := by
      cases c <;> cases o <;> cases hco <;> rfl
    rw [hfault]
    have hsurr := State.latchFault_surroundings (s.modCheck c (fun r => { r with stuckOn := none, onMark := true })) o
    exact ⟨hsurr, State.latchFault_settled _ _, State.latchFault_forced _ _, fun x hx =>
      State.deEnergised_of_latched (State.latchFault_settled _ _) (congrArg Surroundings.latched hsurr) hx⟩
  case notice =>
    have hfault : s.stuckOnFault c = (s.modCheck c (fun r => { r with stuckOn := none, onMark := true })).outputFault c.output 1 := by
      rcases hc with rfl | rfl <;> rfl
    have hports := State.outputFault_port (s.modCheck c (fun r => { r with stuckOn := none, onMark := true })) c.output 1
    obtain ⟨ports, heq⟩ := State.outputFault_eq (s.modCheck c (fun r => { r with stuckOn := none, onMark := true })) c.output 1
    have hsurr := State.outputFault_surroundings (s.modCheck c (fun r => { r with stuckOn := none, onMark := true })) c.output 1
    rw [hfault]
    refine ⟨?_, ?_, hports, hsurr, ?_⟩ <;> rw [heq]
    · rfl
    · rfl
    · exact ⟨rfl, rfl, rfl, rfl, rfl⟩

/-! ### A try that ends with a counted failure, in its lane (R78) -/

theorem State.now_of_surroundings {s t : State} (h : t.surroundings = s.surroundings) : t.now = s.now :=
  (congrArg Surroundings.clock h :)

theorem State.timer_of_surroundings {s t : State} (h : t.surroundings = s.surroundings) (ms : Nat) : t.timer ms = s.timer ms :=
  congrArg (fun n => timerFor n ms) (State.now_of_surroundings h)

theorem State.tryEnd_now (s : State) (l : Lane) : (s.tryEnd l).now = s.now :=
  State.now_of_surroundings (s.tryEnd_surroundings l)

/-- R78: the WATER lane after a counted failure of its try. -/
theorem State.endCounted_water_lane {s : State} (r : StepResult) {h : StepRec} {rest : List StepRec}
    (hstate : (s.lane .water).state ≠ .waiting) (hq : (s.lane .water).queue = h :: rest) :
    (s.endCounted .water r).lane .water =
      if h.triesUsed + 1 < h.tries then
        { (s.lane .water).quiet with
          state := .retryWait, retry := s.timer 5000,
          queue := { h with triesUsed := h.triesUsed + 1, result := r } :: rest }
      else
        { (s.lane .water).quiet with
          state := .stalled,
          queue := { h with triesUsed := h.triesUsed + 1, result := r, status := .failed, endTime := some s.now } :: rest,
          last := some { step := { h with triesUsed := h.triesUsed + 1, result := r, status := .failed, endTime := some s.now },
                         manner := .failed } } := by
  have hlane := State.tryEnd_water s hstate
  rw [State.endCounted, State.concludeCounted_lane _ _ _ h rest (by rw [hlane, hq]), hlane, State.tryEnd_now,
    State.timer_of_surroundings (s.tryEnd_surroundings .water)]

theorem State.failForGood_dose_water {s : State} (r : StepResult) (h : (s.lane .water).state ≠ .waiting) :
    (s.failForGood .dose r).lane .water = s.lane .water := by
  unfold State.failForGood
  split
  · rfl
  · rw [State.releaseExclusion_lane]
    · simp only [State.lane, State.raiseStep_engine]
      rfl
    · simp only [State.lane, State.raiseStep_engine]
      exact h

theorem State.concludeCounted_dose_water {s : State} (r : StepResult) (h : (s.lane .water).state ≠ .waiting) :
    (s.concludeCounted .dose r).lane .water = s.lane .water := by
  unfold State.concludeCounted
  dsimp only
  (repeat' split)
  · rfl
  · rfl
  · exact State.failForGood_dose_water r h

theorem State.tryEnd_dose_water {s : State} (h : (s.lane .water).state ≠ .waiting) :
    (s.tryEnd .dose).lane .water = s.lane .water := by
  have hwaits := State.autoOpenWaits_of_state s h
  have hwithdrawn : (s.withdrawAll Lane.dose.source).lane .water = s.lane .water :=
    State.lane_eq_of_lanes .water (State.withdrawAll_lanes s .dose hwaits)
  exact (State.tellTryEnd_water _ .dose (State.autoOpenWaits_of_state _ (by rwa [hwithdrawn]))).trans hwithdrawn

/-- R78: a failure in the DOSE lane leaves a WATER lane that does not wait as it is. -/
theorem State.failCounted_dose_water {s : State} (r : StepResult) (h : (s.lane .water).state ≠ .waiting) :
    (s.failCounted .dose r).lane .water = s.lane .water := by
  unfold State.failCounted State.endCounted
  split
  · rw [State.concludeCounted_dose_water r (by rwa [State.tryEnd_dose_water h]), State.tryEnd_dose_water h]
  · rfl

theorem State.head_of_queue {s : State} {l : Lane} {h : StepRec} {rest : List StepRec} (hq : (s.lane l).queue = h :: rest) :
    s.head l = some h := by
  rw [State.head, hq]
  rfl

theorem State.queue_of_head {s : State} {l : Lane} {h : StepRec} (hh : s.head l = some h) :
    ∃ rest, (s.lane l).queue = h :: rest := by
  unfold State.head at hh
  exact ⟨_, (List.head?_eq_some_iff.mp hh).choose_spec⟩

/-- R42: the reports of a stuck-off fault to the DOSE lane and to the test, which leave the WATER lane as it is. -/
theorem State.stuckOff_reports_water {s : State} (h : (s.lane .water).state ≠ .waiting) (dose test : Bool) :
    let s1 := if dose then s.failCounted .dose .outputFault else s
    (if test then s1.endTest else s1).lane .water = s.lane .water := by
  intro s1
  have hdose : s1.lane .water = s.lane .water := by
    dsimp only [s1]
    split
    · exact State.failCounted_dose_water _ h
    · rfl
  split
  · exact (State.endTest_spec s1 (by rwa [hdose])).1.trans hdose
  · exact hdose

theorem State.endCounted_water_leaves {s : State} (r : StepResult) {h : StepRec} {rest : List StepRec}
    (hstate : (s.lane .water).state ≠ .waiting) (hq : (s.lane .water).queue = h :: rest) :
    ((s.endCounted .water r).lane .water).state ≠ .waiting := by
  rw [State.endCounted_water_lane r hstate hq]
  split <;> exact fun h => nomatch h

/-- R42: the episode of a stuck-off fault is marked and its notice raised, before its reports. -/
def State.stuckOffMarked (s : State) (c : Checked) : State :=
  (s.modCheck c (fun r => { r with stuckOff := none, offMark := true })).outputFault c.output 2

theorem State.stuckOffMarked_eq (s : State) (c : Checked) : ∃ ports, s.stuckOffMarked c =
    ((s.modCheck c (fun r => { r with stuckOff := none, offMark := true })).withStore
      { s.store with cycle := { s.store.cycle with
        fault := s.store.cycle.fault || decide (s.store.cycle.state = CycleState.open) } }).withPorts ports :=
  State.outputFault_eq (s.modCheck c (fun r => { r with stuckOff := none, offMark := true })) c.output 2

theorem State.stuckOffFault_unreported {s : State} {c : Checked}
    (h : ∀ src, src ∈ [Source.water, .softener, .dose, .test] → s.demands c.output src = false) :
    s.stuckOffFault c = s.stuckOffMarked c := by
  have hwater : (s.out c.output).demands.water = false := h .water (by decide)
  have hsoft : (s.out c.output).demands.softener = false := h .softener (by decide)
  have hdose : (s.out c.output).demands.dose = false := h .dose (by decide)
  have htest : (s.out c.output).demands.test = false := h .test (by decide)
  simp [State.stuckOffFault, State.stuckOffMarked, hwater, hsoft, hdose, htest]

/-- R42 and R78: a stuck-off fault under a demand of a WATER lane that runs, in that lane. -/
theorem State.stuckOffFault_water {s : State} {c : Checked} {h : StepRec} {rest : List StepRec}
    (hd : s.demands c.output .water = true) (hstate : (s.lane .water).state = .running)
    (hq : (s.lane .water).queue = h :: rest) :
    (s.stuckOffFault c).lane .water = ((s.stuckOffMarked c).endCounted .water .outputFault).lane .water := by
  obtain ⟨ports, heq⟩ := s.stuckOffMarked_eq c
  have hlane : (s.stuckOffMarked c).lane .water = s.lane .water := by rw [heq]; rfl
  have hwater : (s.out c.output).demands.water = true := hd
  have hrun : (s.lane .water).inTry = true := by simp [LaneRec.inTry, hstate]
  have hreports := State.stuckOff_reports_water
    (State.endCounted_water_leaves .outputFault (s := s.stuckOffMarked c) (by rw [hlane, hstate]; decide) (by rw [hlane, hq]))
    (s.out c.output).demands.dose (s.out c.output).demands.test
  simp only [State.stuckOffFault, hwater, Bool.true_or, if_true, State.failCounted]
  simp only [State.stuckOffMarked] at hlane hreports ⊢
  simp only [hlane, hrun, if_true]
  exact hreports

/-- Settles O28: without a demand of a lane or test the notice alone, and the failure of the WATER lane's try with one. -/
theorem stuckOffFaults : Obligations.StuckOffFaults := by
  refine ⟨fun c s hr hd hnone => ⟨_, exec_stuckOff hr hd, ?notice⟩, fun c h s hr hd hw hstate hh =>
    ⟨_, exec_stuckOff hr hd, State.stuckOffFault_surroundings _, fun hs => State.stuckOffFault_settled hs _, ?failure⟩⟩
  case notice =>
    have hports : ∀ p, (s.stuckOffMarked c).port p = _ := State.outputFault_port _ c.output 2
    have hsurr : (s.stuckOffMarked c).surroundings = _ := State.outputFault_surroundings _ _ _
    obtain ⟨ports, heq⟩ := s.stuckOffMarked_eq c
    rw [State.stuckOffFault_unreported hnone]
    refine ⟨?_, hports, hsurr, ?_⟩ <;> rw [heq]
    · rfl
    · exact ⟨rfl, rfl, rfl, rfl, rfl⟩
  case failure =>
    obtain ⟨rest, hq⟩ := State.queue_of_head hh
    obtain ⟨ports, heq⟩ := s.stuckOffMarked_eq c
    have hlane : (s.stuckOffMarked c).lane .water = s.lane .water := by rw [heq]; rfl
    rw [State.head, State.stuckOffFault_water hw hstate hq,
      State.endCounted_water_lane .outputFault (by rw [hlane, hstate]; decide) (by rw [hlane, hq])]
    split
    · exact ⟨_, rfl, rfl, rfl, rfl, rfl⟩
    · exact ⟨_, rfl, rfl, rfl, rfl, rfl⟩

end Sys2Proof.Machine
end

-- ==== The latch, the forced drain and the output test (R44 to R49) ====
section
namespace Sys2Proof.Machine

/-! ### CLEAR FAULT (R44, R45) -/

/-- Settles O29: the three answers to CLEAR FAULT; the release changes no demand. -/
theorem clearFaultReleasesTheLatch : Obligations.ClearFaultReleasesTheLatch := by
  refine ⟨fun _ => rfl, fun q s hq => ⟨fun hl => ?clear, fun hl hearly => ?early, fun hl hcount hflood => ?release⟩⟩
  case clear => exact serve_handed_say hq (by simp [State.clearFault, hl])
  case early =>
    refine serve_handed_say hq ?_
    have hnot : ¬ (s.guard.cleanCount = 10000 ∧ s.guard.flood = false) := by
      rintro ⟨hcount, hflood⟩
      rcases hearly with hne | hf
      · exact hne hcount
      · exact nomatch hflood.symm.trans hf
    simp only [State.clearFault, hl, Bool.not_true, Bool.false_eq_true, if_false, if_neg hnot]
  case release =>
    refine ⟨(s.withGuard { s.guard with latched := false }).evaluate, serve_handed_say hq ?_,
      State.evaluate_surroundings _, State.evaluate_settled _, State.demands_evaluate _⟩
    simp only [State.clearFault, hl, hcount, hflood, Bool.not_true, Bool.false_eq_true, if_false, and_self, if_true]
    rfl

/-! ### The ends of the latch drain and of a flood (R46, R48) -/

/-- R46: the FORCED demand follows the reasons, and no other demand changes. -/
theorem State.putForced_demands (s : State) (o : Output) (src : Source) :
    s.putForced.evaluate.demands o src = if Output.drain = o ∧ Source.forced = src then s.drainReason else s.demands o src := by
  rw [State.demands_evaluate, State.putForced, State.putDemand_demands]

/-- Settles O30: the FORCED demand is put anew without the reason that ends. -/
theorem forcedDrainEndsWithItsReasons : Obligations.ForcedDrainEndsWithItsReasons := by
  refine ⟨fun s hr hd => ?latch, fun s hr hf hd => ?flood⟩
  case latch =>
    refine ⟨(s.withGuard { s.guard with latchDrain := none }).putForced.evaluate, by rw [exec_event rfl hr, if_pos hd],
      State.evaluate_surroundings _, State.evaluate_settled _, ?_, fun o src hne => ?_⟩ <;> rw [State.putForced_demands]
    · simp [State.drainReason]
    · rw [if_neg (by rintro ⟨rfl, rfl⟩; simp at hne)]
      rfl
  case flood =>
    have hexec : exec .floodClearTimerExpiry s = .next s.floodEnds := by
      rw [exec_event rfl hr, if_pos (by rw [hf, hd]; rfl)]
    have hput := State.putForced_demands (s.withGuard { s.guard with flood := false, floodStart := none, floodClear := none })
    have hclear : s.floodEnds.guard.floodClear = none := by
      have h := congrArg Bystanders.floodClear (State.evaluate_bystanders
        (s.withGuard { s.guard with flood := false, floodStart := none, floodClear := none }).putForced)
      exact h
    refine ⟨s.floodEnds, hexec, ?_, ?_, hclear, ?_, fun o src hne => ?_⟩
    · exact (State.raiseByClass_surroundings _ _).trans (State.evaluate_surroundings _)
    · exact (State.settled_congr (State.raiseByClass_surroundings _ _) rfl).trans (State.evaluate_settled _)
    · exact (hput .drain .forced).trans (by simp [State.drainReason])
    · exact (hput o src).trans (if_neg (by rintro ⟨rfl, rfl⟩; simp at hne))

/-! ### The output test (R49) -/

theorem outputOf_mem {n : Nat} {o : Output} (h : outputOf n = some o) (ho : o ≠ .mainsRelay) :
    n ∈ [2, 3, 4, 5, 6, 8, 9, 10] := by
  unfold outputOf at h
  split at h
  case h_1 => exact absurd (Option.some.inj h).symm ho
  case h_10 => exact nomatch h
  all_goals simp

theorem State.testTarget_eq_none {s : State} {number : Byte}
    (h : number ∉ [2, 3, 4, 5, 6, 8, 9, 10] ∨ ∃ o, outputOf number.toNat = some o ∧ s.fitted o = false) :
    s.testTarget number.toNat = none := by
  unfold State.testTarget
  split
  next o ho =>
    rw [if_neg]
    rintro ⟨hrelay, hfit⟩
    rcases h with h | ⟨o', ho', hfit'⟩
    · have hmem := outputOf_mem ho hrelay
      simp [← BitVec.toNat_inj] at h hmem
      omega
    · cases ho.symm.trans ho'
      exact nomatch hfit.symm.trans hfit'
  · rfl

theorem State.testTarget_eq_some {s : State} {n : Nat} {o : Output} (ho : outputOf n = some o) (hrelay : o ≠ .mainsRelay)
    (hfit : s.fitted o = true) : s.testTarget n = some o := by
  simp [State.testTarget, ho, hrelay, hfit]

theorem LaneState.testable_iff (st : LaneState) : st.testable = true ↔ st ∈ [LaneState.idle, .held, .stalled] := by
  cases st <;> decide

/-- R49: the demand of the test that runs is withdrawn. -/
def State.testWithdrawn (s : State) : State :=
  match s.guard.test with
  | some old => s.putDemand .test false old
  | none => s

theorem State.beginTest_eq (s : State) (o : Output) (seconds : Nat) : s.beginTest o seconds =
    ((s.testWithdrawn.putDemand .test true o).withGuard { (s.testWithdrawn.putDemand .test true o).guard with
      test := some o, testTimer := s.timer (seconds * 1000) }).evaluate := rfl

theorem State.testWithdrawn_demands (s : State) (x : Output) (src : Source) : s.testWithdrawn.demands x src =
    if s.guard.test = some x ∧ Source.test = src then false else s.demands x src := by
  unfold State.testWithdrawn
  split
  next old h => simp only [State.putDemand_demands, h, Option.some.injEq]
  next h => simp [h]

theorem State.testWithdrawn_engine (s : State) : s.testWithdrawn.engine = s.engine := by
  unfold State.testWithdrawn; split <;> rfl

theorem State.testWithdrawn_surroundings (s : State) : s.testWithdrawn.surroundings = s.surroundings := by
  unfold State.testWithdrawn; split <;> rfl

/-- R49: the demands after a test begins in place of another. -/
theorem State.beginTest_demands (s : State) (o : Output) (seconds : Nat) (x : Output) (src : Source) :
    (s.beginTest o seconds).demands x src =
      if o = x ∧ Source.test = src then true
      else if s.guard.test = some x ∧ Source.test = src then false else s.demands x src := by
  rw [State.beginTest_eq, State.demands_evaluate]
  change (State.putDemand _ .test true o).demands x src = _
  rw [State.putDemand_demands, State.testWithdrawn_demands]

theorem State.beginTest_surroundings (s : State) (o : Output) (seconds : Nat) :
    (s.beginTest o seconds).surroundings = s.surroundings := by
  rw [State.beginTest_eq, State.evaluate_surroundings]
  exact (State.putDemand_surroundings s.testWithdrawn .test true o).trans s.testWithdrawn_surroundings

theorem State.beginTest_lanes {s : State} (o : Output) (seconds : Nat) (h : (s.lane .water).state ≠ .waiting) :
    (s.beginTest o seconds).engine.lanes = s.engine.lanes := by
  have hengine := s.testWithdrawn_engine
  rw [State.beginTest_eq, State.evaluate_lanes]
  · exact congrArg Engine.lanes hengine
  · refine State.autoOpenWaits_of_state _ ?_
    change ((s.testWithdrawn.engine.lanes.get .water).state) ≠ .waiting
    rwa [hengine]

theorem State.lanesTestable_iff (s : State) : ((s.lane .water).state.testable && (s.lane .dose).state.testable) = true
    ↔ ∀ l, (s.lane l).state ∈ [LaneState.idle, .held, .stalled] := by
  rw [Bool.and_eq_true, LaneState.testable_iff, LaneState.testable_iff]
  exact ⟨fun h l => match l with | .water => h.1 | .dose => h.2, fun h => ⟨h .water, h .dose⟩⟩

theorem State.testOutput_taken {s : State} {n seconds : Nat} {o : Output} (hlocked : s.store.configured = true)
    (ho : outputOf n = some o) (hrelay : o ≠ .mainsRelay) (hfit : s.fitted o = true) (hlo : 1 ≤ seconds) (hhi : seconds ≤ 10) :
    s.testOutput n seconds = if (s.lane .water).state.testable && (s.lane .dose).state.testable then (s.beginTest o seconds).done
      else s.say .laneBusy := by
  have hrange : ¬ (seconds < 1 ∨ 10 < seconds) := by omega
  simp only [State.testOutput, hlocked, State.testTarget_eq_some ho hrelay hfit, if_neg hrange]
  rfl

theorem State.testOutput_badField {s : State} {number seconds : Byte} (hlocked : s.store.configured = true)
    (h : number ∉ [2, 3, 4, 5, 6, 8, 9, 10] ∨ seconds < 1 ∨ 10 < seconds
      ∨ (∃ o, outputOf number.toNat = some o ∧ s.fitted o = false)) :
    s.testOutput number.toNat seconds.toNat = s.say .badField := by
  simp only [State.testOutput, hlocked, Bool.not_true, Bool.false_eq_true, if_false]
  split
  · rfl
  next o ho =>
    rw [if_pos]
    rcases h with h | h | h | h
    · exact nomatch (State.testTarget_eq_none (.inl h)).symm.trans ho
    · exact .inl h
    · exact .inr h
    · exact nomatch (State.testTarget_eq_none (.inr h)).symm.trans ho

/-- R49: the end of a test. -/
theorem State.endTest_demands {s : State} {o : Output} (h : s.guard.test = some o) (x : Output) (src : Source) :
    s.endTest.demands x src = if o = x ∧ Source.test = src then false else s.demands x src := by
  simp only [State.endTest, h]
  rw [State.demands_evaluate, State.putDemand_demands]
  rfl

/-- Settles O31: the refusals of TEST OUTPUT in their order, a test that begins, and its end. -/
theorem outputTest : Obligations.OutputTest := by
  refine ⟨fun q number seconds s hq hpay => ?request, fun o s hr ho hd => ?expiry⟩
  case request =>
    have hserve {u : State} {status : Status} (ha : s.testOutput number.toNat seconds.toNat = u.say status) :
        exec (.testOutput q) s = .next (u.reply q status) := serve_handed_say hq (by rw [hpay]; exact ha)
    refine ⟨fun hopen => hserve (by simp [State.testOutput, hopen]), fun hlocked hbad =>
      hserve (State.testOutput_badField hlocked hbad), fun o hlocked ho hrelay hfit hlo hhi => ?_⟩
    have htaken := State.testOutput_taken hlocked ho hrelay hfit hlo hhi
    refine ⟨fun ⟨l, hl⟩ => hserve ?_, fun hfree => ⟨s.beginTest o seconds.toNat, hserve ?_, ?_⟩⟩
    · rw [htaken, if_neg fun h => hl (s.lanesTestable_iff.mp h l)]
    · rw [htaken, if_pos (s.lanesTestable_iff.mpr hfree)]
      rfl
    · have hby := State.evaluate_bystanders ((s.testWithdrawn.putDemand .test true o).withGuard
        { (s.testWithdrawn.putDemand .test true o).guard with test := some o, testTimer := s.timer (seconds.toNat * 1000) })
      have hidle : (s.lane .water).state ≠ .waiting := by
        have := hfree .water
        rintro h
        rw [h] at this
        exact absurd this (by decide)
      refine ⟨State.beginTest_surroundings _ _ _, State.evaluate_settled _, (congrArg Bystanders.test hby :),
        (congrArg Bystanders.testTimer hby :), ?_, fun old hold hne => ?_, fun x src hsrc => ?_,
        State.beginTest_lanes o _ hidle⟩ <;> rw [State.beginTest_demands]
      · simp
      · simp [hold, Ne.symm hne]
      · simp [Ne.symm hsrc]
  case expiry =>
    have hby := State.evaluate_bystanders ((s.withGuard { s.guard with test := none, testTimer := none }).putDemand .test false o)
    have hend : s.endTest = ((s.withGuard { s.guard with test := none, testTimer := none }).putDemand .test false o).evaluate := by
      simp only [State.endTest, ho]
    refine ⟨s.endTest, by rw [exec_event rfl hr, if_pos hd], State.endTest_surroundings s, ?_, ?_, ?_, ?_, fun x src hne => ?_⟩
    · rw [hend]; exact State.evaluate_settled _
    · rw [hend]; exact (congrArg Bystanders.test hby :)
    · rw [hend]; exact (congrArg Bystanders.testTimer hby :)
    · simp [State.endTest_demands ho]
    · rw [State.endTest_demands ho, if_neg]
      rintro ⟨rfl, rfl⟩
      simp at hne

end Sys2Proof.Machine
end

-- ==== Turbidity samples and the cycle record (R27 to R32, R169) ====
section
namespace Sys2Proof.Machine

/-! ### What an evaluation and the end of a try leave of the Sampler -/

theorem State.sampler_of_bystanders {s t : State} (h : t.bystanders = s.bystanders) : t.sampler = s.sampler :=
  (congrArg Bystanders.sampler h :)

@[simp] theorem State.evaluate_sampler (s : State) : s.evaluate.sampler = s.sampler :=
  State.sampler_of_bystanders s.evaluate_bystanders
@[simp] theorem State.withdrawAll_sampler (s : State) (src : Source) : (s.withdrawAll src).sampler = s.sampler :=
  State.sampler_of_bystanders (s.withdrawAll_bystanders src)
@[simp] theorem State.enterDemands_sampler (s : State) (src : Source) (os : List Output) :
    (s.enterDemands src os).sampler = s.sampler :=
  State.sampler_of_bystanders (s.enterDemands_bystanders src os)
@[simp] theorem State.modDose_sampler (s : State) (f : DoseRec → DoseRec) : (s.modDose f).sampler = s.sampler :=
  State.sampler_of_bystanders (s.modDose_bystanders f)
@[simp] theorem State.concludeSuccess_sampler (s : State) (l : Lane) (flags : ResultFlags) :
    (s.concludeSuccess l flags).sampler = s.sampler :=
  State.sampler_of_bystanders (s.concludeSuccess_bystanders l flags)
@[simp] theorem State.failForGood_sampler (s : State) (l : Lane) (r : StepResult) : (s.failForGood l r).sampler = s.sampler :=
  State.sampler_of_bystanders (s.failForGood_bystanders l r)
@[simp] theorem State.concludeCounted_sampler (s : State) (l : Lane) (r : StepResult) :
    (s.concludeCounted l r).sampler = s.sampler :=
  State.sampler_of_bystanders (s.concludeCounted_bystanders l r)
@[simp] theorem State.rodTryEnd_sampler (s : State) : s.rodTryEnd.sampler = s.sampler :=
  State.sampler_of_bystanders s.rodTryEnd_bystanders
@[simp] theorem State.rodHandOver_sampler (s : State) : s.rodHandOver.sampler = s.sampler :=
  State.sampler_of_bystanders s.rodHandOver_bystanders
@[simp] theorem State.debit_sampler (s : State) (n : Nat) : (s.debit n).sampler = s.sampler :=
  State.sampler_of_bystanders (s.debit_bystanders n)
@[simp] theorem State.cycleEvent_sampler (s : State) (f : CycleRec → CycleRec) : (s.cycleEvent f).sampler = s.sampler :=
  State.sampler_of_bystanders (s.cycleEvent_bystanders f)
@[simp] theorem State.modLane_sampler (s : State) (l : Lane) (f : LaneRec → LaneRec) : (s.modLane l f).sampler = s.sampler := rfl
@[simp] theorem State.modHead_sampler (s : State) (l : Lane) (f : StepRec → StepRec) : (s.modHead l f).sampler = s.sampler := rfl
@[simp] theorem State.withAccount_sampler (s : State) (a : Agent) (v : StockAccount) : (s.withAccount a v).sampler = s.sampler := rfl

@[simp] theorem State.evalLevel_sampler (s : State) (a : Agent) : (s.evalLevel a).sampler = s.sampler := by
  unfold State.evalLevel
  dsimp only
  (repeat' split) <;> rfl
@[simp] theorem State.applyHeld_sampler (s : State) (a : Agent) : (s.applyHeld a).sampler = s.sampler := by
  unfold State.applyHeld State.declareStock
  split <;> simp
@[simp] theorem State.countStroke_sampler (s : State) (r : DoseRec) : (s.countStroke r).sampler = s.sampler := by
  unfold State.countStroke State.cycleStroke State.setStock
  dsimp only
  split <;> simp
@[simp] theorem State.judgeStroke_sampler (s : State) (r : DoseRec) : (s.judgeStroke r).sampler = s.sampler := by
  unfold State.judgeStroke
  dsimp only
  split <;> simp
@[simp] theorem State.doseTryEnd_sampler (s : State) : s.doseTryEnd.sampler = s.sampler := by
  unfold State.doseTryEnd
  dsimp only
  (repeat' split) <;> simp
@[simp] theorem State.abandonRegen_sampler (s : State) : s.abandonRegen.sampler = s.sampler := by
  unfold State.abandonRegen
  split
  · rfl
  · exact s.withdrawAll_sampler .softener
@[simp] theorem State.tellTryEnd_sampler (s : State) (l : Lane) : (s.tellTryEnd l).sampler = s.sampler := by
  unfold State.tellTryEnd
  (repeat' split) <;> simp
@[simp] theorem State.runSetup_sampler (s : State) (l : Lane) (w : Work) : (s.runSetup l w).sampler = s.sampler := by
  unfold State.runSetup
  split <;> simp [State.heatReading, State.regenHandOver, State.modSoftener, State.setTryTarget]
  split <;> rfl

/-- R31: the requester list without the DOSE lane. -/
def Sampler.undosed (u : Sampler) : Sampler := { u with turb := { u.turb with doseReq := false } }

theorem Sampler.undosed_of_quiet {u : Sampler} (h : u.turb.doseReq = false) : u.undosed = u := by
  rw [Sampler.undosed, ← h]

@[simp] theorem State.tryEnd_water_sampler (s : State) : (s.tryEnd .water).sampler = s.sampler := by
  simp [State.tryEnd]
@[simp] theorem State.tryEnd_dose_sampler (s : State) : (s.tryEnd .dose).sampler = s.sampler.undosed := by
  change (State.dropDoseRequest _).sampler = _
  unfold State.dropDoseRequest
  simp [State.withTurb, Sampler.undosed]

section
/-! ### With no request of the DOSE lane its work leaves the Sampler alone -/

variable {s : State} (h : s.sampler.turb.doseReq = false)
include h

theorem State.succeed_sampler (l : Lane) (flags : ResultFlags) (v : Option Nat) : (s.succeed l flags v).sampler = s.sampler := by
  unfold State.succeed
  cases l <;> cases v <;> simp [Sampler.undosed_of_quiet h]

theorem State.endCounted_sampler (l : Lane) (r : StepResult) : (s.endCounted l r).sampler = s.sampler := by
  unfold State.endCounted
  cases l <;> simp [Sampler.undosed_of_quiet h]

theorem State.failImmediate_sampler (l : Lane) (r : StepResult) : (s.failImmediate l r).sampler = s.sampler := by
  unfold State.failImmediate
  cases l <;> split <;> simp [Sampler.undosed_of_quiet h]

theorem State.strokeDue_sampler : s.strokeDue.sampler = s.sampler := by
  unfold State.strokeDue State.endDose State.issueStroke
  (repeat' split) <;> simp [State.succeed_sampler h, State.failImmediate_sampler h]

theorem State.doseWork_sampler : s.doseWork.sampler = s.sampler := by
  unfold State.doseWork
  split
  · exact State.strokeDue_sampler h
  · simp [State.startDoseDry]

theorem State.enterKind_sampler (w : Work) : (s.enterKind w).sampler = s.sampler := by
  unfold State.enterKind
  split <;> simp [State.doseWork_sampler h]

theorem State.takeOutcome_sampler (l : Lane) (w : Work) (o : Outcome) : (s.takeOutcome l w false o).sampler = s.sampler := by
  unfold State.takeOutcome
  split
  · exact State.succeed_sampler h _ _ _
  · exact State.endCounted_sampler h _ _
  · exact State.failImmediate_sampler h _ _
  · rfl
  · rw [if_neg (by decide), State.runKind, State.enterKind_sampler (by simpa using h)]
    simp

theorem State.retest_sampler (l : Lane) : (s.retest l).sampler = s.sampler := by
  unfold State.retest
  (repeat' split)
  · rfl
  · exact State.takeOutcome_sampler h _ _ _
  · rfl

end

/-! ### SAMPLE NOW and the completion of a sample (R27 to R29) -/

/-- R29: the soil class counts the thresholds at or below the code. -/
theorem State.soilClassOf_eq (s : State) (c : Nat) :
    s.soilClassOf c = (([3, 4, 5].map s.setting).filter (fun threshold => threshold ≤ c)).length := by
  simp only [State.soilClassOf, List.map_cons, List.map_nil, List.filter_cons, List.filter_nil]
  cases decide (s.setting 3 ≤ c) <;> cases decide (s.setting 4 ≤ c) <;> cases decide (s.setting 5 ≤ c) <;> rfl

/-- R28: the Sampler after a completion, before the DOSE lane is served. -/
def State.sampled (s : State) (code : Code) : State :=
  s.withTurb { s.sampler.turb with
    lit := false, ledTimer := none, portReq := { a := false, b := false, c := false }, doseReq := false,
    code := some code, codeTime := some s.now, soilClass := s.soilClassOf code.toNat, sampled := true }

theorem State.completeSample_eq (s : State) (code : Code) : s.completeSample code =
    if s.sampler.turb.doseReq then
      ((s.sampled code).enterFor (portsWhere s.sampler.turb.portReq.get)
        (s.notice .turbidityDone (s.soilClassOf code.toNat) 0 code.toNat)).handClass (s.soilClassOf code.toNat)
    else (s.sampled code).enterFor (portsWhere s.sampler.turb.portReq.get)
      (s.notice .turbidityDone (s.soilClassOf code.toNat) 0 code.toNat) := rfl

theorem State.handClass_sampler {s : State} (h : s.sampler.turb.doseReq = false) (c : Nat) :
    (s.handClass c).sampler = s.sampler := by
  have hcompute : (s.computeDose (some c)).sampler = s.sampler := State.modDose_sampler _ _
  unfold State.handClass
  (repeat' split)
  · rfl
  · rfl
  · rw [State.retest_sampler (by rwa [hcompute]), hcompute]

theorem State.completeSample_turb (s : State) (code : Code) : (s.completeSample code).sampler.turb =
    (s.sampled code).sampler.turb := by
  rw [State.completeSample_eq]
  split
  · rw [State.handClass_sampler rfl]
    rfl
  · rfl

/-- Settles O26: SAMPLE NOW by whether a sample is in flight, and the completion with its requesters. -/
theorem turbiditySample : Obligations.TurbiditySample := by
  refine ⟨fun q s hq => ?now, fun code s hr hd => ⟨s.completeSample code, ?_, ?turb, State.completeSample_surroundings s code,
    fun hdose => ?served⟩⟩
  case now =>
    refine serve_handed_say hq ?_
    unfold State.requestSample
    cases hlit : s.sampler.turb.lit <;> simp only [hlit, Bool.or_false, flagBytes] <;> rfl
  · rw [exec_event rfl hr, if_pos hd]
  case turb =>
    rw [State.completeSample_turb, ← State.soilClassOf_eq]
    rfl
  case served =>
    have hdone : s.completeSample code = (s.sampled code).enterFor (portsWhere s.sampler.turb.portReq.get)
        (s.notice .turbidityDone (s.soilClassOf code.toNat) 0 code.toNat) := by
      rw [State.completeSample_eq, hdose]
      rfl
    refine ⟨by rw [hdone]; rfl, fun p => ?_⟩
    rw [hdone, State.enterFor_port]
    simp only [mem_portsWhere, State.notice, BitVec.ofNat_toNat]
    rfl

/-! ### The cycle record (R59, R86, R169) -/

theorem State.withdrawActions_demands (s : State) (o : Output) (src : Source) : s.withdrawActions.demands o src =
    (s.demands o src && !decide (src = .action ∧ o ∈ [Output.drain, .circ, .aux])) := by
  rw [State.withdrawActions, State.demands_evaluate, State.putDemands_demands]
  by_cases h : o ∈ [Output.drain, .circ, .aux] ∧ Source.action = src
  · rw [if_pos h, decide_eq_true ⟨h.2.symm, h.1⟩]
    simp
  · rw [if_neg h, decide_eq_false fun h' => h ⟨h'.2, h'.1.symm⟩]
    simp

/-- R59: the withdrawal of ACTION demands does not change a settled INLET. -/
theorem State.withdrawActions_inlet {s : State} (h : s.settled = true) :
    ¬ (s.putDemands .action false [.drain, .circ, .aux]).changes .inlet :=
  State.not_changes_inlet h (State.putDemands_surroundings _ _ _ _) rfl rfl

@[simp] theorem State.softenerClosing_store (s : State) (n : Nat) : (s.softenerClosing n).store = s.store := by
  unfold State.softenerClosing State.debit State.pendingTest
  dsimp only
  (repeat' split) <;> rfl

@[simp] theorem State.strayClosing_store (s : State) : s.strayClosing.store = s.store := by
  unfold State.strayClosing; split <;> rfl

theorem State.inletClosing_store_of_closed {s : State} (h : s.store.cycle.state ≠ .open) : s.inletClosing.store = s.store := by
  have hmark (f : TimeBase → TimeBase) : (s.modTime f).store = s.store := rfl
  simp only [State.inletClosing, State.stopNoFlow, State.withSoftener_store, State.withEngine_store, State.strayClosing_store,
    State.cycleWater, State.cycleEvent]
  rw [if_neg (by rw [State.softenerClosing_store, hmark]; exact h), State.softenerClosing_store, hmark]

@[simp] theorem State.inletOpening_store (s : State) : s.inletOpening.store = s.store := by
  unfold State.inletOpening State.startNoFlow
  dsimp only
  (repeat' split) <;> rfl

theorem State.outputEvent_store_of_closed {s : State} (h : s.store.cycle.state ≠ .open) (o : Output) (on : Bool) :
    (s.outputEvent o on).store = s.store := by
  by_cases ho : o = .inlet
  · subst ho
    have hcheck : (s.checkOutput .inlet on).store = s.store := rfl
    unfold State.outputEvent
    dsimp only
    split
    · rw [State.inletOpening_store, hcheck]
    · rw [State.inletClosing_store_of_closed (by rwa [hcheck]), hcheck]
  · exact (s.outputEvent_waterless ho on).2.2

/-- R170: while no record is OPEN an evaluation gives it no water. -/
theorem State.evaluate_store_of_closed {s : State} (h : s.store.cycle.state ≠ .open) : s.evaluate.store = s.store :=
  (State.evaluate_keeps_of State.store (fun u => u.store.cycle.state ≠ .open) (fun _ _ hu => ⟨hu, rfl⟩)
    (fun u o on hu => by
      have hstore := State.outputEvent_store_of_closed hu o on
      exact ⟨by rwa [hstore], hstore⟩) s h).2

/-- R169: the part as a cycle begins, before its ACTION demands are withdrawn. -/
def State.cycleBegun (s : State) : State :=
  ((s.withCycle (s.store.cycle.begin s.now)).withEngine { s.engine with refVolume := some s.vref }).withTurb
    { s.sampler.turb with soilClass := 1, sampled := false }

theorem State.withdrawActions_sampler (s : State) : s.withdrawActions.sampler = s.sampler :=
  State.sampler_of_bystanders s.withdrawActions_bystanders

/-- Settles O58: the record, the reference volume and the sample at a begin, and the demands at both. -/
theorem beginAndEndCycle : Obligations.BeginAndEndCycle := by
  refine fun q s hq => ⟨fun hopen => serve_handed_say hq (by simp [State.beginCycle, hopen]), fun hlocked hopen =>
    serve_handed_say hq (by simp [State.beginCycle, hlocked, hopen]), fun hclosed =>
    serve_handed_say hq (by simp [State.endCycle, hclosed]), fun hlocked hclosed => ?begins, fun hopen => ?ends⟩
  case begins =>
    refine ⟨s.startCycle, serve_handed_say hq ?_, ?_, State.evaluate_settled _, fun hs => ?_, ?_, ?_, fun o src => ?_⟩
    · simp only [State.beginCycle, hlocked, hclosed]
      rfl
    · exact (State.withdrawActions_surroundings _).trans rfl
    · have hsettled : s.cycleBegun.settled = true := hs
      have hstore := (State.evaluate_waterless (State.withdrawActions_inlet hsettled)).2.2
      exact (congrArg Store.cycle hstore :)
    · exact congrArg Sampler.turb (State.withdrawActions_sampler _)
    · exact State.evaluate_refVolume _
    · exact State.withdrawActions_demands _ o src
  case ends =>
    have hstore := State.evaluate_store_of_closed (s := (s.withCycle { s.store.cycle with
      state := .closed, endTime := some s.now }).putDemands .action false [.drain, .circ, .aux]) (fun h => nomatch h)
    exact ⟨(s.withCycle { s.store.cycle with state := .closed, endTime := some s.now }).withdrawActions,
      serve_handed_say hq (by simp only [State.endCycle, hopen, if_true]), State.withdrawActions_surroundings _,
      State.evaluate_settled _, (congrArg Store.cycle hstore :), State.withdrawActions_demands _⟩

end Sys2Proof.Machine
end

-- ==== One tick of the run clock (R1) ====
section
namespace Sys2Proof.Machine

/-! ### The work of the WATER lane at a tick (R97, R100, R104, R116) -/

theorem State.waterTick_frame (s : State) : ∃ queue soak, s.waterTick =
    (s.withLane .water { s.lane .water with queue := queue }).withSoftener { s.softener with soak := soak } := by
  refine ⟨(s.waterTick.lane .water).queue, s.waterTick.softener.soak, ?_⟩
  unfold State.waterTick
  (repeat' split) <;> rfl

section
variable {s : State}

theorem State.waterTick_stopped (h : (s.lane .water).state ≠ .running) : s.waterTick = s := by
  rw [State.waterTick, if_pos h]

theorem State.waterTick_running {t : StepRec} (hrun : (s.lane .water).state = .running) (ht : s.head .water = some t) :
    s.waterTick = match t.work with
      | .drain _ => if s.accepted .levelLow = some false then s.modHead .water (fun t => { t with runOn := t.runOn + 1 }) else s
      | .circulate _ _ => s.modHead .water StepRec.progressTick
      | .pause _ => s.modHead .water StepRec.progressTick
      | .regenerate _ => if s.softener.phase = .soak then s.modSoftener (fun f => { f with soak := f.soak + 1 }) else s
      | .fill _ _ | .heat _ _ | .autoOpen | .dose _ _ => s := by
  rw [State.waterTick, if_neg (Classical.not_not.mpr hrun)]
  simp only [ht] <;> rfl

theorem State.modHead_queue (l : Lane) (f : StepRec → StepRec) :
    ((s.modHead l f).lane l).queue = modFirst f (s.lane l).queue := by
  rw [State.modHead, State.modLane_lane]

/-- R100 and R104: only a PAUSE, a CIRCULATE and a DRAIN are counted in their record. -/
theorem State.waterTick_queue_of_other (h : (s.lane .water).state ≠ .running
      ∨ ∀ t, s.head .water = some t → (∀ d, t.work ≠ .pause d) ∧ (∀ d x, t.work ≠ .circulate d x) ∧ ∀ r, t.work ≠ .drain r) :
    (s.waterTick.lane .water).queue = (s.lane .water).queue := by
  by_cases hrun : (s.lane .water).state = .running
  · cases ht : s.head .water with
    | none =>
      rw [State.waterTick, if_neg (Classical.not_not.mpr hrun)]
      simp only [ht]
    | some t =>
      obtain ⟨hpause, hcirc, hdrain⟩ := (h.resolve_left (Classical.not_not.mpr hrun)) t ht
      rw [State.waterTick_running hrun ht]
      split
      next r hw => exact absurd hw (hdrain r)
      next d x hw => exact absurd hw (hcirc d x)
      next d hw => exact absurd hw (hpause d)
      next => split <;> rfl
      all_goals rfl
  · rw [State.waterTick_stopped hrun]

theorem State.waterTick_softener_of_other (h : (s.lane .water).state ≠ .running ∨ s.softener.phase ≠ .soak
      ∨ ∀ t force, s.head .water = some t → t.work ≠ .regenerate force) : s.waterTick.softener = s.softener := by
  by_cases hrun : (s.lane .water).state = .running
  · cases ht : s.head .water with
    | none =>
      rw [State.waterTick, if_neg (Classical.not_not.mpr hrun)]
      simp only [ht]
    | some t =>
      rw [State.waterTick_running hrun ht]
      split
      next => split <;> rfl
      next => rfl
      next => rfl
      next force hw =>
        rcases h.resolve_left (Classical.not_not.mpr hrun) with hphase | hno
        · rw [if_neg hphase]
        · exact absurd hw (hno t force ht)
      all_goals rfl
  · rw [State.waterTick_stopped hrun]

variable {h : StepRec} {rest : List StepRec} (hrun : (s.lane .water).state = .running)
  (hq : (s.lane .water).queue = h :: rest)
include hrun hq

theorem State.waterTick_progress {d : Nat} (hw : h.work = .pause d ∨ ∃ x, h.work = .circulate d x) :
    (s.waterTick.lane .water).queue = h.progressTick :: rest := by
  rw [State.waterTick_running hrun (State.head_of_queue hq)]
  rcases hw with hw | ⟨x, hw⟩ <;> simp only [hw, State.modHead_queue, hq, modFirst]

theorem State.waterTick_drain {r : Nat} (hw : h.work = .drain r) : (s.waterTick.lane .water).queue =
    { h with runOn := h.runOn + (if s.accepted .levelLow = some false then 1 else 0) } :: rest := by
  rw [State.waterTick_running hrun (State.head_of_queue hq)]
  simp only [hw]
  split <;> simp only [State.modHead_queue, hq, modFirst, ← hw] <;> rfl

theorem State.waterTick_soak {force : Bool} (hw : h.work = .regenerate force) (hp : s.softener.phase = .soak) :
    s.waterTick.softener = { s.softener with soak := s.softener.soak + 1 } := by
  rw [State.waterTick_running hrun (State.head_of_queue hq)]
  simp only [hw]
  rw [if_pos hp]
  rfl

end

/-! ### The clean count and the heater-on time (R44, R170) -/

theorem State.cleanTick_eq (s : State) : s.cleanTick = s.withGuard { s.guard with cleanCount :=
    if s.guard.latched ∧ s.pins.inletSn = false ∧ s.pins.heaterSn = false then min 10000 (s.guard.cleanCount + 1)
    else s.guard.cleanCount } := by
  unfold State.cleanTick
  have hcond : (s.guard.latched && !s.pins.inletSn && !s.pins.heaterSn) = true
      ↔ s.guard.latched ∧ s.pins.inletSn = false ∧ s.pins.heaterSn = false := by simp [and_assoc]
  simp only [hcond]
  split <;> rfl

theorem State.heaterTick_eq (s : State) : s.heaterTick = s.withStore { s.store with cycle := { s.store.cycle with heaterMs :=
    (if s.energised .heater ∧ s.store.cycle.state = CycleState.open then min 4294967295 (s.store.cycle.heaterMs + 1)
    else s.store.cycle.heaterMs) } } := by
  unfold State.heaterTick State.cycleEvent
  by_cases he : s.energised .heater = true
  · by_cases ho : s.store.cycle.state = .open
    · rw [if_pos he, if_pos ho, if_pos ⟨he, ho⟩, Nat.min_comm]
      rfl
    · rw [if_pos he, if_neg ho, if_neg fun h => ho h.2]
      rfl
  · rw [if_neg he, if_neg fun h => he h.1]
    rfl

/-! ### The tick -/

/-- R1, R72, R76: the clock and the lanes at a tick, before the work of the WATER lane. -/
def State.ticking (s : State) : State :=
  ((s.modTime (fun t => { t with clock := t.clock + 1 })).modLane .water LaneRec.tick).modLane .dose LaneRec.tick

theorem State.tick_eq (s : State) : s.tick = s.ticking.waterTick.cleanTick.heaterTick := rfl

/-- Settles O15: the frame of the tick, and the counts of the step under way. -/
theorem tickCountsOneMillisecond : Obligations.TickCountsOneMillisecond := by
  intro s hr
  obtain ⟨queue, soak, hframe⟩ := s.ticking.waterTick_frame
  have htick := s.tick_eq
  rw [State.heaterTick_eq, State.cleanTick_eq] at htick
  have hqueue : (s.tick.lane .water).queue = (s.ticking.waterTick.lane .water).queue := by rw [htick]; rfl
  have hsoft : s.tick.softener = s.ticking.waterTick.softener := by rw [htick]; rfl
  have hlane (r : LaneRec) : r.tick = { r with
      running := r.running + (if r.inTry then 1 else 0), attemptDue := decide (r.state = .ready) } := by
    unfold LaneRec.tick
    split <;> rfl
  refine ⟨s.tick, exec_event rfl hr, ?_, fun l => ?_, ?_, ?_, fun h => hqueue.trans (State.waterTick_queue_of_other h),
    fun h rest d hq hrun hw => hqueue.trans (State.waterTick_progress (s := s.ticking) hrun hq hw),
    fun h rest r hq hrun hw => hqueue.trans (State.waterTick_drain (s := s.ticking) hrun hq hw), ?_, ?_, ?_, ?_, ?_, ?_, ?_, ?_, ?_, ?_,
    fun h force hrun hh hw hp => hsoft.trans ?_, fun h => hsoft.trans (State.waterTick_softener_of_other (s := s.ticking) h)⟩
  case refine_2 =>
    rw [htick, hframe]
    cases l
    · exact congrArg (fun r : LaneRec => { r with queue := queue }) (hlane (s.lane .water))
    · exact hlane (s.lane .dose)
  case refine_15 =>
    obtain ⟨rest, hq⟩ := State.queue_of_head hh
    exact State.waterTick_soak (s := s.ticking) hrun hq hw hp
  all_goals
    rw [htick, hframe]
    rfl

end Sys2Proof.Machine
end

-- ==== HOLD, RESUME, SKIP and RETRY of a lane (R69, R82, R83, R85) ====
section
namespace Sys2Proof.Machine

/-! ### Requests of a lane's holder (R69) -/

section
variable {q : Request} {lane : Byte} {l : Lane} {s : State} {h : Lane → State → Answer}

/-- R69: a request from a port that does not hold the lane. -/
theorem serve_asHolder_foreign (hq : s.hands q .lane 1) (hpay : q.payload = [lane]) (hl : laneOf lane.toNat = some l)
    (hp : (s.lane l).holder ≠ some q.port) : serve .lane 1 q (asHolder q h) s = .next (s.reply q .notHolder) :=
  serve_namedLane hq hpay hl (if_neg hp)

/-- R69: a request from the holder. -/
theorem serve_asHolder_own (hq : s.hands q .lane 1) (hpay : q.payload = [lane]) (hl : laneOf lane.toNat = some l)
    (hp : (s.lane l).holder = some q.port) {u : State} {status : Status} {payload : List Byte}
    (ha : h l s = u.say status payload) : serve .lane 1 q (asHolder q h) s = .next (u.reply q status payload) :=
  serve_namedLane hq hpay hl ((if_pos hp).trans ha)

end

/-! ### HOLD LANE and RESUME LANE (R85) -/

section
variable {l : Lane} {s : State}

theorem State.holdLane_idle (h : (s.lane l).state = .idle) : s.holdLane l = (s.modLane l (fun r => { r with state := .held })).done := by
  rw [State.holdLane, h]

theorem State.holdLane_queued (h : (s.lane l).state = .ready) (hact : s.headActive l = false) :
    s.holdLane l = (s.modLane l (fun r => { r with state := .held, attemptDue := false })).done := by
  simp only [State.holdLane, h, hact]
  rfl

theorem State.holdLane_working (h : (s.lane l).state = .ready ∧ s.headActive l = true
      ∨ (s.lane l).state ∈ [LaneState.running, .waiting, .paused, .retryWait]) :
    s.holdLane l = (s.modLane l (fun r => { r with holdAfter := true })).done := by
  rcases h with ⟨h, hact⟩ | h
  · simp only [State.holdLane, h, hact]
    rfl
  · simp only [List.mem_cons, List.not_mem_nil, or_false] at h
    rcases h with h | h | h | h <;> simp only [State.holdLane, h]

theorem State.holdLane_held (h : (s.lane l).state = .held) : s.holdLane l = s.done := by
  rw [State.holdLane, h]

theorem State.holdLane_refused (h : (s.lane l).state ∈ [LaneState.stalled, .halted]) : s.holdLane l = s.say .wrongState := by
  simp only [List.mem_cons, List.not_mem_nil, or_false] at h
  rcases h with h | h <;> simp only [State.holdLane, h]

theorem State.resumeLane_held (h : (s.lane l).state = .held) : s.resumeLane l =
    (s.modLane l (fun r => if r.queue.isEmpty then { r with state := .idle } else r.toReady)).done := by
  rw [State.resumeLane, if_pos h, State.resumeHeld, if_pos h]

end

/-- Settles O44: each lane state has its answer. -/
theorem holdAndResume : Obligations.HoldAndResume := by
  refine fun q lane l s hq hpay hl => ⟨fun hp => ⟨serve_asHolder_foreign hq hpay hl hp, serve_asHolder_foreign hq hpay hl hp⟩,
    fun hp => ?_⟩
  have hhold {u : State} {status : Status} (ha : s.holdLane l = u.say status) :
      exec (.holdLane q) s = .next (u.reply q status) := serve_asHolder_own hq hpay hl hp ha
  have hresume {u : State} {status : Status} (ha : s.resumeLane l = u.say status) :
      exec (.resumeLane q) s = .next (u.reply q status) := serve_asHolder_own hq hpay hl hp ha
  refine ⟨fun hst => hhold (State.holdLane_idle hst), fun hst hact => hhold (State.holdLane_queued hst hact),
    fun hst => hhold (State.holdLane_working hst), fun hst => hhold (State.holdLane_held hst),
    fun hst => hhold (State.holdLane_refused hst), fun hst hempty => hresume ((State.resumeLane_held hst).trans ?_),
    fun hst hne => hresume ((State.resumeLane_held hst).trans ?_), fun hst => hresume (if_neg hst)⟩
  · have hnone : (s.lane l).queue.isEmpty = true := by rw [hempty]; rfl
    simp only [State.modLane, if_pos hnone]
    rfl
  · have hsome : ¬ (s.lane l).queue.isEmpty = true := by simpa using hne
    simp only [State.modLane, if_neg hsome]
    rfl

/-! ### SKIP STEP and RETRY STEP (R82, R83) -/

theorem LaneRec.advance_keeps (r : LaneRec) (hold : Bool) : (r.advance hold).queue = r.queue ∧ (r.advance hold).retry = r.retry
    ∧ (r.advance hold).last = r.last ∧ (hold = false → (r.advance hold).holdAfter = false) := by
  unfold LaneRec.advance
  split
  · exact ⟨rfl, rfl, rfl, fun _ => rfl⟩
  next h =>
    have hafter : r.holdAfter = false := by
      cases hr : r.holdAfter with
      | false => rfl
      | true => exact absurd (by rw [hr, Bool.or_true]) h
    split <;> exact ⟨rfl, rfl, rfl, fun _ => hafter⟩

theorem LaneRec.advance_leaves (r : LaneRec) (hold : Bool) : (r.advance hold).state ≠ .waiting := by
  rw [LaneRec.advance_state]
  (repeat' split) <;> exact fun h => nomatch h

/-- R82: the lane after its head was removed. -/
theorem State.removeHead_lane (s : State) (l : Lane) (t : StepRec) : (s.removeHead l t).lane l =
    { (s.lane l).quiet with
      queue := (s.lane l).queue.tail,
      last := some { step := { t with status := .failed, endTime := some s.now }, manner := .skipped } }.advance false := by
  have hdrop (u : State) : (u.dropDose l).lane l = u.lane l := State.lane_eq_of_lanes l (by rw [State.dropDose_engine])
  unfold State.removeHead
  dsimp only
  rw [State.releaseExclusion_lane, hdrop, State.modLane_lane]
  rw [hdrop, State.modLane_lane]
  exact LaneRec.advance_leaves _ _

theorem State.removeHead_apart (s : State) (l : Lane) (t : StepRec) : (s.removeHead l t).apart = (s.dropDose l).apart := by
  unfold State.removeHead
  rw [State.releaseExclusion_apart]
  exact State.dropDose_apart_congr l rfl

theorem State.removeHead_record (s : State) (t : StepRec) : (s.removeHead .dose t).dosing.record = none := by
  rw [State.dosing_of_apart (State.removeHead_apart s .dose t)]
  rfl

theorem State.removeHead_ports (s : State) (l : Lane) (t : StepRec) : (s.removeHead l t).ports = s.ports := by
  have hrelease (u : State) : u.releaseExclusion.ports = u.ports := by
    unfold State.releaseExclusion State.releaseLane
    (repeat' split) <;> rfl
  unfold State.removeHead
  rw [hrelease]
  cases l <;> rfl

/-- R31 and R82: the head that a skip in RETRY_WAIT leaves to be removed is the same but for its actual value. -/
theorem State.tellSkip_queue {s : State} {l : Lane} {h : StepRec} {rest : List StepRec} (hst : (s.lane l).state = .retryWait)
    (hq : (s.lane l).queue = h :: rest) : ∃ v, (s.tellSkip l).lane l = { s.lane l with queue := { h with actual := v } :: rest } := by
  cases l with
  | water =>
    have hlane : (s.tellSkip .water).lane .water = s.lane .water :=
      State.tellTryEnd_water s .water (State.autoOpenWaits_of_state s (by rw [hst]; decide))
    refine ⟨h.actual, hlane.trans ?_⟩
    rw [← hq]
  | dose =>
    have hlane : (s.tellSkip .dose).lane .dose = (s.tellTryEnd .dose).lane .dose :=
      State.lane_eq_of_lanes .dose (by rw [State.tellSkip, State.dropDoseRequest_engine])
    obtain ⟨f, hf, heq⟩ := State.tellTryEnd_dose s .dose (by rw [hst]; decide)
    obtain ⟨v, hv⟩ := hf h
    exact ⟨v, by rw [hlane, heq, hq, modFirst, hv]⟩

/-- R82: a head that may be skipped leaves with the lane's answer. -/
theorem State.skipStep_taken {s : State} {l : Lane} {h : StepRec} {rest : List StepRec} (hq : (s.lane l).queue = h :: rest)
    (hst : (s.lane l).state ∈ [LaneState.stalled, .retryWait]) : ∃ (u : State) (v : Nat),
      s.skipStep l = (u.removeHead l { h with actual := v }).say .ok (be 2 h.id)
      ∧ u.lane l = { s.lane l with queue := { h with actual := v } :: rest } ∧ u.surroundings = s.surroundings
      ∧ ((s.lane l).state = .stalled → u = s) := by
  have hhead := State.head_of_queue hq
  by_cases hstall : (s.lane l).state = .stalled
  · refine ⟨s, h.actual, ?_, ?_, rfl, fun _ => rfl⟩
    · simp only [State.skipStep, hhead]
      rw [if_pos hstall]
    · rw [← hq]
  · have hretry : (s.lane l).state = .retryWait := by simpa [hstall] using hst
    obtain ⟨v, hlane⟩ := State.tellSkip_queue hretry hq
    refine ⟨s.tellSkip l, v, ?_, hlane, State.tellSkip_surroundings l, fun h => absurd h hstall⟩
    have hhead' : (s.tellSkip l).head l = some { h with actual := v } := State.head_of_queue (by rw [hlane])
    simp only [State.skipStep, hhead]
    rw [if_neg hstall, if_pos hretry, hhead']
    rfl

/-- Settles O42: both requests by the state of the lane. -/
theorem skipAndRetry : Obligations.SkipAndRetry := by
  refine fun q lane l s hq hpay hl => ⟨fun hp => ⟨serve_asHolder_foreign hq hpay hl hp, serve_asHolder_foreign hq hpay hl hp⟩,
    fun hp => ⟨fun hst => serve_asHolder_own hq hpay hl hp ?skipRefused, fun hst =>
      serve_asHolder_own hq hpay hl hp ?retryRefused, fun h rest hqueue =>
      ⟨fun hst => serve_asHolder_own hq hpay hl hp ?retried, fun hst => ?skipped⟩⟩⟩
  case skipRefused =>
    simp only [List.mem_cons, List.not_mem_nil, or_false, not_or] at hst
    unfold State.skipStep
    split
    · rfl
    · rw [if_neg hst.1, if_neg hst.2]
  case retryRefused =>
    unfold State.retryStep
    split
    · rfl
    · rw [if_neg hst]
  case retried =>
    have hret : s.retryStep l = ((s.modHead l (fun t => { t with
        triesUsed := 0, result := .none, endTime := none, status := .queued })).modLane l LaneRec.toReady).say .ok (be 2 h.id) := by
      simp only [State.retryStep, State.head_of_queue hqueue]
      rw [if_pos hst]
    rw [hret]
    cases l <;> simp only [State.modHead, State.modLane, hqueue, modFirst] <;> rfl
  case skipped =>
    obtain ⟨u, v, hskip, hlane, hsurr, hsame⟩ := State.skipStep_taken hqueue hst
    have hsettled (hs : s.settled = true) := State.skipStep_settled hs l
    rw [hskip] at hsettled
    have hfinal := u.removeHead_lane l { h with actual := v }
    rw [hlane, State.now_of_surroundings hsurr] at hfinal
    obtain ⟨hkept, hretry, hlast, hafter⟩ := LaneRec.advance_keeps { ({ s.lane l with
      queue := { h with actual := v } :: rest } : LaneRec).quiet with
      queue := rest, last := some { step := { h with actual := v, status := .failed, endTime := some s.now }, manner := .skipped } }
      false
    refine ⟨u.removeHead l { h with actual := v }, serve_asHolder_own hq hpay hl hp hskip,
      (State.removeHead_surroundings _ _).trans hsurr, hsettled, ?_, ?_, ?_, ?_, ?_,
      ⟨{ h with actual := v, status := .failed, endTime := some s.now }, ?_, rfl, rfl, rfl, rfl, rfl⟩, fun hstall => ?_⟩
    · rw [hfinal]; exact hkept
    · rw [hfinal]; exact hretry
    · rw [hfinal]; exact hafter rfl
    · rw [hfinal]; exact (LaneRec.advance_state _ _).trans rfl
    · rintro rfl; exact State.removeHead_record _ _
    · rw [hfinal]; exact hlast
    · obtain rfl := hsame hstall
      have hapart := State.removeHead_apart u l { h with actual := v }
      exact ⟨(State.guard_of_apart hapart).trans (by cases l <;> rfl), (State.softener_of_apart hapart).trans (by cases l <;> rfl),
        (State.door_of_apart hapart).trans (by cases l <;> rfl), State.removeHead_ports _ _ _⟩

end Sys2Proof.Machine
end

-- ==== POST STEP (R70 to R72) ====
section
namespace Sys2Proof.Machine

/-! ### A free id (R71) -/

/-- R71: the id that is `k` steps after an id. -/
def idAhead : Nat → Nat → Nat
  | 0, id => id
  | k + 1, id => idAhead k (idAfter id)

/-- R71: an id that the search ends with in vain is one of the queue, with all it has passed. -/
theorem freeId_taken {queue : List StepRec} {fuel id : Nat} (h : ∃ x ∈ queue, x.id = freeId queue fuel id) :
    ∀ k ≤ fuel, ∃ x ∈ queue, x.id = idAhead k id := by
  induction fuel generalizing id with
  | zero =>
    intro k hk
    obtain rfl : k = 0 := by omega
    exact h
  | succ fuel ih =>
    unfold freeId at h
    split at h
    next hany =>
      intro k hk
      cases k with
      | zero => simpa [idAhead] using hany
      | succ k => exact ih h k (by omega)
    next hnone =>
      obtain ⟨x, hx, hid⟩ := h
      exact absurd (by simpa using ⟨x, hx, hid⟩) hnone

/-- R71: the ids after an id. -/
theorem idAhead_eq {id k : Nat} (hk : k ≤ 8) :
    idAhead k id = if 65535 < id ∨ id + k ≤ 65535 then id + k else id + k - 65535 := by
  induction k generalizing id with
  | zero =>
    rw [idAhead, if_pos (by omega), Nat.add_zero]
  | succ k ih =>
    rw [idAhead, ih (by omega), idAfter]
    (repeat' split) <;> omega

/-- A list without repetitions is no longer than a list that holds its elements. -/
theorem length_le_of_nodup_subset {l l' : List Nat} (hnodup : l.Nodup) (h : l ⊆ l') : l.length ≤ l'.length := by
  induction l generalizing l' with
  | nil => exact Nat.zero_le _
  | cons a l ih =>
    obtain ⟨hnotin, hrest⟩ := List.nodup_cons.mp hnodup
    have ha : a ∈ l' := h List.mem_cons_self
    have hsub : l ⊆ l'.erase a := fun b hb =>
      (List.mem_erase_of_ne fun hba => hnotin (by rw [← hba]; exact hb)).mpr (h (List.mem_cons_of_mem _ hb))
    have hshort := ih hrest hsub
    have hpos := List.length_pos_of_mem ha
    rw [List.length_erase_of_mem ha] at hshort
    rw [List.length_cons]
    omega

/-- R71: fewer than 8 steps do not hold all of nine ids. -/
theorem freeId_free {queue : List StepRec} {id : Nat} (h : queue.length < 8) : ∀ x ∈ queue, x.id ≠ freeId queue 8 id := by
  intro x hx hid
  have htaken := freeId_taken ⟨x, hx, hid⟩
  have hsub : (List.range 9).map (fun k => idAhead k id) ⊆ queue.map StepRec.id := by
    intro v hv
    obtain ⟨k, hk, rfl⟩ := List.mem_map.mp hv
    obtain ⟨y, hy, hyid⟩ := htaken k (by simpa [Nat.lt_succ_iff] using hk)
    exact List.mem_map.mpr ⟨y, hy, hyid⟩
  have hnodup : ((List.range 9).map (fun k => idAhead k id)).Nodup := by
    refine List.pairwise_map.mpr (List.nodup_range.imp_of_mem fun {a b} ha hb hne => ?_)
    have ha := List.mem_range.mp ha
    have hb := List.mem_range.mp hb
    rw [idAhead_eq (by omega), idAhead_eq (by omega)]
    (repeat' split) <;> omega
  have := length_le_of_nodup_subset hnodup hsub
  simp at this
  omega

theorem freeId_next {queue : List StepRec} {id : Nat} (h : ∀ x ∈ queue, x.id ≠ id) : freeId queue 8 id = id := by
  rw [freeId, if_neg]
  simpa using h

/-! ### The answer (R70, R72) -/

theorem State.postedWork_eq_none {s : State} {l : Lane} {payload : List Byte}
    (h : byteAt payload 2 < 1 ∨ 4 < byteAt payload 2 ∨ 36000 < fieldAt payload 4 2 ∨ workOf payload = none
      ∨ ∃ w, workOf payload = some w ∧ (w.lane ≠ l ∨ s.aboveTub w = true ∨ s.needsAbsent w = true)) :
    s.postedWork l payload = none := by
  unfold State.postedWork
  split
  · rfl
  next w hw =>
    refine if_neg ?_
    rintro ⟨hlane, hlo, hhi, hlimit, htub, hfit⟩
    rcases h with h | h | h | h | ⟨w', hw', h⟩
    · omega
    · omega
    · omega
    · exact nomatch h.symm.trans hw
    · cases hw'.symm.trans hw
      simp [hlane, htub, hfit] at h

theorem State.postedWork_eq_some {s : State} {l : Lane} {payload : List Byte} {w : Work} (hw : workOf payload = some w)
    (hlane : w.lane = l) (hlo : 1 ≤ byteAt payload 2) (hhi : byteAt payload 2 ≤ 4) (hlimit : fieldAt payload 4 2 ≤ 36000)
    (htub : s.aboveTub w = false) (hfit : s.needsAbsent w = false) : s.postedWork l payload = some w := by
  simp only [State.postedWork, hw]
  exact if_pos ⟨hlane, hlo, hhi, hlimit, htub, hfit⟩

theorem LaneRec.post_eq (r : LaneRec) (id : Nat) (t : StepRec) : r.post id t = { r with
    queue := r.queue ++ [t], nextId := if id = 65535 then 1 else id + 1,
    state := if r.state = .idle then .ready else r.state, waitCause := if r.state = .idle then none else r.waitCause,
    attemptDue := !decide (r.state = .idle) && r.attemptDue } := by
  unfold LaneRec.post
  by_cases h : r.state = .idle
  · simp [h, LaneRec.toReady, idAfter]
  · simp [h, idAfter]

section
variable {q : Request} {lane kind tries flags l1 l0 p6 p7 p8 p9 : Byte} {l : Lane} {s : State}

theorem exec_postStep_refused (hq : s.hands q .lane 10) (hpay : q.payload = [lane, kind, tries, flags, l1, l0, p6, p7, p8, p9])
    (hl : laneOf lane.toNat = some l) (hflags : flags ≤ 3) (hbytes : stepBytesOk q.payload = true) {u : State} {status : Status}
    {payload : List Byte} (ha : (if (s.lane l).holder = some q.port then s.postStep q.payload l else s.say .notHolder) =
      u.say status payload) : exec (.postStep q) s = .next (u.reply q status payload) := by
  refine serve_handed_say hq ?_
  have hok : postBytesOk q.payload = true := by
    rw [postBytesOk, hbytes, Bool.and_true, decide_eq_true_iff, hpay]
    exact hflags
  have hlane : laneOf (byteAt q.payload 0) = some l := by rw [hpay]; exact hl
  rw [if_pos hok, asHolder, withNamedLane, hlane]
  exact ha

end

/-- Settles O36: the refusals in their order, and the step that joins the tail. -/
theorem postStep : Obligations.PostStep := by
  intro q s lane kind tries flags l1 l0 p6 p7 p8 p9 l hq hpay hl hflags hbytes
  have hexec {u : State} {status : Status} {payload : List Byte} (ha : (if (s.lane l).holder = some q.port then
      s.postStep q.payload l else s.say .notHolder) = u.say status payload) :=
    exec_postStep_refused hq hpay hl hflags hbytes ha
  have htries : byteAt q.payload 2 = tries.toNat := by rw [hpay]; rfl
  have hlimit : fieldAt q.payload 4 2 = (l1 ++ l0).toNat := by
    rw [hpay, toNat_append_byte]
    change (0 * 256 + l1.toNat) * 256 + l0.toNat = _
    omega
  refine ⟨fun hp => hexec (if_neg hp), fun hp hopen => hexec ((if_pos hp).trans ?_), fun hp hlocked => ⟨fun hbad =>
    hexec ((if_pos hp).trans ?_), fun w hw hlane hlo hhi hlim htub hfit => ?_⟩⟩
  · simp only [State.postStep, hopen]
    rfl
  · have hnone : s.postedWork l q.payload = none := by
      refine State.postedWork_eq_none ?_
      rw [htries, hlimit]
      exact hbad
    simp only [State.postStep, hlocked, hnone]
    rfl
  · have hwork := State.postedWork_eq_some hw hlane (htries ▸ hlo) (htries ▸ hhi) (hlimit ▸ hlim) htub hfit
    have hpost : s.postStep q.payload l =
        if 8 ≤ (s.lane l).queue.length then s.say .queueFull else s.acceptStep l w q.payload := by
      simp only [State.postStep, hlocked, hwork]
      rfl
    refine ⟨fun hfull => hexec ((if_pos hp).trans (hpost.trans (if_pos hfull))), fun hroom =>
      ⟨freeId (s.lane l).queue 8 (s.lane l).nextId, freeId_free hroom, freeId_next, ?_⟩⟩
    refine hexec ((if_pos hp).trans (hpost.trans ((if_neg (by omega)).trans ?_)))
    simp only [State.acceptStep, State.modLane, LaneRec.post_eq, htries, hlimit]
    have hflag : byteAt q.payload 3 = flags.toNat := by rw [hpay]; rfl
    have hlen (r : LaneRec) : ((s.withLane l r).lane l).queue = r.queue := by cases l <;> rfl
    rw [hflag, hlen, List.length_append]
    rfl

end Sys2Proof.Machine
end

-- ==== FLUSH LANE (R84, R121, R150) ====
section
namespace Sys2Proof.Machine

/-! ### The next id of a lane, which only POST STEP changes (R71) -/

theorem State.modLane_nextId (s : State) (k l : Lane) {f : LaneRec → LaneRec} (hf : ∀ r, (f r).nextId = r.nextId) :
    ((s.modLane k f).lane l).nextId = (s.lane l).nextId := by
  cases k <;> cases l <;> first | exact hf _ | rfl

@[simp] theorem LaneRec.advance_nextId (r : LaneRec) (hold : Bool) : (r.advance hold).nextId = r.nextId := by
  unfold LaneRec.advance
  (repeat' split) <;> rfl

theorem State.nextId_of_engine {s t : State} (h : t.engine = s.engine) (l : Lane) : (t.lane l).nextId = (s.lane l).nextId := by
  rw [State.lane, h, State.lane]

@[simp] theorem State.releaseExclusion_nextId (s : State) (l : Lane) : (s.releaseExclusion.lane l).nextId = (s.lane l).nextId := by
  have hrelease (u : State) (k : Lane) : ((u.releaseLane k).lane l).nextId = (u.lane l).nextId := by
    unfold State.releaseLane
    split
    · exact State.modLane_nextId u k l fun _ => rfl
    · rfl
  rw [State.releaseExclusion, hrelease, hrelease]

@[simp] theorem State.concludeSuccess_nextId (s : State) (k : Lane) (flags : ResultFlags) (l : Lane) :
    ((s.concludeSuccess k flags).lane l).nextId = (s.lane l).nextId := by
  have href (u : State) (t : StepRec) : ((u.setRefFrom t).lane l).nextId = (u.lane l).nextId := by
    rw [State.lane, State.setRefFrom_lanes, State.lane]
  unfold State.concludeSuccess
  split
  · rfl
  · dsimp only
    split <;> simp only [State.releaseExclusion_nextId, State.nextId_of_engine (State.raiseStep_engine _ _ _),
      State.nextId_of_engine (State.dropDose_engine _ _), href] <;>
      exact State.modLane_nextId _ _ _ fun _ => LaneRec.advance_nextId _ _

@[simp] theorem State.failForGood_nextId (s : State) (k : Lane) (r : StepResult) (l : Lane) :
    ((s.failForGood k r).lane l).nextId = (s.lane l).nextId := by
  unfold State.failForGood
  split
  · rfl
  · simp only [State.releaseExclusion_nextId, State.nextId_of_engine (State.raiseStep_engine _ _ _)]
    exact State.modLane_nextId _ _ _ fun _ => rfl

@[simp] theorem State.modHead_nextId (s : State) (k : Lane) (f : StepRec → StepRec) (l : Lane) :
    ((s.modHead k f).lane l).nextId = (s.lane l).nextId := State.modLane_nextId s k l fun _ => rfl

@[simp] theorem State.concludeCounted_nextId (s : State) (k : Lane) (r : StepResult) (l : Lane) :
    ((s.concludeCounted k r).lane l).nextId = (s.lane l).nextId := by
  unfold State.concludeCounted
  dsimp only
  split
  · rfl
  · split
    · refine (State.modLane_nextId _ k l ?_).trans (State.modHead_nextId s k _ l)
      exact fun _ => rfl
    · rw [State.failForGood_nextId, State.modHead_nextId]

theorem State.autoOpenHeater_nextId (s : State) (l : Lane) : (s.autoOpenHeater.lane l).nextId = (s.lane l).nextId := by
  unfold State.autoOpenHeater
  (repeat' split)
  · rfl
  · rfl
  · rw [State.concludeSuccess_nextId, State.modHead_nextId]
  · exact State.concludeCounted_nextId _ _ _ _
  · exact State.failForGood_nextId _ _ _ _
  · rw [State.nextId_of_engine (State.rodHandOver_engine _)]
    exact State.modLane_nextId _ _ _ fun _ => rfl
  · rfl

theorem State.outputEvent_nextId (s : State) (o : Output) (on : Bool) (l : Lane) :
    ((s.outputEvent o on).lane l).nextId = (s.lane l).nextId := by
  cases o
  case inlet =>
    unfold State.outputEvent
    dsimp only
    split
    · rw [State.lane, State.inletOpening_lanes]; rfl
    · rw [State.lane, State.inletClosing_lanes]; rfl
  case heater =>
    unfold State.outputEvent State.heaterEvent
    dsimp only
    split
    · rw [State.lane, State.extendGuard_lanes]
      exact State.autoOpenHeater_nextId _ l
    · exact State.autoOpenHeater_nextId _ l
  case doseD => exact State.nextId_of_engine (State.modDose_engine _ _) l
  case doseR => exact State.nextId_of_engine (State.modDose_engine _ _) l
  all_goals rfl

@[simp] theorem State.evaluate_nextId (s : State) (l : Lane) : (s.evaluate.lane l).nextId = (s.lane l).nextId :=
  State.evaluate_keeps (fun u => (u.lane l).nextId) (fun _ _ => rfl) (fun u o on => State.outputEvent_nextId u o on l) s

@[simp] theorem State.withdrawAll_nextId (s : State) (src : Source) (l : Lane) :
    ((s.withdrawAll src).lane l).nextId = (s.lane l).nextId := by
  rw [State.withdrawAll, State.evaluate_nextId, State.nextId_of_engine (State.putDemands_lanes _ _ _ _)]

@[simp] theorem State.tellTryEnd_nextId (s : State) (k l : Lane) : ((s.tellTryEnd k).lane l).nextId = (s.lane l).nextId := by
  unfold State.tellTryEnd
  (repeat' split)
  · rfl
  · unfold State.abandonRegen
    split
    · rfl
    · exact State.withdrawAll_nextId s .softener l
  · exact State.nextId_of_engine s.rodTryEnd_engine l
  · cases l with
    | water => rw [State.doseTryEnd_water]
    | dose =>
      obtain ⟨f, -, heq⟩ := s.doseTryEnd_dose
      rw [heq]
  all_goals rfl

@[simp] theorem State.tryEnd_nextId (s : State) (k l : Lane) : ((s.tryEnd k).lane l).nextId = (s.lane l).nextId := by
  have htold := State.tellTryEnd_nextId (s.withdrawAll k.source) k l
  rw [State.withdrawAll_nextId] at htold
  cases k
  · exact htold
  · exact htold

/-! ### The abandoned regeneration (R113, R121) -/

/-- The Softener apart from what an inlet opening and closing change of it during a regeneration. -/
def Softener.steady (f : Softener) : Softener := { f with exempt := 0, noFlow := none }

theorem State.startNoFlow_steady (s : State) : s.startNoFlow.softener.steady = s.softener.steady := by
  unfold State.startNoFlow
  dsimp only
  (repeat' split) <;> rfl

theorem State.strayClosing_softener (s : State) : s.strayClosing.softener = s.softener := by
  unfold State.strayClosing; split <;> rfl

theorem State.cycleEvent_softener (s : State) (f : CycleRec → CycleRec) : (s.cycleEvent f).softener = s.softener := by
  unfold State.cycleEvent; split <;> rfl

theorem State.stopNoFlow_steady (s : State) : s.stopNoFlow.softener.steady = s.softener.steady := rfl

theorem State.softenerClosing_steady {s : State} (h : s.softener.phase ≠ .none) (n : Nat) :
    (s.softenerClosing n).softener.steady = s.softener.steady := by
  rw [State.softenerClosing, if_neg h]
  rfl

/-- R113: an inlet closing during a regeneration debits nothing. -/
theorem State.inletClosing_steady {s : State} (h : s.softener.phase ≠ .none) :
    s.inletClosing.softener.steady = s.softener.steady := by
  have hmark : (s.modTime (fun t => { t with mark := t.flow })).softener = s.softener := rfl
  unfold State.inletClosing
  dsimp only
  rw [State.stopNoFlow_steady, State.strayClosing_softener, State.cycleWater, State.cycleEvent_softener,
    State.softenerClosing_steady (by rwa [hmark]), hmark]

theorem State.outputEvent_steady {s : State} (h : s.softener.phase ≠ .none) (o : Output) (on : Bool) :
    (s.outputEvent o on).softener.steady = s.softener.steady := by
  by_cases ho : o = .inlet
  · subst ho
    unfold State.outputEvent
    dsimp only
    split
    · exact State.startNoFlow_steady _
    · exact State.inletClosing_steady (s := s.checkOutput .inlet on) h
  · rw [(s.outputEvent_waterless ho on).2.1]

theorem State.phase_of_steady {s t : State} (h : t.softener.steady = s.softener.steady) : t.softener.phase = s.softener.phase :=
  (congrArg Softener.phase h :)

theorem State.evaluate_steady {s : State} (h : s.softener.phase ≠ .none) : s.evaluate.softener.steady = s.softener.steady :=
  (State.evaluate_keeps_of (fun u => u.softener.steady) (fun u => u.softener.phase ≠ .none) (fun _ _ hu => ⟨hu, rfl⟩)
    (fun u o on hu => by
      have hsteady := State.outputEvent_steady hu o on
      exact ⟨by rwa [State.phase_of_steady hsteady], hsteady⟩) s h).2

theorem State.putDemands_keeps {α : Type} (f : State → α) (hf : ∀ u src v o, f (State.putDemand u src v o) = f u) (s : State)
    (src : Source) (v : Bool) (os : List Output) : f (s.putDemands src v os) = f s := by
  unfold State.putDemands
  induction os generalizing s with
  | nil => rfl
  | cons o os ih => rw [List.foldl_cons, ih, hf]

theorem State.withdrawAll_steady {s : State} (h : s.softener.phase ≠ .none) (src : Source) :
    (s.withdrawAll src).softener.steady = s.softener.steady := by
  have hput := State.putDemands_keeps State.softener (fun _ _ _ _ => rfl) s src false Output.evalOrder
  rw [State.withdrawAll, State.evaluate_steady (by rwa [hput]), hput]

theorem State.abandoned_congr {s s' t : State} (h : s'.softener.steady = s.softener.steady) (ht : s'.abandoned t) :
    s.abandoned t := by
  refine ⟨ht.1, ht.2.trans ?_⟩
  exact congrArg (fun f : Softener => { f with
    phase := .none, brine := 0, soak := 0, rinse := 0, noFlow := none, exempt := (t.time.flow - t.time.mark).toNat }) h

theorem State.abandoned_of {s t t' : State} (ht : s.abandoned t) (hg : t'.guardCore = t.guardCore)
    (hs : t'.softener = t.softener) (htime : t'.time = t.time) : s.abandoned t' := by
  refine ⟨fun o => (State.demands_of_guardCore hg o _).trans (ht.1 o), ?_⟩
  rw [hs, htime, ht.2]

/-- R121: what an abandoned regeneration leaves. -/
theorem State.abandonRegen_abandoned {s : State} (h : s.softener.phase ≠ .none) : s.abandoned s.abandonRegen := by
  have hsteady := State.withdrawAll_steady h .softener
  have heq : s.abandonRegen = (s.withdrawAll .softener).withSoftener { (s.withdrawAll .softener).softener with
      phase := .none, exempt := (s.withdrawAll .softener).pendingCount, brine := 0, soak := 0, rinse := 0, noFlow := none } := by
    rw [State.abandonRegen, if_neg h]
    rfl
  refine State.abandoned_congr hsteady ⟨fun o => ?_, by rw [heq]; rfl⟩
  rw [heq]
  exact (State.withdrawAll_demands s .softener .softener o).trans (if_pos rfl)

theorem State.tryEnd_water_eq (s : State) : s.tryEnd .water = ((s.withdrawAll .water).tellTryEnd .water).withEngine
    { ((s.withdrawAll .water).tellTryEnd .water).engine with fillNoFlow := none, waterDry := none } := rfl

theorem State.withdrawAll_head {s : State} (hstate : (s.lane .water).state ≠ .waiting) (src : Source) :
    (s.withdrawAll src).head .water = s.head .water := by
  rw [State.head, State.lane_eq_of_lanes .water (State.withdrawAll_lanes s src (State.autoOpenWaits_of_state s hstate)), State.head]

/-- R76 and R121: the end of a try of a REGENERATE abandons its regeneration. -/
theorem State.tryEnd_abandoned {s : State} {h : StepRec} {force : Bool} (hstate : (s.lane .water).state ≠ .waiting)
    (hh : s.head .water = some h) (hw : h.work = .regenerate force) (hphase : s.softener.phase ≠ .none) :
    s.abandoned (s.tryEnd .water) := by
  have hsteady := State.withdrawAll_steady hphase .water
  have hhead := (State.withdrawAll_head hstate .water).trans hh
  have htold : (s.withdrawAll .water).tellTryEnd .water = (s.withdrawAll .water).abandonRegen := by
    simp only [State.tellTryEnd, hhead, hw]
  have hab := State.abandonRegen_abandoned (s := s.withdrawAll .water) (by rwa [State.phase_of_steady hsteady])
  rw [State.tryEnd_water_eq, htold]
  exact State.abandoned_of (State.abandoned_congr hsteady hab) rfl rfl rfl

end Sys2Proof.Machine
end

-- ==== FLUSH LANE and the errand of an AUTO_OPEN (R84, R150) ====
section
namespace Sys2Proof.Machine

/-! ### Evaluations that leave the Door Unit alone (R39, R107, R146) -/

theorem State.giveEvents_keeps_of {α : Type} (f : State → α) (P : State → Prop) {s t : State} {os : List Output}
    (he : ∀ u, ∀ o ∈ os, s.energised o ≠ t.energised o → P u →
      P (u.outputEvent o (t.energised o)) ∧ f (u.outputEvent o (t.energised o)) = f u)
    (u : State) (hu : P u) : f (s.giveEvents t os u) = f u := by
  unfold State.giveEvents
  induction os generalizing u with
  | nil => rfl
  | cons o os ih =>
    rw [List.foldl_cons]
    split
    next => exact ih (fun u k hk => he u k (List.mem_cons_of_mem _ hk)) u hu
    next h =>
      obtain ⟨hP, hf⟩ := he u o List.mem_cons_self h hu
      exact (ih (fun u k hk => he u k (List.mem_cons_of_mem _ hk)) _ hP).trans hf

theorem State.settleOutputs_lanes (s : State) : s.settleOutputs.engine.lanes = s.engine.lanes :=
  State.settleOutputs_keeps (fun u => u.engine.lanes) (fun _ _ => rfl) s

/-- R107 and R146: an evaluation that does not energise HEATER, with no AUTO_OPEN in a start wait, leaves the Door Unit alone. -/
theorem State.evaluate_door {s : State} (hw : s.autoOpenWaits = false)
    (hoff : s.changes .heater → s.settleOutputs.energised .heater = false) : s.evaluate.door = s.door := by
  rw [State.evaluate_eq, State.giveEvents_keeps_of State.door (fun u => u.autoOpenWaits = false) (fun u o _ hne hu => ?_) _
    ((State.autoOpenWaits_congr s.settleOutputs_lanes).trans hw), State.settleOutputs_keeps State.door (fun _ _ => rfl)]
  refine ⟨(State.autoOpenWaits_congr (State.outputEvent_lanes u o _ hu)).trans hu, ?_⟩
  by_cases ho : o = .heater
  · subst ho
    rw [hoff hne]
    exact (congrArg State.door (State.autoOpenHeater_of_not (u.checkOutput .heater false) hu) :)
  · exact State.outputEvent_door u ho _

/-! ### Fewer demands energise no more (R34, R36) -/

theorem DemandSet.any_iff (d : DemandSet) : d.any = true ↔ ∃ src, d.has src = true := by
  constructor
  · intro h
    refine Classical.byContradiction fun hno => ?_
    rw [not_exists] at hno
    have hw := hno .water
    have hd := hno .dose
    have hsf := hno .softener
    have ha := hno .action
    have ht := hno .test
    have hf := hno .forced
    simp only [DemandSet.has] at hw hd hsf ha ht hf
    simp [DemandSet.any, DemandSet.anyButDose, hw, hd, hsf, ha, ht, hf] at h
  · rintro ⟨src, h⟩
    cases src <;> simp only [DemandSet.has] at h <;> simp [DemandSet.any, DemandSet.anyButDose, h]

theorem State.putDemands_any {s : State} {src : Source} {os : List Output} {o : Output}
    (h : ((s.putDemands src false os).out o).demands.any = true) : (s.out o).demands.any = true := by
  rw [DemandSet.any_iff] at h ⊢
  obtain ⟨src', h⟩ := h
  refine ⟨src', ?_⟩
  have hput := State.putDemands_demands s src src' false os o
  split at hput
  · exact absurd h (by rw [← State.demands, hput]; decide)
  · exact hput.symm.trans h

/-- R36: the terms of CIRC that no demand touches. -/
def State.circTerms (s : State) : Bool := s.supplyReady && s.doorClosed && !s.guard.flood && !s.guard.latched

theorem State.circ_of_settled {s : State} (h : s.settled = true) :
    s.energised .circ = ((s.out .circ).demands.any && s.circTerms) := State.settled_iff.mp h .circ

/-- R36: the terms of HEATER that no demand touches. -/
def State.heaterTerms (s : State) : Bool := s.doorClosed && s.levelWet && s.tempBelowCutoff && !s.guard.flood

theorem State.heater_of_settled {s : State} (h : s.settled = true) : s.energised .heater = ((s.out .heater).demands.any
    && (s.supplyReady && s.store.configured && !s.guard.latched) && s.energised .circ && s.heaterTerms) := by
  rw [State.settled_iff.mp h .heater]
  change ((s.out .heater).demands.any && (s.energised .mainsRelay && s.doorClosed && s.levelWet && s.energised .circ
    && s.tempBelowCutoff && !s.guard.flood)) = _
  rw [State.relay_of_settled h, State.heaterTerms]
  ac_rfl

section
variable {s t : State} (h : t.surroundings = s.surroundings)
include h

theorem State.supplyReady_congr : t.supplyReady = s.supplyReady :=
  congrArg (fun u : Surroundings => decide (u.supply = .ready)) h

theorem State.reads_congr (i : Input) : t.reads i = s.reads i :=
  congrArg (fun u : Surroundings => ((u.inputs.get i).accepted).getD i.unsettledLevel) h

theorem State.circTerms_congr : t.circTerms = s.circTerms := by
  have hlatched : t.guard.latched = s.guard.latched := congrArg Surroundings.latched h
  have hflood : t.guard.flood = s.guard.flood := congrArg Surroundings.flood h
  rw [State.circTerms, State.supplyReady_congr h, State.doorClosed, State.reads_congr h, hlatched, hflood]
  rfl

theorem State.heaterTerms_congr : t.heaterTerms = s.heaterTerms := by
  have hflood : t.guard.flood = s.guard.flood := congrArg Surroundings.flood h
  have htemp : t.sampler.temp = s.sampler.temp := congrArg Surroundings.temp h
  have hcutoff : t.heaterCutoff = s.heaterCutoff := congrArg (fun u : Surroundings => u.settings.getD (18 - 1) 0) h
  rw [State.heaterTerms, State.doorClosed, State.levelWet, State.reads_congr h, State.reads_congr h, State.tempBelowCutoff, htemp,
    hcutoff, hflood]
  rfl

/-- R36: in the same surroundings, with no more demands, HEATER is energised only where it was. -/
theorem State.heater_mono (hs : s.settled = true) (ht : t.settled = true)
    (hd : ∀ o, (t.out o).demands.any = true → (s.out o).demands.any = true) (he : t.energised .heater = true) :
    s.energised .heater = true := by
  have hlocked : t.store.configured = s.store.configured := congrArg Surroundings.configured h
  have hlatched : t.guard.latched = s.guard.latched := congrArg Surroundings.latched h
  rw [State.heater_of_settled ht, State.circ_of_settled ht, State.supplyReady_congr h, hlocked, hlatched, State.circTerms_congr h,
    State.heaterTerms_congr h] at he
  rw [State.heater_of_settled hs, State.circ_of_settled hs]
  simp only [Bool.and_eq_true] at he ⊢
  obtain ⟨⟨⟨hheat, hrelay⟩, hcirc, hterms⟩, hterm⟩ := he
  exact ⟨⟨⟨hd _ hheat, hrelay⟩, hd _ hcirc, hterms⟩, hterm⟩

end

/-- R35 and R146: a withdrawal from settled outputs energises no HEATER, and so leaves the Door Unit alone. -/
theorem State.withdrawAll_door {s : State} (hs : s.settled = true) (hw : s.autoOpenWaits = false) (src : Source) :
    (s.withdrawAll src).door = s.door := by
  have hput := State.putDemands_keeps State.door (fun _ _ _ _ => rfl) s src false Output.evalOrder
  refine (State.evaluate_door ?_ fun hch => ?_).trans hput
  · refine (State.autoOpenWaits_congr ?_).trans hw
    rw [State.putDemands_lanes]
  · rw [← Bool.not_eq_true]
    intro hon
    have hbefore : s.energised .heater = true := by
      refine State.heater_mono ((State.settleOutputs_surroundings _).trans (State.putDemands_surroundings _ _ _ _)) hs
        (State.settleOutputs_settled _) (fun o ho => ?_) hon
      rw [State.settleOutputs_outDemands] at ho
      exact State.putDemands_any ho
    refine hch ?_
    rw [hon]
    exact (State.putDemands_keeps (fun u => u.energised .heater) (fun u _ _ o => by cases o <;> rfl) s src false _).trans hbefore

/-! ### The errand of an AUTO_OPEN whose try ends (R150) -/

section
variable {s : State} (he : s.door.errand = .opening)
include he

theorem State.rodTryEnd_jammed (h : s.door.rod = .jammed) : s.rodTryEnd = s := by
  simp only [State.rodTryEnd, he, h]
  rfl

theorem State.rodTryEnd_home (h : s.door.rod = .home) :
    s.rodTryEnd.door = { s.door with errand := .none, cause := none, supplyHold := false } := by
  rw [State.rodTryEnd, if_neg (Classical.not_not.mpr he), h]
  rfl

/-- R150: a rod away from home: its errand is a homing one; an extension or a hold is cut. -/
theorem State.rodTryEnd_away (h : s.door.rod ∈ [RodState.extending, .holding, .braking, .retracting]) : s.rodTryEnd =
    let s1 := s.modDoor (fun d =>
      { d with extendTimer := none, holdTimer := none, report := .none, errand := .homing, cause := some .tryEnd,
               nextMove := if d.nextMove = .extend then .retract else d.nextMove })
    if s.door.supplyHold then
      if s.supplyReady then s1.modDoor (fun d => d.towardHome s.now) else s1
    else if s.door.rod = .extending ∨ s.door.rod = .holding then s1.modDoor (fun d => d.brakeToward s.now .retract .none)
    else s1 := by
  simp only [List.mem_cons, List.not_mem_nil, or_false] at h
  rcases h with h | h | h | h <;> simp only [State.rodTryEnd, he, h, ne_eq, not_true_eq_false, if_false]

theorem State.rodTryEnd_cut (h : s.door.rod ∈ [RodState.extending, .holding]) (hold : s.door.supplyHold = false) :
    s.rodTryEnd.door = { s.door with
      rod := .braking, drive := .brake, errand := .homing, cause := some .tryEnd, nextMove := .retract, report := .none,
      extendTimer := none, holdTimer := none, deadTimer := s.timer 50 } := by
  have hcut : s.door.rod = .extending ∨ s.door.rod = .holding := by simpa using h
  rw [State.rodTryEnd_away he (by rcases hcut with h | h <;> simp [h])]
  dsimp only
  rw [if_neg (by rw [hold]; decide), if_pos hcut]
  rfl

theorem State.rodTryEnd_moving (h : s.door.rod ∈ [RodState.braking, .retracting]) (hold : s.door.supplyHold = false) :
    s.rodTryEnd.door = { s.door with
      errand := .homing, cause := some .tryEnd, report := .none, extendTimer := none, holdTimer := none,
      nextMove := if s.door.nextMove = .extend then .retract else s.door.nextMove } := by
  have hmove : s.door.rod = .braking ∨ s.door.rod = .retracting := by simpa using h
  have hcut : ¬ (s.door.rod = .extending ∨ s.door.rod = .holding) := by rcases hmove with h | h <;> simp [h]
  rw [State.rodTryEnd_away he (by rcases hmove with h | h <;> simp [h])]
  dsimp only
  rw [if_neg (by rw [hold]; decide), if_neg hcut]
  rfl

theorem State.rodTryEnd_held (h : s.door.rod = .braking) (hold : s.door.supplyHold = true) :
    s.rodTryEnd.door = if s.supplyReady then { s.door with
        errand := .homing, cause := some .tryEnd, report := .none, extendTimer := none, holdTimer := none,
        supplyHold := false, drive := .brake, nextMove := .retract, deadTimer := s.timer 50 }
      else { s.door with
        errand := .homing, cause := some .tryEnd, report := .none, extendTimer := none, holdTimer := none,
        nextMove := if s.door.nextMove = .extend then .retract else s.door.nextMove } := by
  rw [State.rodTryEnd_away he (by simp [h])]
  dsimp only
  rw [if_pos hold]
  split
  · simp only [State.modDoor, DoorUnit.towardHome, ← h]
    rfl
  · rfl

end

/-- R150: the end of the try reads of the rest of the part the supply and the clock alone. -/
theorem State.rodTryEnd_congr {s t : State} (hd : t.door = s.door) (hr : t.supplyReady = s.supplyReady) (hn : t.now = s.now) :
    t.rodTryEnd.door = s.rodTryEnd.door := by
  unfold State.rodTryEnd
  rw [hd, hr, hn]
  split
  · exact hd
  · split
    · exact hd
    · rw [State.modDoor, hd]; rfl
    all_goals
      split
      · split <;> simp only [State.modDoor, hd] <;> rfl
      · split <;> simp only [State.modDoor, hd] <;> rfl

/-- R76 and R150: the end of a try of an AUTO_OPEN, from settled outputs, in the Door Unit. -/
theorem State.tryEnd_rod {s : State} {h : StepRec} (hs : s.settled = true) (hstate : (s.lane .water).state ≠ .waiting)
    (hh : s.head .water = some h) (hw : h.work = .autoOpen) : (s.tryEnd .water).door = s.rodTryEnd.door := by
  have hhead := (State.withdrawAll_head hstate .water).trans hh
  have htold : (s.withdrawAll .water).tellTryEnd .water = (s.withdrawAll .water).rodTryEnd := by
    simp only [State.tellTryEnd, hhead, hw]
  have hsurr := s.withdrawAll_surroundings .water
  rw [State.tryEnd_water_eq, htold]
  exact State.rodTryEnd_congr (State.withdrawAll_door hs (State.autoOpenWaits_of_state s hstate) .water)
    (State.supplyReady_congr hsurr) (State.now_of_surroundings hsurr)

/-! ### The answer to FLUSH LANE (R84) -/

/-- R84: the state in which the lane is emptied: its try in progress has ended. -/
def State.flushing (s : State) (l : Lane) : State :=
  if s.headActive l && (s.lane l).tryInProgress then s.tryEnd l else s

/-- R84: the part after a flush. -/
def State.flushed (s : State) (l : Lane) : State :=
  (((s.flushing l).modLane l (fun r => r.flushed ((s.flushing l).flushLast l))).dropDose l).releaseExclusion

theorem State.flushLane_eq (s : State) (l : Lane) :
    s.flushLane l = (s.flushed l).say .ok (numByte (s.lane l).queue.length) := rfl

theorem State.flushed_lane (s : State) (l : Lane) :
    (s.flushed l).lane l = ((s.flushing l).lane l).flushed ((s.flushing l).flushLast l) := by
  have hdrop (u : State) : (u.dropDose l).lane l = u.lane l := State.lane_eq_of_lanes l (by rw [State.dropDose_engine])
  rw [State.flushed, State.releaseExclusion_lane, hdrop, State.modLane_lane]
  rw [hdrop, State.modLane_lane]
  exact fun h => nomatch h

theorem State.flushed_apart (s : State) (l : Lane) : (s.flushed l).apart = ((s.flushing l).dropDose l).apart := by
  rw [State.flushed, State.releaseExclusion_apart]
  exact State.dropDose_apart_congr l rfl

theorem State.flushing_idle {s : State} {l : Lane} (h : s.headActive l = false) : s.flushing l = s := by
  rw [State.flushing, h]
  rfl

theorem State.flushLast_idle {s : State} {l : Lane} (h : s.headActive l = false) : s.flushLast l = (s.lane l).last := by
  unfold State.flushLast
  unfold State.headActive State.headIs at h
  split
  · rfl
  next t ht =>
    simp only [ht, decide_eq_false_iff_not] at h
    exact if_neg h

theorem LaneRec.tryInProgress_of_mem {r : LaneRec} (h : r.state ∈ [LaneState.running, .paused]) :
    r.tryInProgress = true ∧ r.state ≠ .waiting := by
  simp only [List.mem_cons, List.not_mem_nil, or_false] at h
  rcases h with h | h <;> simp [LaneRec.tryInProgress, LaneRec.inTry, h]

section
variable {s : State} {l : Lane} {h : StepRec} (hh : s.head l = some h) (hact : h.status = .active)
  (hst : (s.lane l).state ∈ [LaneState.running, .paused])
include hh hact hst

theorem State.flushing_try : s.flushing l = s.tryEnd l := by
  have hactive : s.headActive l = true := by simp [State.headActive, State.headIs, hh, hact]
  rw [State.flushing, hactive, (LaneRec.tryInProgress_of_mem hst).1]
  rfl

omit hact in
/-- R76: the end of a try leaves its head but for its actual value. -/
theorem State.tryEnd_head : ∃ v, (s.tryEnd l).head l = some { h with actual := v } := by
  obtain ⟨rest, hq⟩ := State.queue_of_head hh
  obtain ⟨-, hleaves⟩ := LaneRec.tryInProgress_of_mem hst
  cases l with
  | water => exact ⟨h.actual, by rw [State.head, State.tryEnd_water s hleaves]; exact hh⟩
  | dose =>
    obtain ⟨f, hf, heq⟩ := State.tryEnd_dose s hleaves
    obtain ⟨v, hv⟩ := hf h
    exact ⟨v, by rw [State.head, heq, hq, modFirst, hv]; rfl⟩

theorem State.flushLast_try : ∃ v, (s.flushing l).flushLast l = some { step := { h with
    actual := v, status := .failed, result := .flushed, endTime := some s.now }, manner := .flushed } := by
  obtain ⟨v, hv⟩ := State.tryEnd_head hh hst
  refine ⟨v, ?_⟩
  rw [State.flushing_try hh hact hst]
  simp only [State.flushLast, hv, State.tryEnd_now]
  rw [if_pos hact]

end

/-- Settles O43: the emptied lane, the end of the try, and what the Softener and the Door Unit make of it. -/
theorem flushEmptiesTheLane : Obligations.FlushEmptiesTheLane := by
  refine fun q lane l s hq hpay hl => ⟨fun hp => serve_asHolder_foreign hq hpay hl hp, fun hp => ⟨s.flushed l,
    serve_asHolder_own hq hpay hl hp (s.flushLane_eq l), State.flushLane_surroundings l, fun hs => State.flushLane_settled hs l,
    ?_⟩⟩
  have hlane := s.flushed_lane l
  have hapart := s.flushed_apart l
  have hguard : (s.flushed l).guard = (s.flushing l).guard := (State.guard_of_apart hapart).trans (by cases l <;> rfl)
  rw [hlane]
  refine ⟨rfl, rfl, rfl, rfl, rfl, rfl, rfl, rfl, ?_, ?_, fun hidle => ⟨?_, ?_⟩, fun h hh hact hst => ⟨fun o => ?_, ?_⟩,
    fun h hwater hh hact hst => ?_⟩
  · change ((s.flushing l).lane l).nextId = _
    unfold State.flushing
    split
    · exact State.tryEnd_nextId s l l
    · rfl
  · rintro rfl
    rw [State.dosing_of_apart hapart]
    rfl
  · change (s.flushing l).flushLast l = _
    rw [State.flushing_idle hidle, State.flushLast_idle hidle]
  · rw [hguard, State.flushing_idle hidle]
  · rw [State.demands_of_outs (congrArg Guard.outs hguard), State.flushing_try hh hact hst]
    exact State.tryEnd_withdraws s l o
  · obtain ⟨v, hv⟩ := State.flushLast_try hh hact hst
    exact ⟨_, hv, rfl, rfl, rfl, rfl, rfl⟩
  · subst hwater
    have hflushing := State.flushing_try hh hact hst
    have hleaves := (LaneRec.tryInProgress_of_mem hst).2
    rw [hflushing] at hapart
    refine ⟨fun force hw hphase => ?_, fun hw hs herrand => ?_⟩
    · exact State.abandoned_of (State.tryEnd_abandoned hleaves hh hw hphase) (congrArg State.guardCore hapart :)
        (State.softener_of_apart hapart) (State.time_of_apart hapart)
    · have hdoor : (s.flushed .water).door = s.rodTryEnd.door :=
        (State.door_of_apart hapart).trans (State.tryEnd_rod hs hleaves hh hw)
      rw [hdoor]
      exact ⟨fun hrod => by rw [State.rodTryEnd_jammed herrand hrod], State.rodTryEnd_home herrand, State.rodTryEnd_cut herrand,
        State.rodTryEnd_moving herrand, State.rodTryEnd_held herrand⟩

end Sys2Proof.Machine
end

-- ==== The start attempt before a try begins (R72 to R74) ====
section
namespace Sys2Proof.Machine

section
variable {s : State} {l : Lane} {h : StepRec} {rest : List StepRec}

/-- R72 and R74: the attempt of a READY lane that no due attempt of a FILL comes before. -/
theorem exec_startAttempt (hr : s.resetHeld = false) (hst : (s.lane l).state = .ready) (hdue : (s.lane l).attemptDue = true)
    (hdose : l = .dose → ¬ ((s.lane .water).state = .ready ∧ (s.lane .water).attemptDue = true
      ∧ ∃ w, s.head .water = some w ∧ w.work.isFill = true)) :
    exec (.startAttempt l) s = .next (s.attempt l) := by
  have hattempt : s.attemptDue l = true := by simp [State.attemptDue, hst, hdue]
  rw [exec_event rfl hr, if_pos hattempt]
  cases l with
  | water => rfl
  | dose =>
    have hnot : (s.attemptDue .water && s.headIs .water (fun t => t.work.isFill)) = false := by
      rw [← Bool.not_eq_true, Bool.and_eq_true]
      rintro ⟨hw, hfill⟩
      simp only [State.attemptDue, Bool.and_eq_true, decide_eq_true_eq] at hw
      refine hdose rfl ⟨hw.1, hw.2, ?_⟩
      unfold State.headIs at hfill
      split at hfill
      next w hhead => exact ⟨w, hhead, hfill⟩
      next => exact nomatch hfill
    simp only [State.attemptInOrder, hnot]
    rfl

variable (hh : s.head l = some h)
include hh

theorem State.attempt_lost (hs : s.time.supply = .lost) : s.attempt l = s.deferLane l .supply := by
  have hnot : s.supplyReady = false := decide_eq_false fun hr => nomatch hs.symm.trans hr
  simp only [State.attempt, hh, hnot]
  rfl

variable (hs : s.time.supply = .ready)
include hs

theorem State.attempt_flood (hf : s.guard.flood = true) : s.attempt l = s.failForGood l .flood := by
  have hready : s.supplyReady = true := decide_eq_true hs
  simp only [State.attempt, hh, hready, hf]
  rfl

variable (hf : s.guard.flood = false)
include hf

theorem State.attempt_fault (hl : s.guard.latched = true) : s.attempt l = s.failForGood l .fault := by
  have hready : s.supplyReady = true := decide_eq_true hs
  simp only [State.attempt, hh, hready, hf, hl]
  rfl

variable (hl : s.guard.latched = false)
include hl

theorem State.attempt_clear : s.attempt l =
    if s.aboveCutoff h.work then s.haltLane l h else if s.excluded l then s.deferLane l .exclusion else s.beginTry l h := by
  have hready : s.supplyReady = true := decide_eq_true hs
  simp only [State.attempt, hh, hready, hf, hl]
  rfl

end

theorem Work.isFill_cases {w : Work} (h : w.isFill = true) : ∃ target levelStop, w = .fill target levelStop := by
  cases w <;> first | exact ⟨_, _, rfl⟩ | exact nomatch h

theorem State.aboveCutoff_of_not_heat {s : State} {w : Work} (h : ∀ target x, w ≠ .heat target x) : s.aboveCutoff w = false := by
  cases w <;> first | rfl | exact absurd rfl (h _ _)

/-- R73 and R158: LANE_HALTED goes to the holder and to the ports with SAFETY. -/
theorem State.haltLane_port (s : State) (l : Lane) (t : StepRec) (p : Port) : (s.haltLane l t).port p =
    if (s.lane l).holder = some p ∨ (s.port p).classes.getLsbD 4 = true then (s.port p).enter
      { kind := .laneHalted, subject := BitVec.ofNat 8 l.number, reference := BitVec.ofNat 16 t.id, value := 1,
        time := s.time.clock }
    else s.port p := by
  have hmem (u : State) : p ∈ (u.lane l).holder.toList ++ u.subscribers 4
      ↔ (u.lane l).holder = some p ∨ (u.port p).classes.getLsbD 4 = true := by
    rw [List.mem_append, State.mem_subscribers, Option.mem_toList]
  rw [State.haltLane, State.raiseHalted, State.enterFor_port]
  simp only [hmem]
  cases l <;> rfl

/-- Settles O37: the tests of a start attempt, in their order. -/
theorem startAttemptTests : Obligations.StartAttemptTests := by
  intro l h rest s hr hst hdue hq hdose
  have hexec := exec_startAttempt hr hst hdue hdose
  have hh := State.head_of_queue hq
  refine ⟨fun hs => ?lost, fun r hs hfail => ?fails, fun hs hf hl => ⟨fun target x hw hcut => ?halts, fun hex => ?excluded⟩⟩
  case lost =>
    rw [hexec, State.attempt_lost hh hs]
    rfl
  case fails =>
    have hattempt : s.attempt l = s.failForGood l r := by
      rcases hfail with ⟨hf, rfl⟩ | ⟨hf, hl, rfl⟩
      · exact State.attempt_flood hh hs hf
      · exact State.attempt_fault hh hs hf hl
    refine ⟨_, hexec, ?_, ?_, ?_⟩ <;> rw [hattempt]
    · exact State.failForGood_surroundings _ _ _
    · exact State.guard_of_apart (State.failForGood_apart _ _ _)
    · exact State.failForGood_lane s l r h rest hq
  case halts =>
    have habove : s.aboveCutoff h.work = true := by rw [hw]; exact decide_eq_true hcut
    have hattempt := State.attempt_clear hh hs hf hl
    rw [if_pos habove] at hattempt
    refine ⟨_, hexec, ?_, fun p => ?_⟩ <;> rw [hattempt]
    · rfl
    · exact State.haltLane_port s l h p
  case excluded =>
    have hbelow : s.aboveCutoff h.work = false := by
      rcases hex with ⟨-, hfill, -⟩ | ⟨-, -, hnot⟩
      · obtain ⟨target, levelStop, hw⟩ := Work.isFill_cases hfill
        rw [hw]
        rfl
      · exact State.aboveCutoff_of_not_heat hnot
    have hexcluded : s.excluded l = true := by
      rcases hex with ⟨rfl, hfill, hactive⟩ | ⟨rfl, ⟨w, hw, hactive, hfill⟩, -⟩
      · simp [State.excluded, State.headIs, hh, hfill, hactive]
      · simp [State.excluded, State.activeWork, State.headIs, hw, hfill, hactive]
    rw [hexec, State.attempt_clear hh hs hf hl, if_neg (by rw [hbelow]; decide), if_pos hexcluded]
    rfl

end Sys2Proof.Machine
end

-- ==== The resets (R15, R21, R31, R51, R64, R88, R164, R171) ====
section
namespace Sys2Proof.Machine

theorem State.cleanAtReset_eq (s : State) : s.cleanAtReset = s.withGuard { s.guard with cleanCount :=
    (if s.guard.latched ∧ (s.pins.inletSn = true ∨ s.pins.heaterSn = true) then 0 else s.guard.cleanCount) } := by
  have hcond : (s.guard.latched && (s.pins.inletSn || s.pins.heaterSn)) = true
      ↔ s.guard.latched ∧ (s.pins.inletSn = true ∨ s.pins.heaterSn = true) := by simp
  unfold State.cleanAtReset
  simp only [hcond]
  split <;> rfl

/-- R21, R44, R51: what is read at the end of a reset. -/
theorem State.readPins_eq (s : State) : s.readPins = (s.withInputs (FilteredInput.resetAll s.pins)).withGuard { s.guard with
    checks := CheckRec.resetAll s.pins,
    cleanCount := (if s.guard.latched ∧ (s.pins.inletSn = true ∨ s.pins.heaterSn = true) then 0 else s.guard.cleanCount) } := by
  rw [State.readPins, State.cleanAtReset_eq]
  rfl

theorem exec_powerOn (pins : PowerPins) (s : State) :
    exec (.powerOn pins) s = .next (State.afterPowerOn pins.levels pins.busy s.pending) := rfl

theorem exec_resetFalls {s : State} (hr : s.resetHeld = false) (busy : List Port) :
    exec (.resetLine (.falls busy)) s = .next ((s.warmReset .resetLine busy).withResetHeld true) := by
  change execResetLine (.falls busy) s = _
  simp only [execResetLine, hr]
  rfl

theorem exec_resetRises {s : State} (hr : s.resetHeld = true) (busy : List Port) :
    exec (.resetLine (.rises busy)) s = .next (((s.withResetHeld false).readPins).cutExchanges busy) := by
  change execResetLine (.rises busy) s = _
  simp only [execResetLine, hr]
  rfl

theorem exec_resetPart {s : State} {q : ResetRequest} (hq : s.hands q.toRequest .profile 0) :
    exec (.resetPart q) s = .next ((s.warmReset .resetRequest q.busy).readPins) := by
  obtain ⟨⟨hfree, huncut⟩, hright, hlen⟩ := hq
  have hans : portAnswer .profile 0 q.toRequest State.done s = s.done := by simp [portAnswer, hright, hlen]
  change execResetPart q s = _
  unfold execResetPart
  rw [takeExchange_taken _ _ _ hfree huncut, hans]
  rfl

/-- Settles O60: the three resets from any state, and the rise of RESET_N. -/
theorem resetsLeaveTheResetState : Obligations.ResetsLeaveTheResetState := by
  refine ⟨?_, fun s busy hr => ?rises⟩
  case rises =>
    have hexec := exec_resetRises hr busy
    rw [State.readPins_eq] at hexec
    exact ⟨_, hexec, fun p => by cases p <;> rfl, rfl⟩
  rintro c kind busy s (⟨pins, rfl, rfl⟩ | ⟨rfl, hr, rfl⟩ | ⟨q, rfl, rfl, hq, rfl⟩)
  case inl =>
    exact ⟨_, exec_powerOn _ s, rfl, rfl, rfl, rfl, rfl, rfl, rfl, fun p => by cases p <;> rfl, fun i => by cases i <;> rfl,
      fun o => ⟨by cases o <;> rfl, fun src => by cases o <;> cases src <;> rfl⟩, fun o => by cases o <;> rfl,
      rfl, rfl, rfl, rfl, rfl, rfl, rfl, rfl, rfl, rfl, rfl, rfl, rfl, rfl, rfl, State.afterPowerOn_settled _ _ _, rfl,
      fun _ => ⟨rfl, rfl, rfl, rfl, rfl, rfl⟩, fun h => absurd rfl h⟩
  case inr.inl =>
    exact ⟨_, exec_resetFalls hr busy, rfl, rfl, rfl, rfl, rfl, rfl, rfl, fun p => by cases p <;> rfl, fun i => by cases i <;> rfl,
      fun o => ⟨by cases o <;> rfl, fun src => by cases o <;> cases src <;> rfl⟩, fun o => by cases o <;> rfl,
      rfl, rfl, rfl, rfl, rfl, rfl, rfl, rfl, rfl, rfl, rfl, rfl, rfl, rfl, rfl, State.warmReset_settled s .resetLine busy, rfl,
      fun h => (nomatch h), fun _ => ⟨rfl, rfl, rfl, rfl, rfl, rfl, fun a => by cases a <;> rfl, rfl, rfl, rfl⟩⟩
  case inr.inr =>
    have hsettled := State.readPins_settled (State.warmReset_settled s .resetRequest q.busy) rfl
    refine ⟨_, exec_resetPart hq, ?_⟩
    rw [State.readPins_eq] at hsettled ⊢
    exact ⟨rfl, rfl, rfl, rfl, rfl, rfl, rfl, fun p => by cases p <;> rfl, fun i => by cases i <;> rfl,
      fun o => ⟨by cases o <;> rfl, fun src => by cases o <;> cases src <;> rfl⟩, fun o => by cases o <;> rfl,
      rfl, rfl, rfl, rfl, rfl, rfl, rfl, rfl, rfl, rfl, rfl, rfl, rfl, rfl, rfl, hsettled, rfl,
      fun h => (nomatch h), fun _ => ⟨rfl, rfl, rfl, rfl, rfl, rfl, fun a => by cases a <;> rfl, rfl, rfl, rfl⟩⟩

end Sys2Proof.Machine
end

-- ==== PROFILE LOCK (R124, R151, R157, R166) ====
section
namespace Sys2Proof.Machine

/-! ### The index that a failing check names (R166) -/

theorem findSome?_ite {α β : Type} (p : α → Prop) [DecidablePred p] (g : α → β) (as : List α) :
    as.findSome? (fun a => if p a then some (g a) else none) = (as.find? (fun a => decide (p a))).map g := by
  induction as with
  | nil => rfl
  | cons a as ih =>
    by_cases h : p a
    · simp [h]
    · simp [h, ih]

theorem findIdx?_isNone_eq_none {α : Type} {xs : List (Option α)} (h : ∀ x ∈ xs, x ≠ none) :
    xs.findIdx? Option.isNone = none := by
  rw [List.findIdx?_eq_none_iff]
  intro x hx
  cases x with
  | none => exact absurd rfl (h none hx)
  | some => rfl

theorem findIdx?_isNone_eq_some {α : Type} {xs : List (Option α)} {i : Nat} (h : xs[i]? = some none)
    (hfirst : ∀ j, j < i → xs[j]? ≠ some none) : xs.findIdx? Option.isNone = some i := by
  rw [List.findIdx?_eq_some_iff_getElem]
  obtain ⟨hlt, hget⟩ := List.getElem?_eq_some_iff.mp h
  refine ⟨hlt, by rw [hget]; rfl, fun j hj => ?_⟩
  have hne := hfirst j hj
  rw [List.getElem?_eq_getElem (by omega)] at hne
  intro hnone
  exact hne (congrArg some (Option.isNone_iff_eq_none.mp hnone))

section
variable {s : State}

theorem State.unwritten_eq_none (h : ∀ x ∈ s.store.profile, x ≠ none) : s.unwritten = none := by
  rw [State.unwritten, findIdx?_isNone_eq_none h]
  rfl

theorem State.unwritten_eq_some {i : Nat} (hi : 1 ≤ i) (h : s.store.profile[i - 1]? = some none)
    (hfirst : ∀ j, j < i - 1 → s.store.profile[j]? ≠ some none) : s.unwritten = some i := by
  rw [State.unwritten, findIdx?_isNone_eq_some h hfirst]
  exact congrArg some (Nat.sub_add_cancel hi)

theorem State.unsorted_eq : s.unsorted =
    ((List.range 8).find? (fun i => decide (s.field (20 + i) ≤ s.field (19 + i)))).map (fun i => 20 + i) :=
  findSome?_ite _ _ _

theorem State.unsorted_eq_none (h : ∀ j, 20 ≤ j → j ≤ 27 → s.field (j - 1) < s.field j) : s.unsorted = none := by
  rw [State.unsorted_eq, Option.map_eq_none_iff, List.find?_eq_none]
  intro i hi
  have hlt := h (20 + i) (by omega) (by have := List.mem_range.mp hi; omega)
  rw [show 20 + i - 1 = 19 + i by omega] at hlt
  simpa using hlt

theorem State.unsorted_eq_some {i : Nat} (hlo : 20 ≤ i) (hhi : i ≤ 27) (h : s.field i ≤ s.field (i - 1))
    (hfirst : ∀ j, 20 ≤ j → j < i → s.field (j - 1) < s.field j) : s.unsorted = some i := by
  have hfind : (List.range 8).find? (fun i => decide (s.field (20 + i) ≤ s.field (19 + i))) = some (i - 20) := by
    rw [List.find?_range_eq_some]
    refine ⟨?_, List.mem_range.mpr (by omega), fun j hj => ?_⟩
    · rw [show 20 + (i - 20) = i by omega, show 19 + (i - 20) = i - 1 by omega]
      exact decide_eq_true h
    · have hlt := hfirst (20 + j) (by omega) (by omega)
      rw [show 20 + j - 1 = 19 + j by omega] at hlt
      simpa using hlt
  rw [State.unsorted_eq, hfind]
  exact congrArg some (Nat.add_sub_cancel' hlo)

/-- R166: the checks in their order. -/
theorem State.lockFault_eq_some {i : Nat}
    (h : (1 ≤ i ∧ s.store.profile[i - 1]? = some none ∧ ∀ j, j < i - 1 → s.store.profile[j]? ≠ some none)
      ∨ ((∀ x ∈ s.store.profile, x ≠ none)
        ∧ ((20 ≤ i ∧ i ≤ 27 ∧ s.field i ≤ s.field (i - 1) ∧ ∀ j, 20 ≤ j → j < i → s.field (j - 1) < s.field j)
          ∨ ((∀ j, 20 ≤ j → j ≤ 27 → s.field (j - 1) < s.field j)
            ∧ (s.field 4 < s.field 3 ∧ i = 4
              ∨ s.field 3 ≤ s.field 4 ∧ s.field 9 < s.field 6 ∧ i = 9
              ∨ s.field 3 ≤ s.field 4 ∧ s.field 6 ≤ s.field 9 ∧ s.field 10 < s.field 7 ∧ i = 10))))) :
    s.lockFault = some i := by
  unfold State.lockFault
  rcases h with ⟨hi, hnone, hfirst⟩ | ⟨hwritten, ⟨hlo, hhi, hle, hfirst⟩ | ⟨hsorted, hpair⟩⟩
  · rw [State.unwritten_eq_some hi hnone hfirst]
  · rw [State.unwritten_eq_none hwritten, State.unsorted_eq_some hlo hhi hle hfirst]
  · rw [State.unwritten_eq_none hwritten, State.unsorted_eq_none hsorted]
    rcases hpair with ⟨h, rfl⟩ | ⟨h4, h9, rfl⟩ | ⟨h4, h9, h10, rfl⟩
    · exact if_pos h
    · exact (if_neg (Int.not_lt.mpr h4)).trans (if_pos h9)
    · exact (if_neg (Int.not_lt.mpr h4)).trans ((if_neg (Int.not_lt.mpr h9)).trans (if_pos h10))

theorem State.lockFault_eq_none (hwritten : ∀ x ∈ s.store.profile, x ≠ none)
    (hsorted : ∀ j, 20 ≤ j → j ≤ 27 → s.field (j - 1) < s.field j) (h4 : s.field 3 ≤ s.field 4) (h9 : s.field 6 ≤ s.field 9)
    (h10 : s.field 7 ≤ s.field 10) : s.lockFault = none := by
  unfold State.lockFault
  rw [State.unwritten_eq_none hwritten, State.unsorted_eq_none hsorted]
  exact (if_neg (Int.not_lt.mpr h4)).trans ((if_neg (Int.not_lt.mpr h9)).trans (if_neg (Int.not_lt.mpr h10)))

end

/-! ### The lock that passes, in its parts (R166) -/

/-- R124 and R125: an account after the lock. -/
def State.lockedAccount (s : State) (a : Agent) : StockAccount :=
  if (s.account a).valid then s.leveled a { s.account a with stock := min (s.account a).stock (s.capacity a) } else s.account a

theorem State.lockAccount_eq (s : State) (a : Agent) :
    ∃ ports, s.lockAccount a = (s.withAccount a (s.lockedAccount a)).withPorts ports := by
  unfold State.lockAccount State.lockedAccount
  by_cases hv : (s.account a).valid = true
  · rw [if_pos hv, if_pos hv]
    exact ⟨_, (State.setStock_takesAccount hv _).1⟩
  · rw [if_neg hv, if_neg hv]
    exact ⟨s.ports, by cases a <;> rfl⟩

theorem State.lockResin_eq (s : State) : s.lockResin = s.withSoftener { s.softener with
    remaining := if s.softener.valid then min s.softener.remaining s.cFull else s.softener.remaining } := by
  unfold State.lockResin
  split <;> rfl

/-- R109 and R124: the accounts after the lock. -/
theorem State.lockAccounts_eq (s : State) : ∃ ports, (s.lockResin.lockAccount .detergent).lockAccount .rinse =
    ((s.withSoftener { s.softener with
        remaining := if s.softener.valid then min s.softener.remaining s.cFull else s.softener.remaining }).withDosing
      { s.dosing with accounts := { detergent := s.lockedAccount .detergent, rinse := s.lockedAccount .rinse } }).withPorts
      ports := by
  obtain ⟨ports, hdetergent⟩ := s.lockResin.lockAccount_eq .detergent
  obtain ⟨ports', hrinse⟩ := (s.lockResin.lockAccount .detergent).lockAccount_eq .rinse
  refine ⟨ports', hrinse.trans ?_⟩
  rw [hdetergent, State.lockResin_eq]
  rfl

/-- Table 6-6: an AUTO_OPEN is handed over only with the rod at home. -/
theorem State.home_of_autoOpenTests {s : State} {t : StepRec} (h : s.autoOpenTests t = .run) : s.door.rod = .home := by
  unfold State.autoOpenTests at h
  (repeat' split at h) <;> first | contradiction | simp_all

theorem State.autoOpenHeater_door {s : State} (h : s.door.rod ≠ .home) : s.autoOpenHeater.door = s.door := by
  unfold State.autoOpenHeater
  split
  · rfl
  · split
    · split
      · rfl
      · exact State.door_of_apart ((State.concludeSuccess_water_apart _ _).trans (State.modHead_apart _ _ _))
      · exact State.door_of_apart (State.concludeCounted_apart _ _ _)
      · exact State.door_of_apart (State.failForGood_apart _ _ _)
      next hrun => exact absurd (State.home_of_autoOpenTests hrun) h
    · rfl

/-- R146: a rod that neither extends nor holds the door is not cut. -/
theorem State.extendGuard_of_still {s : State} (h : s.door.rod ∉ [RodState.extending, .holding]) : s.extendGuard = s := by
  simp only [List.mem_cons, List.not_mem_nil, or_false] at h
  rw [State.extendGuard, if_neg h]

/-- R107 and R146: an output event leaves a rod alone that is neither at home nor extends nor holds the door. -/
theorem State.outputEvent_door_of_away {s : State} (h : s.door.rod ∉ [RodState.home, .extending, .holding]) (o : Output) (on : Bool) :
    (s.outputEvent o on).door = s.door := by
  by_cases ho : o = .heater
  · subst ho
    have hdoor := State.autoOpenHeater_door (s := s.checkOutput .heater on) (fun e => h (e ▸ List.mem_cons_self))
    have hstill : (s.checkOutput .heater on).autoOpenHeater.extendGuard = (s.checkOutput .heater on).autoOpenHeater :=
      State.extendGuard_of_still (by rw [hdoor]; exact fun hmem => h (List.mem_cons_of_mem _ hmem))
    unfold State.outputEvent State.heaterEvent
    dsimp only
    rw [hstill, ite_self]
    exact hdoor
  · exact s.outputEvent_door ho on

theorem State.evaluate_door_of_away {s : State} (h : s.door.rod ∉ [RodState.home, .extending, .holding]) :
    s.evaluate.door = s.door :=
  (State.evaluate_keeps_of State.door (fun u => u.door.rod ∉ [RodState.home, .extending, .holding]) (fun _ _ hu => ⟨hu, rfl⟩)
    (fun u o on hu => by
      have hdoor := State.outputEvent_door_of_away hu o on
      exact ⟨by rw [hdoor]; exact hu, hdoor⟩) s h).2

/-! ### The Time Base at an inlet closing (R8, R9) -/

@[simp] theorem State.softenerClosing_time (s : State) (n : Nat) : (s.softenerClosing n).time = s.time := by
  unfold State.softenerClosing State.debit State.pendingTest
  dsimp only
  (repeat' split) <;> rfl

@[simp] theorem State.cycleEvent_time (s : State) (f : CycleRec → CycleRec) : (s.cycleEvent f).time = s.time := by
  unfold State.cycleEvent; split <;> rfl

/-- Table 1-4: the Time Base after an inlet closing. -/
def TimeBase.closed (t : TimeBase) : TimeBase :=
  { t with mark := t.flow, stray := if t.stray = .passive then .watching else t.stray,
           strayCount := if t.stray = .passive then 0 else t.strayCount }

theorem State.strayClosing_time (s : State) : s.strayClosing.time = { s.time with
    stray := if s.time.stray = .passive then .watching else s.time.stray,
    strayCount := if s.time.stray = .passive then 0 else s.time.strayCount } := by
  unfold State.strayClosing
  split <;> rfl

theorem State.inletClosing_time (s : State) : s.inletClosing.time = s.time.closed := by
  have hkeeps (u : State) (n ml : Nat) : ((u.softenerClosing n).cycleWater ml).time = u.time := by
    rw [State.cycleWater, State.cycleEvent_time, State.softenerClosing_time]
  simp only [State.inletClosing, State.stopNoFlow, State.withSoftener_time, State.withEngine_time, State.strayClosing_time, hkeeps]
  rfl

theorem State.startNoFlow_time (s : State) : s.startNoFlow.time = s.time := by
  unfold State.startNoFlow
  dsimp only
  (repeat' split) <;> rfl

theorem State.inletOpening_time (s : State) : s.inletOpening.time = { s.time with stray := s.time.stray.opening } :=
  State.startNoFlow_time _

/-- R8: an output event keeps a closing mark that stands at the flow counter. -/
theorem State.outputEvent_mark {s : State} (h : s.time.mark = s.time.flow) (o : Output) (on : Bool) :
    (s.outputEvent o on).time.mark = s.time.flow := by
  by_cases ho : o = .inlet
  · subst ho
    unfold State.outputEvent
    dsimp only
    split
    · rw [State.inletOpening_time]; exact h
    · rw [State.inletClosing_time]; rfl
  · rw [(s.outputEvent_waterless ho on).1, h]

theorem State.evaluate_mark {s : State} (h : s.time.mark = s.time.flow) : s.evaluate.time.mark = s.time.flow := by
  have hflow {u v : State} (hs : v.surroundings = u.surroundings) : v.time.flow = u.time.flow :=
    congrArg Surroundings.flow hs
  refine (State.evaluate_keeps_of (fun u => u.time.flow) (fun u => u.time.mark = u.time.flow) (fun _ _ hu => ⟨hu, rfl⟩)
    (fun u o on hu => ?_) s h).1.trans (hflow s.evaluate_surroundings)
  have hkeeps := hflow (State.outputEvent_surroundings u o on)
  exact ⟨(State.outputEvent_mark hu o on).trans hkeeps.symm, hkeeps⟩

/-! ### The rod and the ports at the lock (R151, R157) -/

theorem State.lockRights_face (s : State) : s.lockRights.surroundings = { s.surroundings with
    faceB := { s.ports.b.face with rights := s.ports.b.rights.narrow (s.fieldNat 37) },
    faceC := { s.ports.c.face with rights := s.ports.c.rights.narrow (s.fieldNat 38) } } := rfl

/-- R157: the lock changes of a port its rights alone. -/
theorem State.lockRights_port (s : State) (p : Port) :
    ∃ r, s.lockRights.port p = { s.port p with rights := r } := by
  cases p <;> exact ⟨_, rfl⟩

/-- R159: an ordinary notice that is not lost stands last in the queue. -/
theorem PortRec.enter_last {r : PortRec} {n : Notice} (hu : n.kind.urgent = false) (hlost : (r.enter n).lost = false) :
    (r.enter n).queue.getLast? = some n := by
  unfold PortRec.enter at hlost ⊢
  split
  · simp
  next h =>
    rw [if_neg h, hu] at hlost
    exact nomatch hlost

theorem State.startHoming_door (s : State) (cause : HomingCause) : (s.startHoming cause).door = s.rodHoming cause := by
  unfold State.startHoming State.rodHoming
  by_cases h : s.time.supply = .ready
  · have hready : s.supplyReady = true := decide_eq_true h
    simp only [if_pos h, if_pos hready]
    rfl
  · have hready : ¬ s.supplyReady = true := by simpa [State.supplyReady] using h
    simp only [if_neg h, if_neg hready]
    rfl

theorem State.startHoming_eq (s : State) (cause : HomingCause) : s.startHoming cause = s.withDoor (s.rodHoming cause) := by
  have hdoor : ∃ d, s.startHoming cause = s.withDoor d := by
    unfold State.startHoming
    dsimp only
    split <;> exact ⟨_, rfl⟩
  obtain ⟨d, heq⟩ := hdoor
  rw [heq]
  congr 1
  rw [← State.startHoming_door, heq]
  rfl

/-- R151: what the lock makes of the rod. -/
theorem State.lockDoor_eq (s : State) : ∃ door ports, s.lockDoor = (s.withDoor door).withPorts ports := by
  unfold State.lockDoor State.lockHoming
  split
  · exact ⟨s.door, s.ports, rfl⟩
  · split
    · exact ⟨_, _, rfl⟩
    · exact ⟨s.rodHoming .profileLock, s.ports, State.startHoming_eq s .profileLock⟩

theorem State.lockDoor_unsettled {s : State} (h : s.accepted .rodHome = none) : s.lockDoor = s := by
  rw [State.lockDoor, h]

theorem State.lockDoor_open {s : State} (h : s.accepted .rodHome = some true) :
    s.lockDoor = s.withDoor (s.rodHoming .profileLock) := by
  rw [State.lockDoor, h]
  exact State.startHoming_eq s _

theorem State.lockDoor_closed {s : State} (h : s.accepted .rodHome = some false) : s.lockDoor =
    (s.withDoor { s.door with rod := .home }).raiseByClass (s.notice .rodState 1 1 0) := by
  rw [State.lockDoor, h]
  rfl

/-! ### The part as the lock leaves it -/

/-- R166: the part when the Time Base has taken the lock and the outputs are evaluated. -/
def State.lockTaken (s : State) : State :=
  (s.modStore (fun t => { t with configured := true, lastRefused := 0 })).lockTimeBase.evaluate

/-- R166: the part when the accounts have taken the lock. -/
def State.lockAccounted (s : State) : State :=
  (((s.lockTaken.withEngine { s.lockTaken.engine with refVolume := some s.lockTaken.vref }).lockResin).lockAccount
    .detergent).lockAccount .rinse

theorem State.lockProfile_eq (s : State) : s.lockProfile = s.lockAccounted.lockDoor.lockRights := rfl

/-- R5, R10, R166: what the lock makes of the surroundings, apart from the rights. -/
def State.lockedSurroundings (s : State) : Surroundings :=
  { s.surroundings with
    configured := true, lastRefused := 0, edgeMode := if s.field 2 = 1 then .both else .rising,
    strayThreshold := some (s.toCounts 200) }

theorem State.lockTaken_surroundings (s : State) : s.lockTaken.surroundings = s.lockedSurroundings :=
  State.evaluate_surroundings _

theorem State.lockAccounted_eq (s : State) : ∃ ports, s.lockAccounted =
    (((s.lockTaken.withEngine { s.lockTaken.engine with refVolume := some s.lockTaken.vref }).withSoftener
        { s.lockTaken.softener with
          remaining := if s.lockTaken.softener.valid then min s.lockTaken.softener.remaining s.lockTaken.cFull
            else s.lockTaken.softener.remaining }).withDosing
      { s.lockTaken.dosing with accounts :=
        { detergent := s.lockTaken.lockedAccount .detergent, rinse := s.lockTaken.lockedAccount .rinse } }).withPorts ports := by
  obtain ⟨ports, heq⟩ := State.lockAccounts_eq (s.lockTaken.withEngine { s.lockTaken.engine with
    refVolume := some s.lockTaken.vref })
  exact ⟨ports, heq⟩

theorem State.lockAccounted_surroundings (s : State) : s.lockAccounted.surroundings = s.lockedSurroundings := by
  have hresin (u : State) : u.lockResin.surroundings = u.surroundings := by rw [State.lockResin_eq]; rfl
  have hacc (u : State) (a : Agent) : (u.lockAccount a).surroundings = u.surroundings := by
    unfold State.lockAccount
    split <;> simp
  rw [State.lockAccounted, hacc, hacc, hresin, State.withEngine_lanes_surroundings, State.lockTaken_surroundings]

theorem State.lockDoor_surroundings (s : State) : s.lockDoor.surroundings = s.surroundings := by
  unfold State.lockDoor
  split <;> simp

theorem State.lockTaken_profile (s : State) : s.lockTaken.store.profile = s.store.profile ∧
    s.lockTaken.store.settings = s.store.settings :=
  ⟨(congrArg Surroundings.profile s.lockTaken_surroundings :), (congrArg Surroundings.settings s.lockTaken_surroundings :)⟩

theorem State.lockTaken_field (s : State) (i : Nat) : s.lockTaken.field i = s.field i := by
  rw [State.field, s.lockTaken_profile.1, State.field]

theorem State.lockTaken_lockedAccount (s : State) (a : Agent) : s.lockTaken.lockedAccount a = s.lockedAccount a := by
  have hacc : s.lockTaken.account a = s.account a :=
    congrArg (fun b : Bystanders => b.accounts.get a) (State.evaluate_bystanders (State.lockTimeBase _))
  have hsetting (i : Nat) : s.lockTaken.setting i = s.setting i := by
    rw [State.setting, s.lockTaken_profile.2, State.setting]
  cases a <;>
    simp only [State.lockedAccount, State.leveled, State.capacity, State.strokeVolume, State.lowMark, State.fieldNat, hacc,
      s.lockTaken_field, hsetting] <;> rfl

theorem State.lockTaken_cFull (s : State) : s.lockTaken.cFull = s.cFull := by
  rw [State.cFull, State.fieldNat, s.lockTaken_field]
  rfl

theorem State.lockTaken_vref (s : State) : s.lockTaken.vref = s.vref := by
  rw [State.vref, State.fieldNat, s.lockTaken_field]
  rfl

theorem State.lockTaken_mark (s : State) : s.lockTaken.time.mark = s.time.flow :=
  State.evaluate_mark (s := (s.modStore (fun t => { t with configured := true, lastRefused := 0 })).lockTimeBase) rfl

theorem State.lockTaken_door {s : State} (h : s.door.rod = .unknown) : s.lockTaken.door = s.door := by
  have heval := State.evaluate_door_of_away (s := (s.modStore (fun t => { t with
    configured := true, lastRefused := 0 })).lockTimeBase) (by
      change s.door.rod ∉ _
      rw [h]
      decide)
  exact heval

theorem State.lockAccounted_door (s : State) : s.lockAccounted.door = s.lockTaken.door := by
  obtain ⟨ports, heq⟩ := s.lockAccounted_eq
  rw [heq]
  rfl

/-- R151: the three readings of ROD_HOME at the lock. -/
theorem State.lockProfile_rod {s : State} (h : s.door.rod = .unknown) :
    (s.accepted .rodHome = none → s.lockProfile.door = s.door)
    ∧ (s.accepted .rodHome = some true → s.lockProfile.door = s.rodHoming .profileLock)
    ∧ (s.accepted .rodHome = some false → s.lockProfile.door = { s.door with rod := .home }
      ∧ ∀ p, (s.port p).classes.getLsbD 1 = true → (s.lockProfile.port p).lost = false →
        (s.lockProfile.port p).queue.getLast? = some
          { kind := .rodState, subject := 1, reference := 1, value := 0, time := s.time.clock }) := by
  have hdoor : s.lockAccounted.door = s.door := s.lockAccounted_door.trans (State.lockTaken_door h)
  have hsurr := s.lockAccounted_surroundings
  have hinputs : s.lockAccounted.inputs = s.inputs := congrArg Surroundings.inputs hsurr
  have hreads : s.lockAccounted.accepted .rodHome = s.accepted .rodHome := by rw [State.accepted, hinputs, State.accepted]
  have hsupply : s.lockAccounted.time.supply = s.time.supply := congrArg Surroundings.supply hsurr
  have hclock : s.lockAccounted.time.clock = s.time.clock := congrArg Surroundings.clock hsurr
  refine ⟨fun hun => ?_, fun hopen => ?_, fun hclosed => ?_⟩ <;> rw [State.lockProfile_eq]
  · rw [State.lockDoor_unsettled (hreads.trans hun)]
    exact hdoor
  · rw [State.lockDoor_open (hreads.trans hopen)]
    change s.lockAccounted.rodHoming .profileLock = _
    rw [State.rodHoming, hsupply, hclock, hdoor]
    rfl
  · rw [State.lockDoor_closed (hreads.trans hclosed)]
    refine ⟨?_, fun p hp => ?_⟩
    · change { s.lockAccounted.door with rod := .home } = _
      rw [hdoor]
    · have hclasses : (s.lockAccounted.port p).classes = (s.port p).classes := by
        cases p
        · exact congrArg (fun u : Surroundings => u.faceA.classes) hsurr
        · exact congrArg (fun u : Surroundings => u.faceB.classes) hsurr
        · exact congrArg (fun u : Surroundings => u.faceC.classes) hsurr
      obtain ⟨r, hport⟩ := State.lockRights_port ((s.lockAccounted.withDoor { s.lockAccounted.door with
        rod := .home }).raiseByClass (s.lockAccounted.notice .rodState 1 1 0)) p
      have hraised : ((s.lockAccounted.withDoor { s.lockAccounted.door with rod := .home }).raiseByClass
          (s.lockAccounted.notice .rodState 1 1 0)).port p =
          (s.lockAccounted.port p).enter (s.lockAccounted.notice .rodState 1 1 0) := by
        rw [State.raiseByClass_port]
        exact if_pos (hclasses ▸ hp)
      rw [hport, hraised]
      intro hlost
      refine (PortRec.enter_last rfl hlost).trans ?_
      rw [State.notice, State.now, hclock]
      rfl

/-- R157, R166: the surroundings of a part that is locked. -/
theorem State.lockProfile_surroundings (s : State) : s.lockProfile.surroundings = { s.surroundings with
    configured := true, lastRefused := 0, edgeMode := if s.field 2 = 1 then .both else .rising,
    strayThreshold := some (s.toCounts 200),
    faceB := { s.ports.b.face with rights := s.ports.b.rights.narrow (s.fieldNat 37) },
    faceC := { s.ports.c.face with rights := s.ports.c.rights.narrow (s.fieldNat 38) } } := by
  have hsurr : s.lockAccounted.lockDoor.surroundings = s.lockedSurroundings :=
    (State.lockDoor_surroundings _).trans s.lockAccounted_surroundings
  have hfield (i : Nat) : s.lockAccounted.lockDoor.fieldNat i = s.fieldNat i := by
    have hprofile : s.lockAccounted.lockDoor.store.profile = s.store.profile := congrArg Surroundings.profile hsurr
    rw [State.fieldNat, State.field, hprofile, State.fieldNat, State.field]
  have hb : s.lockAccounted.lockDoor.ports.b.face = s.ports.b.face := congrArg Surroundings.faceB hsurr
  have hc : s.lockAccounted.lockDoor.ports.c.face = s.ports.c.face := congrArg Surroundings.faceC hsurr
  have hbRights : s.lockAccounted.lockDoor.ports.b.rights = s.ports.b.rights := congrArg PortFace.rights hb
  have hcRights : s.lockAccounted.lockDoor.ports.c.rights = s.ports.c.rights := congrArg PortFace.rights hc
  rw [State.lockProfile_eq, State.lockRights_face, hsurr, hfield, hfield, hb, hc, hbRights, hcRights]
  rfl

/-- The lock changes of the rod and of the rights no account and no count. -/
theorem State.lockProfile_keeps (s : State) : s.lockProfile.time = s.lockAccounted.time
    ∧ s.lockProfile.engine = s.lockAccounted.engine ∧ s.lockProfile.softener = s.lockAccounted.softener
    ∧ s.lockProfile.dosing = s.lockAccounted.dosing := by
  rw [State.lockProfile_eq]
  generalize s.lockAccounted = u
  obtain ⟨door, ports, hdoor⟩ := u.lockDoor_eq
  rw [hdoor]
  exact ⟨rfl, rfl, rfl, rfl⟩

/-- Settles O55: the refusals, and the lock that passes in its parts. -/
theorem profileLock : Obligations.ProfileLock := by
  refine fun q s hq => ⟨fun hlocked => serve_handed_say hq ?locked, fun i hopen => ⟨fun hfault => serve_handed_say hq ?refused,
    fun _ hwritten hsorted h4 h9 h10 => ⟨s.lockProfile, serve_handed_say hq ?answer, s.lockProfile_surroundings,
      State.lockProfile_settled, ?relay, ?mark, ?refVolume, State.lockProfile_rod, ?resin, ?accounts⟩⟩⟩
  case locked => rw [State.profileLock, if_pos hlocked]
  case refused =>
    rw [State.profileLock, if_neg (by rw [hopen]; decide), State.lockFault_eq_some hfault]
    rfl
  case answer =>
    rw [State.profileLock, if_neg (by rw [hopen]; decide), State.lockFault_eq_none hwritten hsorted h4 h9 h10]
    rfl
  case relay =>
    have hsurr := s.lockProfile_surroundings
    have hsupply : s.lockProfile.time.supply = s.time.supply := congrArg Surroundings.supply hsurr
    have hlocked : s.lockProfile.store.configured = true := congrArg Surroundings.configured hsurr
    have hlatched : s.lockProfile.guard.latched = s.guard.latched := congrArg Surroundings.latched hsurr
    rw [State.relay_of_settled State.lockProfile_settled, State.supplyReady, hsupply, hlocked, hlatched, Bool.and_true]
    rfl
  all_goals
    obtain ⟨htime, hengine, hsoftener, hdosing⟩ := s.lockProfile_keeps
    obtain ⟨ports, hacc⟩ := s.lockAccounted_eq
    rw [hacc] at htime hengine hsoftener hdosing
  case mark => exact (congrArg TimeBase.mark htime).trans s.lockTaken_mark
  case refVolume => exact (congrArg Engine.refVolume hengine).trans (congrArg some s.lockTaken_vref)
  case resin =>
    intro hv
    have hvalid : s.lockTaken.softener.valid = true := (congrArg Softener.valid hsoftener).symm.trans hv
    rw [hsoftener, ← s.lockTaken_cFull]
    dsimp only [State.withPorts, State.withDosing, State.withSoftener]
    rw [if_pos hvalid]
    exact Nat.min_le_right _ _
  case accounts =>
    intro a
    have haccount : s.lockProfile.account a = s.lockedAccount a := by
      rw [State.account, hdosing, ← s.lockTaken_lockedAccount]
      cases a <;> rfl
    rw [haccount, State.lockedAccount]
    split
    next hv => exact ⟨by cases a <;> rfl, by cases a <;> rfl, fun _ => rfl⟩
    next hv => exact ⟨rfl, rfl, fun h => absurd h hv⟩

end Sys2Proof.Machine
end

-- ==== The FLOW edge and the inlet closing (R4, R5, R8 to R10, R91, R95, R111 to R113) ====
section
namespace Sys2Proof.Machine

/-! ### A counted edge (R4, R9, R10) -/

/-- R10: the detector moves its own mark and count, and raises its notice. -/
theorem State.strayEdge_eq (s : State) : s.strayEdge = (s.withTime { s.time with
    stray := s.strayEdge.time.stray, strayCount := s.strayEdge.time.strayCount }).withPorts s.strayEdge.ports := by
  unfold State.strayEdge
  dsimp only
  (repeat' split) <;> rfl

theorem State.fillEdge_empty {s : State} (h : s.head .water = none) : s.fillEdge = s := by
  have hidle (f : Work → Bool) : s.activeWork .water f = false := by rw [State.activeWork, State.headIs, h]
  rw [State.fillEdge, hidle]
  rfl

theorem State.regenEdge_none {s : State} (h : s.softener.phase = .none) : s.regenEdge = s := by
  unfold State.regenEdge
  dsimp only
  rw [if_neg fun hno => hno.1 h, h]

theorem State.modHead_lane {s : State} {l : Lane} {h : StepRec} {rest : List StepRec} (hq : (s.lane l).queue = h :: rest)
    (f : StepRec → StepRec) : (s.modHead l f).lane l = { s.lane l with queue := f h :: rest } := by
  rw [State.modHead, State.modLane_lane, hq]
  rfl

/-- R95: the no-flow window that a counted edge of a FILL leaves. -/
def State.fillWindowed (s : State) : State :=
  s.withEngine { s.engine with fillNoFlow :=
    (if s.energised .inlet && s.demands .inlet .water then s.timer 5000 else s.engine.fillNoFlow) }

/-- R91: the edge is in the FILL's count. -/
def State.fillCounted (s : State) : State :=
  s.fillWindowed.modHead .water (fun t => { t with count := t.count + 1, actual := fit32 (s.toMl (t.count + 1)) })

section
variable {s : State} {h : StepRec} {rest : List StepRec} (hq : (s.lane .water).queue = h :: rest)
include hq

theorem State.fillCounted_lane : s.fillCounted.lane .water = { s.lane .water with
    queue := { h with count := h.count + 1, actual := fit32 (s.toMl (h.count + 1)) } :: rest } :=
  State.modHead_lane (s := s.fillWindowed) hq _

/-- R91, R93: a counted edge of an ACTIVE FILL. -/
theorem State.fillEdge_eq (hactive : h.status = .active) (hfill : h.work.isFill = true) : s.fillEdge =
    if h.count + 1 = h.countTarget ∧ (s.lane .water).tryInProgress = true then
      s.fillCounted.succeed .water ResultFlags.clear (some (s.toMl (h.count + 1)))
    else s.fillCounted := by
  have hwork : s.activeWork .water (fun w => w.isFill) = true := by
    rw [State.activeWork, State.headIs, head_of_queue hq]
    simp [hactive, hfill]
  have hwindow : (if s.energised .inlet && s.demands .inlet .water then s.withEngine { s.engine with fillNoFlow := s.timer 5000 }
      else s) = s.fillWindowed := by
    unfold State.fillWindowed
    split <;> rfl
  have hlane := State.fillCounted_lane hq
  rw [State.fillEdge, if_pos hwork]
  dsimp only
  rw [hwindow, ← State.fillCounted, head_of_queue (l := .water) (rest := rest) (by rw [hlane]), hlane]
  rfl

end

/-- R9, R10: what the detector makes of a counted edge. -/
theorem State.strayEdge_of_reported {s : State} (h : s.time.stray = .reported) :
    s.strayEdge = s.withTime { s.time with strayCount := sat32 (s.time.strayCount + 1) } := by
  rw [State.strayEdge, h]
  rfl

theorem State.strayEdge_of_still {s : State} (h : s.time.stray = .disarmed ∨ s.time.stray = .passive) : s.strayEdge = s := by
  rcases h with h | h <;> rw [State.strayEdge, h]

theorem State.strayEdge_of_watching {s : State} (h : s.time.stray = .watching)
    (hbelow : s.time.strayThreshold ≠ some (s.time.strayCount + 1)) :
    s.strayEdge = s.withTime { s.time with strayCount := s.time.strayCount + 1 } := by
  rw [State.strayEdge, h]
  exact if_neg hbelow

theorem State.strayEdge_of_threshold {s : State} {n : Nat} (h : s.time.stray = .watching)
    (hat : s.time.strayThreshold = some n) (hn : s.time.strayCount + 1 = n) :
    s.strayEdge = (s.withTime { s.time with strayCount := n, stray := .reported }).raiseByClass (s.notice .strayFlow 0 n n) := by
  subst hn
  rw [State.strayEdge, h]
  exact if_pos hat

/-- A counted edge with no step and no regeneration to take it. -/
theorem State.countEdge_untaken {s : State} (hempty : s.head .water = none) (hphase : s.softener.phase = .none) :
    s.countEdge = (s.withTime { s.time with flow := s.time.flow + 1 }).strayEdge := by
  have hstray := State.strayEdge_eq (s.withTime { s.time with flow := s.time.flow + 1 })
  have hhead : (s.withTime { s.time with flow := s.time.flow + 1 }).strayEdge.head .water = none := by
    rw [hstray]
    exact hempty
  have hnone : (s.withTime { s.time with flow := s.time.flow + 1 }).strayEdge.softener.phase = .none := by
    rw [hstray]
    exact hphase
  change (s.withTime { s.time with flow := s.time.flow + 1 }).strayEdge.fillEdge.regenEdge = _
  rw [State.fillEdge_empty hhead, State.regenEdge_none hnone]

theorem State.flowEdge_counted {s : State} (hr : s.resetHeld = false) {up : Bool} (hup : s.time.edgeMode = .both ∨ up = true) :
    exec (.flowEdge up) s = .next s.countEdge := by
  have hcounts : s.time.edgeMode.counts up = true := by
    rcases hup with h | rfl
    · rw [h]
      rfl
    · cases s.time.edgeMode <;> rfl
  refine (exec_event rfl hr).trans ?_
  rw [if_pos hcounts]

theorem State.flowEdge_uncounted {s : State} (hr : s.resetHeld = false) (hmode : s.time.edgeMode = .rising) :
    exec (.flowEdge false) s = .next s := by
  refine (exec_event rfl hr).trans ?_
  rw [hmode]
  rfl

/-- R10: the part as the stray-flow detector leaves a counted edge to the step. -/
def State.strayTaken (s : State) : State := (s.withTime { s.time with flow := s.time.flow + 1 }).strayEdge

theorem State.strayTaken_eq (s : State) : ∃ stray count ports, s.strayTaken =
    (s.withTime { s.time with flow := s.time.flow + 1, stray := stray, strayCount := count }).withPorts ports :=
  ⟨_, _, _, State.strayEdge_eq (s.withTime { s.time with flow := s.time.flow + 1 })⟩

theorem State.countEdge_eq (s : State) : s.countEdge = s.strayTaken.fillEdge.regenEdge := rfl

/-- R91, R95: a counted edge that does not complete an ACTIVE FILL. -/
theorem State.countEdge_fill {s : State} {h : StepRec} {rest : List StepRec} (hphase : s.softener.phase = .none)
    (hq : (s.lane .water).queue = h :: rest) (hactive : h.status = .active) (hfill : h.work.isFill = true)
    (hopen : h.count + 1 ≠ h.countTarget ∨ (s.lane .water).tryInProgress = false) : ∃ stray count ports, s.countEdge =
      (s.fillCounted.withTime { s.time with flow := s.time.flow + 1, stray := stray, strayCount := count }).withPorts ports := by
  obtain ⟨stray, count, ports, htaken⟩ := s.strayTaken_eq
  have hedge : s.strayTaken.fillEdge = s.strayTaken.fillCounted := by
    have hq' : (s.strayTaken.lane .water).queue = h :: rest := by
      rw [htaken]
      exact hq
    rw [State.fillEdge_eq hq' hactive hfill, htaken]
    exact if_neg fun ⟨hcount, htry⟩ => hopen.elim (· hcount) fun hno => Bool.false_ne_true (hno.symm.trans htry)
  have hnone : s.strayTaken.fillCounted.softener.phase = .none := by
    rw [htaken]
    exact hphase
  refine ⟨stray, count, ports, ?_⟩
  rw [State.countEdge_eq, hedge, State.regenEdge_none hnone, htaken]
  rfl

/-! ### An evaluation in which one output changes (R34, R39) -/

theorem State.settleOutput_of_wanted {s : State} {o : Output} (h : s.energised o = s.wanted o) : s.settleOutput o = s := by
  rw [State.settleOutput, ← h]
  cases o <;> rfl

theorem State.settleOutputs_of_one {s : State} {o : Output} (hothers : ∀ x, x ≠ o → s.energised x = s.wanted x)
    (hsettled : (s.settleOutput o).settled = true) : s.settleOutputs = s.settleOutput o := by
  have hafter (os : List Output) : os.foldl State.settleOutput (s.settleOutput o) = s.settleOutput o := by
    induction os with
    | nil => rfl
    | cons x os ih => rw [List.foldl_cons, State.settleOutput_of_wanted (State.settled_iff.mp hsettled x), ih]
  have hlist (os : List Output) (hmem : o ∈ os) : os.foldl State.settleOutput s = s.settleOutput o := by
    induction os with
    | nil => exact absurd hmem List.not_mem_nil
    | cons x os ih =>
      rw [List.foldl_cons]
      by_cases hx : x = o
      · rw [hx, hafter]
      · rw [State.settleOutput_of_wanted (hothers x hx), ih ((List.mem_cons.mp hmem).resolve_left (Ne.symm hx))]
  exact hlist _ (by cases o <;> decide)

theorem State.giveEvents_of_one {s t : State} {o : Output} (hothers : ∀ x, x ≠ o → s.energised x = t.energised x)
    (hchanges : s.energised o ≠ t.energised o) (u : State) :
    s.giveEvents t Output.evalOrder u = u.outputEvent o (t.energised o) := by
  have hlist (os : List Output) (hnodup : os.Nodup) (u : State) :
      s.giveEvents t os u = if o ∈ os then u.outputEvent o (t.energised o) else u := by
    unfold State.giveEvents
    induction os generalizing u with
    | nil => rfl
    | cons x os ih =>
      obtain ⟨hx, hrest⟩ := List.nodup_cons.mp hnodup
      rw [List.foldl_cons, ih hrest]
      by_cases hxo : x = o
      · subst hxo
        rw [if_neg hchanges, if_neg hx, if_pos List.mem_cons_self]
      · rw [if_pos (hothers x hxo)]
        simp [Ne.symm hxo]
  rw [hlist _ (by decide), if_pos (by cases o <;> decide)]

/-- R39: where one output alone is not as its demands and permits give it, the evaluation is its change and its event. -/
theorem State.evaluate_of_one {s : State} {o : Output} (hothers : ∀ x, x ≠ o → s.energised x = s.wanted x)
    (hsettled : (s.settleOutput o).settled = true) (hchanges : s.energised o ≠ s.wanted o) :
    s.evaluate = (s.settleOutput o).outputEvent o (s.wanted o) := by
  have hkeeps (x : Output) (hx : x ≠ o) : s.energised x = (s.settleOutput o).energised x := by
    cases o <;> cases x <;> first | rfl | exact absurd rfl hx
  rw [State.evaluate_eq, State.settleOutputs_of_one hothers hsettled,
    State.giveEvents_of_one hkeeps (by rw [State.settleOutput_energised]; exact hchanges), State.settleOutput_energised]

/-! ### An inlet closing (R8, R9, R111 to R113, R170) -/

theorem State.inletClosing_engine (s : State) : s.inletClosing.engine = { s.engine with fillNoFlow := none } := by
  unfold State.inletClosing State.softenerClosing State.debit State.pendingTest State.cycleWater State.cycleEvent
    State.strayClosing
  dsimp only
  (repeat' split) <;> rfl

theorem State.cycleEvent_eq (s : State) (f : CycleRec → CycleRec) :
    s.cycleEvent f = s.withCycle (if s.store.cycle.state = .open then f s.store.cycle else s.store.cycle) := by
  unfold State.cycleEvent
  split <;> rfl

theorem State.inletClosing_cycle (s : State) : s.inletClosing.store.cycle = if s.store.cycle.state = .open then
    { s.store.cycle with water := min 4294967295 (s.store.cycle.water + s.toMl s.pendingCount) } else s.store.cycle := by
  have hmark (f : TimeBase → TimeBase) : (s.modTime f).store = s.store := rfl
  simp only [State.inletClosing, State.stopNoFlow, State.withSoftener_store, State.withEngine_store, State.strayClosing_store,
    State.cycleWater, State.cycleEvent_eq]
  simp only [State.withCycle, State.withStore_store, State.softenerClosing_store, hmark, sat32, Nat.min_comm]
  rfl

/-- R8: the closing mark moves. -/
def State.markMoved (s : State) : State := s.modTime (fun t => { t with mark := t.flow })

theorem State.inletClosing_account (s : State) :
    s.inletClosing.softener =
      { (s.markMoved.softenerClosing s.pendingCount).softener with noFlow := none }
    ∧ s.inletClosing.ports = (s.markMoved.softenerClosing s.pendingCount).ports := by
  unfold State.inletClosing State.cycleWater State.markMoved
  dsimp only
  generalize (s.modTime _).softenerClosing s.pendingCount = u
  rw [State.cycleEvent_eq]
  unfold State.strayClosing
  constructor <;> (repeat' split) <;> rfl

/-- R113: a closing during a regeneration. -/
theorem State.softenerClosing_exempt {s : State} (h : s.softener.phase ≠ .none) (n : Nat) :
    s.softenerClosing n = s.withSoftener { s.softener with exempt := 0 } := by
  rw [State.softenerClosing]
  exact if_neg h

/-- R111: a closing without a VALID account. -/
theorem State.softenerClosing_tally {s : State} (h : s.softener.phase = .none) (hv : s.softener.valid = false) (n : Nat) :
    s.softenerClosing n = s.withSoftener { s.softener with
      exempt := 0,
      tally := min 4294967295 (s.softener.tally + s.inletHardness * s.toMl (n - s.softener.exempt) / 100) } := by
  rw [State.softenerClosing]
  refine (if_pos h).trans ?_
  rw [State.debit]
  refine (if_neg (fun htrue => Bool.false_ne_true (hv.symm.trans htrue))).trans ?_
  rw [sat32, Nat.min_comm]
  rfl

/-- R111, R112: a closing with a VALID account. -/
theorem State.softenerClosing_debit {s : State} {n left bp : Nat} (h : s.softener.phase = .none) (hv : s.softener.valid = true)
    (hleft : left = s.softener.remaining - (s.inletHardness - s.residual) * s.toMl (n - s.softener.exempt) / 100)
    (hbp : bp = left * 10000 / s.cFull) :
    (s.softenerClosing n).softener = { s.softener with
      exempt := 0, remaining := left, pendingFlag := s.softener.pendingFlag || decide (bp < s.regenThreshold) }
    ∧ ∀ p, (s.softenerClosing n).port p =
      if s.softener.pendingFlag = false ∧ bp < s.regenThreshold ∧ (s.port p).classes.getLsbD 3 = true then
        (s.port p).enter (s.notice .regenPending 0 bp left)
      else s.port p := by
  have hdebit : s.softenerClosing n =
      (s.withSoftener { s.softener with exempt := 0, remaining := left }).pendingTest := by
    rw [State.softenerClosing]
    refine (if_pos h).trans ?_
    rw [State.debit]
    refine (if_pos hv).trans ?_
    rw [hleft]
    rfl
  rw [hdebit]
  unfold State.pendingTest
  split
  next hnow =>
    obtain ⟨hclear, hlow⟩ := (Bool.and_eq_true ..).mp hnow
    have hflag : s.softener.pendingFlag = false := (Bool.not_eq_true' _).mp hclear
    have hbelow : bp < s.regenThreshold := hbp ▸ of_decide_eq_true hlow
    refine ⟨?_, fun p => ?_⟩
    · rw [decide_eq_true hbelow, Bool.or_true]
      rfl
    · rw [State.raiseRegenPending, State.raiseByClass_port]
      refine ite_congr (propext ⟨fun hclass => ⟨hflag, hbelow, hclass⟩, fun hall => hall.2.2⟩) (fun _ => ?_) fun _ => rfl
      rw [hbp]
      rfl
  next hquiet =>
    have hstays : s.softener.pendingFlag = true ∨ ¬ bp < s.regenThreshold := by
      refine Classical.byContradiction fun hno => ?_
      rw [not_or, Classical.not_not, Bool.not_eq_true] at hno
      exact hquiet ((Bool.and_eq_true ..).mpr
        ⟨(Bool.not_eq_true' _).mpr hno.1, decide_eq_true (show left * 10000 / s.cFull < s.regenThreshold from hbp ▸ hno.2)⟩)
    refine ⟨?_, fun p => (if_neg fun ⟨hclear, hlow, _⟩ => ?_).symm⟩
    · rcases hstays with hset | habove
      · rw [show (s.softener.pendingFlag || decide (bp < s.regenThreshold)) = s.softener.pendingFlag by rw [hset, Bool.true_or]]
        rfl
      · rw [decide_eq_false habove, Bool.or_false]
        rfl
    · rcases hstays with hset | habove
      · exact Bool.false_ne_true (hclear.symm.trans hset)
      · exact habove hlow

/-! ### The end of an output test of INLET (R39, R49) -/

/-- The part as the end of a test of INLET leaves it before the closing is taken. -/
def State.testClosed (s : State) : State :=
  ((((s.withGuard { s.guard with test := none, testTimer := none }).putDemand .test false .inlet).settleOutput .inlet).checkOutput
    .inlet false)

theorem State.testClosed_keeps (s : State) : (∀ p, s.testClosed.markMoved.port p = s.port p)
    ∧ s.testClosed.markMoved.softener = s.softener ∧ s.testClosed.markMoved.regenThreshold = s.regenThreshold
    ∧ s.testClosed.markMoved.time.clock = s.time.clock := ⟨fun _ => rfl, rfl, rfl, rfl⟩

theorem State.endTest_inlet {s : State} (hs : s.settled = true) (ht : s.guard.test = some .inlet) (he : s.energised .inlet = true)
    (hd : ∀ src, src ≠ .test → s.demands .inlet src = false) :
    s.endTest = s.testClosed.inletClosing ∧ s.endTest.energised .inlet = false := by
  have hend : s.endTest =
      ((s.withGuard { s.guard with test := none, testTimer := none }).putDemand .test false .inlet).evaluate := by
    simp only [State.endTest, ht]
  have hdemands (src : Source) :
      ((s.withGuard { s.guard with test := none, testTimer := none }).putDemand .test false .inlet).demands .inlet src = false := by
    rw [State.putDemand_demands]
    by_cases hsrc : Source.test = src
    · exact if_pos ⟨rfl, hsrc⟩
    · exact (if_neg fun h => hsrc h.2).trans (hd src (Ne.symm hsrc))
  have hothers (x : Output) (hx : x ≠ .inlet) :
      ((s.withGuard { s.guard with test := none, testTimer := none }).putDemand .test false .inlet).energised x =
      ((s.withGuard { s.guard with test := none, testTimer := none }).putDemand .test false .inlet).wanted x := by
    have hx' := State.settled_iff.mp hs x
    cases x <;> first | exact hx' | exact absurd rfl hx
  have hon : ((s.withGuard { s.guard with test := none, testTimer := none }).putDemand .test false .inlet).energised .inlet
      = true := he
  unfold State.testClosed
  rw [hend]
  generalize (s.withGuard _).putDemand .test false .inlet = u at hdemands hothers hon ⊢
  have hany : ¬ (u.out .inlet).demands.any = true := by
    rw [DemandSet.any_iff]
    rintro ⟨src, hsrc⟩
    exact Bool.false_ne_true ((hdemands src).symm.trans hsrc)
  have hoff : u.wanted .inlet = false := by
    change ((u.out .inlet).demands.any && _) = false
    rw [Bool.eq_false_iff.mpr hany]
    rfl
  have hsettled : (u.settleOutput .inlet).settled = true := by
    rw [State.settled_iff]
    intro x
    by_cases hx : x = .inlet
    · rw [hx, State.settleOutput_energised, State.settleOutput_wanted _ _ _ (Nat.le_refl _)]
    · rw [State.settleOutput_energised_ne _ _ _ hx, hothers x hx]
      cases x <;> rfl
  have heval := State.evaluate_of_one hothers hsettled (by rw [hon, hoff]; decide)
  rw [hoff] at heval
  refine ⟨heval, ?_⟩
  rw [State.evaluate_energised, State.settleOutputs_of_one hothers hsettled, State.settleOutput_energised, hoff]

/-- Settles O16: a counted edge, its part in a FILL and at the stray-flow detector, and the closing at the end of a test. -/
theorem flowEdgesAndStrayFlow : Obligations.FlowEdgesAndStrayFlow := by
  refine ⟨fun up s hr => ⟨?uncounted, ?counted⟩, fun s hr hempty hphase => ?stray,
    fun h rest s hr hphase hq hactive hfill hopen => ?fill,
    fun counts v left bp s hr hs ht hdue he hd hcounts hv hleft hbp => ?closing⟩
  case uncounted =>
    rintro hmode rfl
    exact State.flowEdge_uncounted hr hmode
  case counted =>
    exact fun hup => ⟨_, State.flowEdge_counted hr hup, State.countEdge_surroundings s, State.countEdge_settled,
      State.countEdge_bounded⟩
  case stray =>
    refine ⟨_, State.flowEdge_counted hr (.inr rfl), ?_⟩
    rw [State.countEdge_untaken hempty hphase]
    refine ⟨fun hstill => State.strayEdge_of_still hstill, fun hreported => State.strayEdge_of_reported hreported,
      fun hwatching hbelow => State.strayEdge_of_watching hwatching hbelow, fun n hwatching hat hn => ?_⟩
    have hthreshold := State.strayEdge_of_threshold (s := s.withTime { s.time with flow := s.time.flow + 1 }) hwatching hat hn
    rw [hthreshold]
    exact ⟨rfl, fun p => State.raiseByClass_port _ _ p⟩
  case fill =>
    have hsurr := State.countEdge_surroundings s
    obtain ⟨stray, count, ports, hedge⟩ := State.countEdge_fill hphase hq hactive hfill hopen
    refine ⟨_, State.flowEdge_counted hr (.inr rfl), hsurr, ?_⟩
    rw [hedge]
    refine ⟨State.fillCounted_lane hq, rfl, ?_, rfl, rfl, rfl, rfl, rfl, rfl⟩
    unfold State.fillCounted State.fillWindowed
    simp only [Bool.and_eq_true]
    rfl
  case closing =>
    obtain ⟨hend, hoff⟩ := State.endTest_inlet hs ht he hd
    have hpending : s.testClosed.pendingCount = counts := hcounts.symm
    obtain ⟨hsoftener, hports⟩ := s.testClosed.inletClosing_account
    rw [hpending] at hsoftener hports
    have hexec : exec .testTimerExpiry s = .next s.endTest := by
      refine (exec_event rfl hr).trans ?_
      rw [if_pos hdue]
    refine ⟨s.endTest, hexec, State.endTest_surroundings s, hoff, ?_⟩
    rw [hend]
    refine ⟨?_, ?_, State.inletClosing_engine _, State.inletClosing_dosing _, State.inletClosing_door _, fun hphase => ?_,
      fun hphase hvalid => ?_, fun hphase hvalid => ?_⟩
    · rw [State.inletClosing_time]
      rfl
    · rw [State.inletClosing_cycle, hpending]
      rfl
    · rw [hsoftener, hports, State.softenerClosing_exempt (s := s.testClosed.markMoved) hphase]
      exact ⟨rfl, rfl⟩
    · rw [hsoftener, hports, State.softenerClosing_tally (s := s.testClosed.markMoved) hphase hvalid]
      subst hv
      exact ⟨rfl, rfl⟩
    · subst hv
      obtain ⟨haccount, hport⟩ := State.softenerClosing_debit (s := s.testClosed.markMoved)
        (n := counts) (left := left) (bp := bp) hphase hvalid hleft hbp
      obtain ⟨hkept, hmeter, hthreshold, hclock⟩ := s.testClosed_keeps
      refine ⟨by rw [hsoftener, haccount, hmeter, hthreshold], fun p => ?_⟩
      have hraised := hport p
      rw [hkept, hmeter, hthreshold, State.notice, State.now, hclock] at hraised
      exact (congrArg (PerPort.get · p) hports).trans hraised

end Sys2Proof.Machine
end

-- ==== The Action Table (R55 to R58) ====
section
namespace Sys2Proof.Machine

/-! ### What a set of entries makes of the ACTION demands (R58) -/

theorem State.actionDemand_demands (s : State) (e : ActionEntry) (o : Output) : (s.actionDemand e).demands o .action =
    if ∃ v, e.action.demand = some (o, v) then decide (e.action.demand = some (o, true)) else s.demands o .action := by
  unfold State.actionDemand
  cases hd : e.action.demand with
  | some p =>
    obtain ⟨k, v⟩ := p
    simp only [State.putDemand_demands, and_true, Option.some.injEq, Prod.mk.injEq]
    by_cases hk : k = o
    · cases v <;> simp [hk]
    · simp [hk]
  | none =>
    simp only [reduceCtorEq, exists_false, if_false]
    (repeat' split) <;> rfl

/-- R58: entries that do not name an output leave its demand. -/
theorem State.actionDemands_untouched {o : Output} {es : List (Nat × ActionEntry)}
    (h : ∀ e ∈ es, ∀ v, e.2.action.demand ≠ some (o, v)) (s : State) :
    (es.foldl (fun s e => s.actionDemand e.2) s).demands o .action = s.demands o .action := by
  induction es generalizing s with
  | nil => rfl
  | cons e es ih =>
    rw [List.foldl_cons, ih fun x hx => h x (List.mem_cons_of_mem _ hx), State.actionDemand_demands]
    exact if_neg fun ⟨v, hv⟩ => h e List.mem_cons_self v hv

/-- R58: the last entry that names an output decides its demand. -/
theorem State.actionDemands_last {o : Output} {v : Bool} {before after : List (Nat × ActionEntry)} {e : Nat × ActionEntry}
    (he : e.2.action.demand = some (o, v)) (h : ∀ x ∈ after, ∀ w, x.2.action.demand ≠ some (o, w)) (s : State) :
    ((before ++ e :: after).foldl (fun s e => s.actionDemand e.2) s).demands o .action = v := by
  rw [List.foldl_append, List.foldl_cons, State.actionDemands_untouched h, State.actionDemand_demands, if_pos ⟨v, he⟩, he]
  cases v <;> simp

theorem State.executeEntry_demands (s : State) (slot : Nat) (e : ActionEntry) (o : Output) (src : Source) :
    (s.executeEntry slot e).demands o src = s.demands o src := by
  have hhand : (s.actionHandOn e).demands o src = s.demands o src := by
    unfold State.actionHandOn State.requestSample State.resumeHeld
    dsimp only
    (repeat' split) <;> rfl
  unfold State.executeEntry
  dsimp only
  split
  · exact hhand
  · exact hhand

theorem State.executeSet_demands (s : State) (es : List (Nat × ActionEntry)) (o : Output) (src : Source) :
    (s.executeSet es).demands o src = (es.foldl (fun s e => s.actionDemand e.2) s).demands o src := by
  have hhanded (u : State) : (es.foldl (fun s e => s.executeEntry e.1 e.2) u).demands o src = u.demands o src := by
    induction es generalizing u with
    | nil => rfl
    | cons e es ih => rw [List.foldl_cons, ih, State.executeEntry_demands]
  rw [State.executeSet, hhanded, State.demands_evaluate]

/-! ### The entries of a table that satisfy a test -/

theorem mem_entriesWhere {f : ActionEntry → Bool} {i : Nat} {e : ActionEntry} {n : Nat} {table : List (Option ActionEntry)} :
    (i, e) ∈ entriesWhere f n table ↔ n ≤ i ∧ table[i - n]? = some (some e) ∧ f e = true := by
  induction table generalizing n with
  | nil => simp [entriesWhere]
  | cons x table ih =>
    have hlater : (n + 1 ≤ i ∧ table[i - (n + 1)]? = some (some e) ∧ f e = true) ↔
        n < i ∧ (x :: table)[i - n]? = some (some e) ∧ f e = true := by
      refine and_congr_right fun (hlt : n < i) => ?_
      rw [show i - n = i - (n + 1) + 1 by omega, List.getElem?_cons_succ]
    have hfirst : n ≤ i ↔ n = i ∨ n < i := Nat.le_iff_lt_or_eq.trans ⟨.symm, .symm⟩
    cases x with
    | none =>
      rw [entriesWhere, ih, hlater, hfirst]
      refine ⟨fun ⟨hlt, hrest⟩ => ⟨.inr hlt, hrest⟩, ?_⟩
      rintro ⟨rfl | hlt, hget, hf⟩
      · simp at hget
      · exact ⟨hlt, hget, hf⟩
    | some e' =>
      rw [entriesWhere, hfirst]
      by_cases hf' : f e' = true
      · rw [if_pos hf', List.mem_cons, ih, hlater, Prod.mk.injEq]
        constructor
        · rintro (⟨rfl, rfl⟩ | ⟨hlt, hrest⟩)
          · exact ⟨.inl rfl, by simp, hf'⟩
          · exact ⟨.inr hlt, hrest⟩
        · rintro ⟨rfl | hlt, hget, hf⟩
          · simp only [Nat.sub_self, List.getElem?_cons_zero, Option.some.injEq] at hget
            exact .inl ⟨rfl, hget.symm⟩
          · exact .inr ⟨hlt, hget, hf⟩
      · rw [if_neg hf', ih, hlater]
        refine ⟨fun ⟨hlt, hrest⟩ => ⟨.inr hlt, hrest⟩, ?_⟩
        rintro ⟨rfl | hlt, hget, hf⟩
        · simp only [Nat.sub_self, List.getElem?_cons_zero, Option.some.injEq] at hget
          exact absurd (hget ▸ hf) hf'
        · exact ⟨hlt, hget, hf⟩

theorem entriesWhere_append (f : ActionEntry → Bool) (n : Nat) (front back : List (Option ActionEntry)) :
    entriesWhere f n (front ++ back) = entriesWhere f n front ++ entriesWhere f (n + front.length) back := by
  induction front generalizing n with
  | nil => rfl
  | cons x front ih =>
    cases x with
    | none =>
      simp only [List.cons_append, entriesWhere, ih, List.length_cons]
      rw [Nat.add_assoc, Nat.add_comm 1]
    | some e =>
      simp only [List.cons_append, entriesWhere, ih, List.length_cons]
      rw [Nat.add_assoc, Nat.add_comm 1]
      split <;> rfl

theorem entriesWhere_isEmpty {f : ActionEntry → Bool} {table : List (Option ActionEntry)} :
    (entriesWhere f 0 table).isEmpty = true ↔ ∀ e, some e ∈ table → f e = false := by
  rw [List.isEmpty_iff, List.eq_nil_iff_forall_not_mem]
  constructor
  · intro h e he
    obtain ⟨i, hi⟩ := List.mem_iff_getElem?.mp he
    rw [← Bool.not_eq_true]
    exact fun hf => h (i, e) (mem_entriesWhere.mpr ⟨Nat.zero_le _, hi, hf⟩)
  · rintro h ⟨i, e⟩ hmem
    obtain ⟨-, hi, hf⟩ := mem_entriesWhere.mp hmem
    exact Bool.false_ne_true ((h e (List.mem_of_getElem? hi)).symm.trans hf)

/-- R57: what stands behind an entry in the order of the slots is of a higher slot. -/
theorem entriesWhere_split {f : ActionEntry → Bool} {i : Nat} {e : ActionEntry} {table : List (Option ActionEntry)}
    (hi : table[i]? = some (some e)) (he : f e = true) : ∃ before after, entriesWhere f 0 table = before ++ (i, e) :: after
      ∧ ∀ x ∈ after, i < x.1 ∧ table[x.1]? = some (some x.2) ∧ f x.2 = true := by
  obtain ⟨hlt, hget⟩ := List.getElem?_eq_some_iff.mp hi
  have htable : table = table.take i ++ some e :: table.drop (i + 1) := by
    rw [← hget, ← List.drop_eq_getElem_cons hlt, List.take_append_drop]
  have hlength : 0 + (table.take i).length = i := by
    rw [List.length_take]
    omega
  refine ⟨entriesWhere f 0 (table.take i), entriesWhere f (i + 1) (table.drop (i + 1)), ?_, fun ⟨j, e'⟩ hmem => ?_⟩
  · conv => lhs; rw [htable, entriesWhere_append, hlength, entriesWhere, if_pos he]
  · obtain ⟨hle, hj, hf⟩ := mem_entriesWhere.mp hmem
    rw [List.getElem?_drop, Nat.add_sub_cancel' hle] at hj
    exact ⟨hle, hj, hf⟩

/-! ### The due set (R57, R58) -/

theorem State.runDueSet_demands (s : State) (r : CounterRef) (o : Output) : (s.runDueSet r).demands o .action =
    ((entriesWhere (s.entryDue r) 0 s.actions).foldl (fun s e => s.actionDemand e.2)
      (s.withActions (dropEntries (s.entryDue r) s.actions))).demands o .action := State.executeSet_demands _ _ _ _

theorem State.runDueSet_surroundings (s : State) (r : CounterRef) : (s.runDueSet r).surroundings = { s.surroundings with
    actions := s.actions.map (fun x => x.bind (fun e => if s.entryDue r e then none else some e)) } := by
  have hdrop := dropEntries_eq_map_bind (fun e => s.entryDue r e = true) s.actions
  simp only [Bool.decide_eq_true] at hdrop
  rw [← hdrop]
  exact State.executeSet_surroundings _ _

/-- Settles O33: the due entries leave, and of those that name an output the one of the highest slot decides. -/
theorem dueSetExecutesOnce : Obligations.DueSetExecutesOnce := by
  refine fun r s hr => ⟨fun hnone => ?_, fun ⟨e, hmem, hdue⟩ => ?_⟩
  · refine (exec_event rfl hr).trans ?_
    rw [if_pos (entriesWhere_isEmpty.mpr hnone)]
  · have hexec : exec (.actionDueSet r) s = .next (s.runDueSet r) := by
      refine (exec_event rfl hr).trans ?_
      rw [if_neg fun hempty => Bool.false_ne_true ((entriesWhere_isEmpty.mp hempty e hmem).symm.trans hdue)]
    refine ⟨s.runDueSet r, hexec, s.runDueSet_surroundings r, State.executeSet_settled _ _, fun o _ => ⟨?_, ?_⟩⟩
    · intro i e v hi hdue hdemand hlast
      obtain ⟨before, after, hsplit, hafter⟩ := entriesWhere_split hi hdue
      rw [State.runDueSet_demands, hsplit]
      refine State.actionDemands_last hdemand (fun x hx w => ?_) _
      obtain ⟨hlt, hx, hdue'⟩ := hafter x hx
      exact hlast x.1 x.2 hlt hx hdue' w
    · intro hnone
      rw [State.runDueSet_demands]
      refine State.actionDemands_untouched (fun x hx v => ?_) _
      obtain ⟨-, hget, hdue'⟩ := mem_entriesWhere.mp (show (x.1, x.2) ∈ _ from hx)
      exact hnone x.2 v (List.mem_of_getElem? hget) hdue'

/-! ### POST ACTION (R55, R56) -/

section
variable {p : Port} {ref t3 t2 t1 t0 act arg notify : Byte} {r : CounterRef} {a : Action} {s : State}

/-- R55: the entry that the fields of a POST ACTION spell. -/
theorem entryPosted_eq (hr : counterOf ref.toNat = some r) (ha : actionOf act.toNat = some a) (harg : arg.toNat ≤ a.argMax) :
    entryPosted p [ref, t3, t2, t1, t0, act, arg, notify, 0] = some
      { owner := p, ref := r, target := t3 ++ t2 ++ t1 ++ t0, action := a, arg := arg, notify := decide (notify = 1) } := by
  have htarget : BitVec.ofNat 32 (fieldAt [ref, t3, t2, t1, t0, act, arg, notify, 0] 1 4) = t3 ++ t2 ++ t1 ++ t0 := by
    change BitVec.ofNat 32 (beValue [t3, t2, t1, t0]) = _
    rw [beValue_four, BitVec.ofNat_toNat]
    exact BitVec.setWidth_eq _
  have hnotify : (notify.toNat == 1) = decide (notify = 1) := by
    rw [Bool.eq_iff_iff, beq_iff_eq, decide_eq_true_iff, ← BitVec.toNat_inj]
    rfl
  have href : byteAt [ref, t3, t2, t1, t0, act, arg, notify, 0] 0 = ref.toNat := rfl
  have hact : byteAt [ref, t3, t2, t1, t0, act, arg, notify, 0] 5 = act.toNat := rfl
  have hargByte : byteAt [ref, t3, t2, t1, t0, act, arg, notify, 0] 6 = arg.toNat := rfl
  have hlast : byteAt [ref, t3, t2, t1, t0, act, arg, notify, 0] 7 = notify.toNat := rfl
  rw [entryPosted, htarget, href, hact, hargByte, hlast, hr, ha, hnotify, BitVec.ofNat_toNat, BitVec.setWidth_eq]
  exact if_pos harg

theorem actionBytesOk_eq (hnotify : notify ≤ 1) : actionBytesOk [ref, t3, t2, t1, t0, act, arg, notify, 0] = true := by
  have hle : notify.toNat ≤ 1 := hnotify
  change (decide (notify.toNat ≤ 1) && _) = true
  rw [decide_eq_true hle]
  rfl

/-- R54: a resume is refused to a port that does not hold its lane. -/
theorem State.resumeNotHeld_eq_true {e : ActionEntry} {l : Lane} (ha : e.action = .resumeLane) (hl : laneOf e.arg.toNat = some l)
    (hp : (s.lane l).holder ≠ some p) : s.resumeNotHeld p e = true := by
  simp only [State.resumeNotHeld, ha, hl, decide_true, Bool.true_and]
  exact decide_eq_true hp

theorem State.resumeNotHeld_eq_false {e : ActionEntry} (harg : e.arg.toNat ≤ e.action.argMax)
    (h : ∀ l, e.action = .resumeLane → laneOf e.arg.toNat = some l → (s.lane l).holder = some p) :
    s.resumeNotHeld p e = false := by
  by_cases ha : e.action = .resumeLane
  · obtain ⟨l, hl⟩ : ∃ l, laneOf e.arg.toNat = some l := by
      rw [ha] at harg
      match e.arg.toNat, harg with
      | 0, _ => exact ⟨.water, rfl⟩
      | 1, _ => exact ⟨.dose, rfl⟩
    simp only [State.resumeNotHeld, hl, h l ha hl, ne_eq, not_true, decide_false, Bool.and_false]
  · rw [State.resumeNotHeld, decide_eq_false ha]
    rfl

end

/-- Settles O32: the refusals in their order, and the entry that takes the lowest empty slot or is executed at once. -/
theorem postAction : Obligations.PostAction := by
  intro q s ref t3 t2 t1 t0 act arg notify r a hq hpay hnotify
  refine ⟨fun hopen => serve_handed_say hq ?notReady, fun hlocked hr ha harg => ?locked⟩
  case notReady =>
    rw [State.postAction, hpay, actionBytesOk_eq hnotify, hopen]
    rfl
  case locked =>
    have hentry := entryPosted_eq (p := q.port) (t3 := t3) (t2 := t2) (t1 := t1) (t0 := t0) (notify := notify) hr ha harg
    have hpost : s.postAction q = (match entryPosted q.port q.payload with
        | none => s.say .badField
        | some e => if s.resumeNotHeld q.port e then s.say .notHolder
          else match s.actions.findIdx? Option.isNone with
            | none => s.say .tableFull
            | some slot => s.placeEntry slot e) := by
      rw [State.postAction, hpay, actionBytesOk_eq hnotify, hlocked]
      rfl
    rw [hpay, hentry] at hpost
    generalize hnamed : ActionEntry.mk q.port r (t3 ++ t2 ++ t1 ++ t0) a arg (decide (notify = 1)) = e at hpost
    obtain rfl : a = e.action := hnamed ▸ rfl
    obtain rfl : arg = e.arg := hnamed ▸ rfl
    obtain rfl : r = e.ref := hnamed ▸ rfl
    have htarget : t3 ++ t2 ++ t1 ++ t0 = e.target := congrArg ActionEntry.target hnamed
    dsimp only at hpost
    refine ⟨fun l hresume hl hother => serve_handed_say hq ?_, fun hholds => ⟨fun hfull => serve_handed_say hq ?_,
      fun slot _ hslot hfirst => ⟨fun hahead => serve_handed_say hq ?_, fun hreached => ?_⟩⟩⟩
    · rw [hpost]
      exact if_pos (State.resumeNotHeld_eq_true hresume hl hother)
    all_goals
      have hheld := State.resumeNotHeld_eq_false (s := s) (p := q.port) (e := e) harg hholds
      rw [hheld] at hpost
    · rw [hpost, findIdx?_isNone_eq_none hfull]
      rfl
    all_goals
      rw [findIdx?_isNone_eq_some hslot hfirst] at hpost
      replace hpost : s.postAction q = s.placeEntry slot _ := hpost
      rw [State.placeEntry] at hpost
    · rw [hpost]
      exact if_neg fun hreached => Bool.false_ne_true (hahead.symm.trans (htarget ▸ hreached))
    · refine ⟨_, serve_handed_say hq (hpost.trans (if_pos (htarget ▸ hreached))), State.executeSet_surroundings _ _,
        State.executeSet_settled _ _, fun o v hdemand => ?_⟩
      rw [State.executeSet_demands]
      exact State.actionDemands_last (before := []) (after := []) hdemand (fun _ h => absurd h List.not_mem_nil) s

end Sys2Proof.Machine
end

-- ==== Counted failures (R76, R78, R95, R119, R121, R134) ====
section
namespace Sys2Proof.Machine

/-! ### A try that ends in a counted failure -/

/-- R76: the end of a try leaves of its lane all but the head's actual value, which only a DOSE changes. -/
theorem State.tryEnd_lane {s : State} {l : Lane} {h : StepRec} {rest : List StepRec} (hstate : (s.lane l).state ≠ .waiting)
    (hq : (s.lane l).queue = h :: rest) : ∃ v, (s.tryEnd l).lane l = { s.lane l with queue := { h with actual := v } :: rest }
      ∧ (l = .water → v = h.actual) := by
  cases l with
  | water =>
    refine ⟨h.actual, ?_, fun _ => rfl⟩
    rw [State.tryEnd_water s hstate, ← hq]
  | dose =>
    obtain ⟨f, hf, heq⟩ := State.tryEnd_dose s hstate
    obtain ⟨v, hv⟩ := hf h
    refine ⟨v, ?_, nofun⟩
    rw [heq, hq, modFirst, hv]

/-- R76, R78, R121: the part after a counted failure, with this result, of the try of the lane's head. -/
def State.countedFailure (s t : State) (l : Lane) (r : StepResult) (h : StepRec) (rest : List StepRec) : Prop :=
  t.surroundings = s.surroundings ∧ t.settled = true
  ∧ (∀ o, t.demands o l.source = false)
  ∧ (∀ o src, src ≠ l.source → src ≠ .softener → t.demands o src = s.demands o src)
  ∧ (∀ force, l = .water → h.work = .regenerate force → s.softener.phase ≠ .none → s.abandoned t)
  ∧ ∃ h', (t.lane l).queue = h' :: rest ∧ h'.id = h.id ∧ h'.work = h.work ∧ h'.tries = h.tries
    ∧ h'.triesUsed = h.triesUsed + 1 ∧ h'.result = r ∧ h'.count = h.count ∧ h'.countTarget = h.countTarget
    ∧ h'.progress = h.progress ∧ (l = .water → h'.actual = h.actual)
    ∧ (h.triesUsed + 1 < h.tries → (t.lane l).state = .retryWait ∧ (t.lane l).retry = s.timer 5000
        ∧ h'.status = h.status ∧ (t.lane l).last = (s.lane l).last)
    ∧ (h.tries ≤ h.triesUsed + 1 → (t.lane l).state = .stalled ∧ h'.status = .failed ∧ h'.endTime = some s.time.clock
        ∧ (t.lane l).last = some { step := h', manner := .failed })

/-- R78: the lane, its head and its last result after a counted failure. -/
theorem State.endCounted_lane {s : State} {l : Lane} (r : StepResult) {h : StepRec} {rest : List StepRec}
    (hstate : (s.lane l).state ≠ .waiting) (hq : (s.lane l).queue = h :: rest) : ∃ v, (l = .water → v = h.actual)
      ∧ (s.endCounted l r).lane l = if h.triesUsed + 1 < h.tries then
          { (s.lane l).quiet with
            state := .retryWait, retry := s.timer 5000,
            queue := { h with actual := v, triesUsed := h.triesUsed + 1, result := r } :: rest }
        else
          { (s.lane l).quiet with
            state := .stalled,
            queue := { h with
              actual := v, triesUsed := h.triesUsed + 1, result := r, status := .failed, endTime := some s.now } :: rest,
            last := some {
              step := { h with
                actual := v, triesUsed := h.triesUsed + 1, result := r, status := .failed, endTime := some s.now },
              manner := .failed } } := by
  obtain ⟨v, hlane, hv⟩ := State.tryEnd_lane hstate hq
  refine ⟨v, hv, ?_⟩
  rw [State.endCounted, State.concludeCounted_lane _ _ _ { h with actual := v } rest (by rw [hlane]), hlane,
    State.timer_of_surroundings (State.tryEnd_surroundings s l), State.tryEnd_now]
  rfl

theorem State.endCounted_countedFailure {s : State} {l : Lane} (r : StepResult) {h : StepRec} {rest : List StepRec}
    (hstate : (s.lane l).state ≠ .waiting) (hq : (s.lane l).queue = h :: rest) :
    s.countedFailure (s.endCounted l r) l r h rest := by
  refine ⟨State.endCounted_surroundings s l r, State.endCounted_settled s l r, fun o => ?_, fun o src h1 h2 => ?_,
    fun force hl hw hphase => ?_, ?_⟩
  · rw [State.endCounted, State.concludeCounted_demands, State.tryEnd_withdraws]
  · rw [State.endCounted, State.concludeCounted_demands, State.tryEnd_demands _ _ _ _ h1 h2]
  · subst hl
    have hapart := State.concludeCounted_apart (s.tryEnd .water) .water r
    exact State.abandoned_of (State.tryEnd_abandoned hstate (State.head_of_queue hq) hw hphase)
      (State.concludeCounted_guardCore _ _ _) (State.softener_of_apart hapart) (State.time_of_apart hapart)
  · obtain ⟨v, hv, hlane⟩ := State.endCounted_lane r hstate hq
    rw [hlane]
    by_cases htries : h.triesUsed + 1 < h.tries
    · rw [if_pos htries]
      exact ⟨_, rfl, rfl, rfl, rfl, rfl, rfl, rfl, rfl, rfl, hv, fun _ => ⟨rfl, rfl, rfl, rfl⟩,
        fun hle => absurd htries (Nat.not_lt.mpr hle)⟩
    · rw [if_neg htries]
      exact ⟨_, rfl, rfl, rfl, rfl, rfl, rfl, rfl, rfl, rfl, hv, fun hlt => absurd hlt htries,
        fun _ => ⟨rfl, rfl, rfl, rfl⟩⟩

/-! ### The windows whose expiry is such a failure -/

/-- Two states that a counted failure in a lane leaves alike. -/
def State.sameTry (s u : State) (l : Lane) : Prop :=
  u.surroundings = s.surroundings ∧ u.lane l = s.lane l ∧ u.guard = s.guard ∧ u.softener.steady = s.softener.steady

theorem State.countedFailure_congr {s u t : State} {l : Lane} {r : StepResult} {h : StepRec} {rest : List StepRec}
    (hsame : s.sameTry u l) (hu : u.countedFailure t l r h rest) : s.countedFailure t l r h rest := by
  obtain ⟨hsurr, hlane, hguard, hsteady⟩ := hsame
  obtain ⟨htsurr, hsettled, hwithdrawn, hothers, hregen, h', hqueue, hid, hwork, htries, hused, hresult, hcount, htarget,
    hprogress, hactual, hretry, hlast⟩ := hu
  have hclock : u.time.clock = s.time.clock := congrArg Surroundings.clock hsurr
  have hdemands (o : Output) (src : Source) : u.demands o src = s.demands o src := by
    rw [State.demands, State.out, hguard]
    rfl
  rw [hlane, State.timer_of_surroundings hsurr] at hretry
  rw [hclock] at hlast
  exact ⟨htsurr.trans hsurr, hsettled, hwithdrawn, fun o src h1 h2 => (hothers o src h1 h2).trans (hdemands o src),
    fun force hl hw hphase => State.abandoned_congr hsteady
      (hregen force hl hw (by rw [State.phase_of_steady hsteady]; exact hphase)),
    h', hqueue, hid, hwork, htries, hused, hresult, hcount, htarget, hprogress, hactual, hretry, hlast⟩

/-- A failure of a RUNNING lane, its window stopped. -/
theorem State.failCounted_countedFailure {s u : State} {l : Lane} (r : StepResult) {h : StepRec} {rest : List StepRec}
    (hstate : (s.lane l).state = .running) (hq : (s.lane l).queue = h :: rest) (hsame : s.sameTry u l) :
    s.countedFailure (u.failCounted l r) l r h rest := by
  obtain ⟨-, hlane, -⟩ := id hsame
  have htry : (u.lane l).inTry = true := by
    rw [hlane, LaneRec.inTry, hstate]
    rfl
  rw [State.failCounted, if_pos htry]
  exact State.countedFailure_congr hsame
    (State.endCounted_countedFailure r (by rw [hlane, hstate]; decide) (by rw [hlane]; exact hq))

theorem State.limitReached_of_running {s : State} {l : Lane} {h : StepRec} {rest : List StepRec} {d : Nat}
    (hstate : (s.lane l).state = .running) (hq : (s.lane l).queue = h :: rest) (hd : h.work.defaultLimit = some d)
    (hlimit : (if h.limit = 0 then d else h.limit) * 100 ≤ (s.lane l).running) : s.limitReached l = true := by
  have htry : (s.lane l).inTry = true := by
    rw [LaneRec.inTry, hstate]
    rfl
  rw [State.limitReached, htry, State.headIs, State.head_of_queue hq]
  simp only [StepRec.limitMs, hd, Option.map_some, Bool.true_and]
  exact decide_eq_true hlimit

/-- Settles O39: a time limit or a window that expires ends the try of its RUNNING lane. -/
theorem countedFailures : Obligations.CountedFailures := by
  intro c l r h rest s hr hstate hq hcase
  obtain ⟨t, hexec, ht⟩ : ∃ t, exec c s = .next t ∧ s.countedFailure t l r h rest := by
    rcases hcase with ⟨d, rfl, hd, hlimit, rfl⟩ | ⟨rfl, rfl, hactive, hfill, hdue, rfl⟩ | ⟨rfl, rfl, hphase, hdue, rfl⟩
      | ⟨rfl, rfl, hdue, rfl⟩ | ⟨d, rfl, rfl, hd, hdue, rfl⟩
    · refine ⟨s.endCounted l h.work.limitResult, (exec_event rfl hr).trans ?_, ?_⟩
      · rw [if_pos (State.limitReached_of_running hstate hq hd hlimit), State.limitExpires, State.head_of_queue hq]
      · have hresult : (match h.work with | .drain _ => .notDrained | _ => .timeout) = h.work.limitResult := by
          cases h.work <;> rfl
        exact hresult ▸ State.endCounted_countedFailure _ (by rw [hstate]; decide) hq
    · refine ⟨_, (exec_event rfl hr).trans ?_, State.failCounted_countedFailure .noFlow hstate hq
        (u := s.withEngine { s.engine with fillNoFlow := none }) ⟨rfl, rfl, rfl, rfl⟩⟩
      have hactive : s.activeWork .water (fun w => w.isFill) = true := by
        rw [State.activeWork, State.headIs, State.head_of_queue hq]
        simp [hactive, hfill]
      rw [if_pos (by rw [hdue, hactive]; rfl)]
    · refine ⟨_, (exec_event rfl hr).trans ?_, State.failCounted_countedFailure .noFlow hstate hq
        (u := s.modSoftener (fun f => { f with noFlow := none })) ⟨rfl, rfl, rfl, rfl⟩⟩
      rw [if_pos (by rw [hdue, decide_eq_true hphase]; rfl)]
    · refine ⟨_, (exec_event rfl hr).trans ?_, State.failCounted_countedFailure .noWater hstate hq
        (u := s.withEngine { s.engine with waterDry := none }) ⟨rfl, rfl, rfl, rfl⟩⟩
      rw [if_pos hdue]
    · have hmod : s.modDose (fun r => { r with dry := none }) = s.withDose (some { d with dry := none }) := by
        rw [State.modDose, hd]
      refine ⟨_, (exec_event rfl hr).trans ?_, State.failCounted_countedFailure .noWater hstate hq
        (u := s.withDose (some { d with dry := none })) ⟨rfl, rfl, rfl, rfl⟩⟩
      rw [if_pos (by rw [State.doseDue, hd]; exact hdue), hmod]
  exact ⟨t, hexec, ht⟩

end Sys2Proof.Machine
end

-- ==== Steps that succeed (R77, R93, R97, R100, R104) ====
section
namespace Sys2Proof.Machine

/-! ### The end of a try that no block is told of -/

/-- The kinds of the WATER lane whose try ends in the Step Engine alone (R76). -/
def Work.isPlain : Work → Bool
  | .fill _ _ | .drain _ | .circulate _ _ | .heat _ _ | .pause _ => true
  | .regenerate _ | .autoOpen | .dose _ _ => false

theorem State.tellTryEnd_plain {s : State} {l : Lane} {h : StepRec} (hh : s.head l = some h) (hplain : h.work.isPlain = true) :
    s.tellTryEnd l = s := by
  rw [State.tellTryEnd, hh]
  dsimp only
  split <;> first | rfl | (rename_i hw; rw [hw] at hplain; exact nomatch hplain)

theorem State.tryEnd_plain {s : State} {h : StepRec} (hstate : (s.lane .water).state ≠ .waiting)
    (hh : s.head .water = some h) (hplain : h.work.isPlain = true) : s.tryEnd .water =
      (s.withdrawAll .water).withEngine { (s.withdrawAll .water).engine with fillNoFlow := none, waterDry := none } := by
  rw [State.tryEnd_water_eq, State.tellTryEnd_plain ((State.withdrawAll_head hstate _).trans hh) hplain]

theorem State.withdrawAll_refVolume (s : State) (src : Source) :
    (s.withdrawAll src).engine.refVolume = s.engine.refVolume := by
  rw [State.withdrawAll, State.evaluate_refVolume]
  exact State.putDemands_keeps (fun u => u.engine.refVolume) (fun _ _ _ _ => rfl) s src false _

/-! ### The success of a step -/

/-- R77: the lane after its head has left it as a success. -/
theorem LaneRec.advance_eq (r : LaneRec) (hold : Bool) (hquiet : r.waitCause = none ∧ r.attemptDue = false) :
    r.advance hold = { r with
      holdAfter := false
      state := if hold || r.holdAfter then .held else if r.queue = [] then .idle else .ready } := by
  obtain ⟨hcause, hdue⟩ := hquiet
  unfold LaneRec.advance
  by_cases hhold : (hold || r.holdAfter) = true
  · rw [if_pos hhold, if_pos hhold]
  · have hafter : r.holdAfter = false := (Bool.or_eq_false_iff.mp (Bool.not_eq_true _ ▸ hhold)).2
    rw [if_neg hhold, if_neg hhold]
    by_cases hempty : r.queue = []
    · rw [if_pos hempty, if_pos (List.isEmpty_iff.mpr hempty), ← hafter]
    · rw [if_neg hempty, if_neg fun h => hempty (List.isEmpty_iff.mp h), ← hafter]
      unfold LaneRec.toReady
      rw [← hcause, ← hdue]

@[simp] theorem State.releaseExclusion_ports (s : State) : s.releaseExclusion.ports = s.ports := by
  have hlane (u : State) (l : Lane) : (u.releaseLane l).ports = u.ports := by
    unfold State.releaseLane
    split <;> rfl
  rw [State.releaseExclusion, hlane, hlane]

theorem State.raiseStep_port {s : State} {l : Lane} {n : Notice} {p : Port} (hp : (s.lane l).holder = some p) :
    (s.raiseStep l n).port p = (s.port p).enter n := by
  rw [State.raiseStep, hp]
  dsimp only
  rw [State.enterFor_port, if_pos List.mem_cons_self]

/-- R158: the notice that a success raises for the holder of its lane. -/
theorem State.concludeSuccess_port {s : State} {l : Lane} {flags : ResultFlags} {h : StepRec} {p : Port}
    (hh : s.head l = some h) (hp : (s.lane l).holder = some p) (hnotify : h.notify = true) :
    ∃ r : PortRec, (s.concludeSuccess l flags).port p = r.enter (s.notice .stepDone l.number h.id h.actual) := by
  rw [State.concludeSuccess, hh]
  dsimp only
  rw [if_pos hnotify]
  generalize hs2 : (State.setRefFrom _ _).dropDose l = s2
  have hholder : (s2.lane l).holder = some p := by
    have hkeeps (u : State) (t : StepRec) : ((u.setRefFrom t).dropDose l).lane l = u.lane l :=
      State.lane_eq_of_lanes l (by rw [State.dropDose_engine, State.setRefFrom_lanes])
    rw [← hs2, hkeeps, State.modLane_lane, LaneRec.advance_holder]
    exact hp
  refine ⟨s2.port p, ?_⟩
  rw [State.port, State.releaseExclusion_ports]
  exact State.raiseStep_port hholder

/-- R77: a lane whose head has left it as a success, at this time. -/
def LaneRec.succeeded (r : LaneRec) (done : StepRec) (rest : List StepRec) (flags : ResultFlags) (now : Word) : LaneRec :=
  { r with
    queue := rest, waitCause := none, pauseDoor := false, pauseSupply := false, pausedFromWait := false, retry := none,
    laneSettle := none, attemptDue := false, holdAfter := false,
    state := if done.hold || r.holdAfter then .held else if rest = [] then .idle else .ready,
    last := some { step := { done with status := .done, result := .ok, flags := flags, endTime := some now }, manner := .done } }

theorem State.concludeSuccess_succeeded {s : State} {l : Lane} {done : StepRec} {rest : List StepRec} (flags : ResultFlags)
    (hq : (s.lane l).queue = done :: rest) :
    (s.concludeSuccess l flags).lane l = (s.lane l).succeeded done rest flags s.now := by
  rw [State.concludeSuccess_lane s l flags done rest hq, LaneRec.advance_eq _ _ ⟨rfl, rfl⟩]
  rfl

section
variable {s : State} {done : StepRec} {rest : List StepRec} (hstate : (s.lane .water).state ≠ .waiting)
  (hq : (s.lane .water).queue = done :: rest)
include hstate hq

theorem State.succeed_lane (flags : ResultFlags) :
    (s.succeed .water flags none).lane .water = (s.lane .water).succeeded done rest flags s.now := by
  have hlane := State.tryEnd_water s hstate
  rw [State.succeed, State.concludeSuccess_succeeded flags (by rw [hlane]; exact hq), hlane, State.tryEnd_now]

theorem State.succeed_port {flags : ResultFlags} {p : Port} (hp : (s.lane .water).holder = some p)
    (hnotify : done.notify = true) : ∃ r : PortRec, (s.succeed .water flags none).port p =
      r.enter (s.notice .stepDone 0 done.id done.actual) := by
  have hlane := State.tryEnd_water s hstate
  obtain ⟨r, hr⟩ := State.concludeSuccess_port (s := s.tryEnd .water) (flags := flags) (State.head_of_queue (by rw [hlane]; exact hq))
    (by rw [hlane]; exact hp) hnotify
  refine ⟨r, hr.trans ?_⟩
  rw [State.notice, State.tryEnd_now]
  rfl

variable (hplain : done.work.isPlain = true)
include hplain

theorem State.succeed_demands (flags : ResultFlags) (o : Output) (src : Source) :
    (s.succeed .water flags none).demands o src = if Source.water = src then false else s.demands o src := by
  rw [State.succeed, State.demands_of_guardCore (State.concludeSuccess_guardCore _ _ _),
    State.tryEnd_plain hstate (State.head_of_queue hq) hplain, ← State.withdrawAll_demands]
  rfl

theorem State.succeed_refVolume (flags : ResultFlags) : (s.succeed .water flags none).engine.refVolume =
    if done.work.isFill then some done.actual else s.engine.refVolume := by
  have hlane := State.tryEnd_water s hstate
  rw [State.succeed, State.concludeSuccess_refVolume (State.head_of_queue (by rw [hlane]; exact hq)),
    State.tryEnd_plain hstate (State.head_of_queue hq) hplain]
  exact congrArg (fun v => if done.work.isFill then some done.actual else v) (State.withdrawAll_refVolume s .water)

end

/-! ### The steps that end in success of themselves -/

/-- R77: the part after a plain step of the WATER lane has succeeded. -/
def State.stepSucceeded (s t : State) (done : StepRec) (rest : List StepRec) (flags : ResultFlags) : Prop :=
  t.surroundings = s.surroundings ∧ t.settled = true ∧ (∀ o, t.demands o .water = false)
  ∧ (∀ o src, src ≠ .water → t.demands o src = s.demands o src)
  ∧ t.engine.refVolume = (if done.work.isFill then some done.actual else s.engine.refVolume)
  ∧ t.lane .water = (s.lane .water).succeeded done rest flags s.now
  ∧ ∀ p, (s.lane .water).holder = some p → done.notify = true → ∃ r : PortRec, t.port p = r.enter
      (s.notice .stepDone 0 done.id done.actual)

theorem State.succeed_stepSucceeded {s : State} {done : StepRec} {rest : List StepRec} (flags : ResultFlags)
    (hstate : (s.lane .water).state ≠ .waiting) (hq : (s.lane .water).queue = done :: rest)
    (hplain : done.work.isPlain = true) : s.stepSucceeded (s.succeed .water flags none) done rest flags :=
  ⟨State.succeed_surroundings _ _ _ _, State.succeed_settled _ _ _ _,
    fun o => (State.succeed_demands hstate hq hplain flags o .water).trans (if_pos rfl),
    fun o src hsrc => (State.succeed_demands hstate hq hplain flags o src).trans (if_neg (Ne.symm hsrc)),
    State.succeed_refVolume hstate hq hplain flags, State.succeed_lane hstate hq flags,
    fun _ hp hnotify => State.succeed_port hstate hq hp hnotify⟩

theorem State.succeed_some (s : State) (l : Lane) (flags : ResultFlags) (v : Nat) :
    s.succeed l flags (some v) = (s.modHead l (fun t => { t with actual := fit32 v })).succeed l flags none := rfl

theorem State.modHead_of_fixed {s : State} {l : Lane} {h : StepRec} {rest : List StepRec} (hq : (s.lane l).queue = h :: rest)
    {f : StepRec → StepRec} (hf : f h = h) : s.modHead l f = s := by
  have hlane := State.modHead_lane hq f
  rw [hf, ← hq] at hlane
  cases l
  · exact congrArg (s.withLane .water) ((State.modLane_lane s .water _).symm.trans hlane)
  · exact congrArg (s.withLane .dose) ((State.modLane_lane s .dose _).symm.trans hlane)

/-- R91, R93: the part when the edge that completes a FILL is counted. -/
theorem State.strayTaken_fillCounted {s : State} {h : StepRec} {rest : List StepRec} (hq : (s.lane .water).queue = h :: rest) :
    s.strayTaken.fillCounted.surroundings = { s.surroundings with flow := s.time.flow + 1 }
    ∧ s.strayTaken.fillCounted.guard = s.guard ∧ s.strayTaken.fillCounted.softener = s.softener
    ∧ s.strayTaken.fillCounted.engine.refVolume = s.engine.refVolume
    ∧ s.strayTaken.fillCounted.lane .water = { s.lane .water with
        queue := { h with count := h.count + 1, actual := fit32 (s.toMl (h.count + 1)) } :: rest } := by
  obtain ⟨stray, count, ports, htaken⟩ := s.strayTaken_eq
  have hsurr : s.strayTaken.fillCounted.surroundings = s.strayTaken.surroundings := State.modHead_surroundings _ _ _
  refine ⟨hsurr.trans (State.strayEdge_surroundings _), by rw [htaken]; rfl, by rw [htaken]; rfl, by rw [htaken]; rfl, ?_⟩
  rw [htaken]
  exact State.fillCounted_lane (s := (s.withTime { s.time with
      flow := s.time.flow + 1, stray := stray, strayCount := count }).withPorts ports) hq

theorem State.succeed_phase {s : State} {h : StepRec} (flags : ResultFlags) (hstate : (s.lane .water).state ≠ .waiting)
    (hh : s.head .water = some h) (hplain : h.work.isPlain = true) :
    (s.succeed .water flags none).softener.phase = s.softener.phase := by
  have hby : (s.succeed .water flags none).bystanders = s.bystanders := by
    rw [State.succeed, State.concludeSuccess_bystanders, State.tryEnd_plain hstate hh hplain, State.withEngine_bystanders, State.withdrawAll_bystanders]
  exact congrArg Bystanders.phase hby

theorem Work.isPlain_of_fill {w : Work} (h : w.isFill = true) : w.isPlain = true := by
  cases w <;> first | rfl | exact nomatch h

/-- R93: the edge that completes a FILL. -/
theorem State.countEdge_completes {s : State} {h : StepRec} {rest : List StepRec} (hphase : s.softener.phase = .none)
    (hq : (s.lane .water).queue = h :: rest) (hactive : h.status = .active) (hfill : h.work.isFill = true)
    (hcount : h.count + 1 = h.countTarget) (htry : (s.lane .water).tryInProgress = true)
    (hstate : (s.lane .water).state ≠ .waiting) :
    s.countEdge = s.strayTaken.fillCounted.succeed .water ResultFlags.clear none := by
  obtain ⟨-, -, hsoftener, -, hlane⟩ := State.strayTaken_fillCounted hq
  obtain ⟨stray, count, ports, htaken⟩ := s.strayTaken_eq
  have hsame : s.strayTaken.lane .water = s.lane .water := by
    rw [htaken]
    rfl
  have hml : s.strayTaken.toMl (h.count + 1) = s.toMl (h.count + 1) := by
    rw [htaken]
    rfl
  have hfixed := State.modHead_of_fixed (s := s.strayTaken.fillCounted) (l := .water)
    (f := fun t => { t with actual := fit32 (s.toMl (h.count + 1)) }) (rest := rest) (by rw [hlane]) rfl
  have hedge : s.strayTaken.fillEdge = s.strayTaken.fillCounted.succeed .water ResultFlags.clear none := by
    rw [State.fillEdge_eq (hsame ▸ hq) hactive hfill, if_pos ⟨hcount, hsame ▸ htry⟩, State.succeed_some, hml, hfixed]
  have hnone := State.succeed_phase (s := s.strayTaken.fillCounted) (h := { h with
    count := h.count + 1, actual := fit32 (s.toMl (h.count + 1)) }) ResultFlags.clear (by rw [hlane]; exact hstate)
    (State.head_of_queue (by rw [hlane])) (Work.isPlain_of_fill hfill)
  rw [State.countEdge_eq, hedge, State.regenEdge_none (hnone.trans (by rw [hsoftener]; exact hphase))]

theorem State.surroundings_of_idle (s : State) : s.surroundings = { s.surroundings with flow := s.time.flow + 0 } :=
  congrArg (fun flow : Word => { s.surroundings with flow := flow }) (BitVec.add_zero s.time.flow).symm

theorem State.waterMeets_of_running {s : State} {h : StepRec} {rest : List StepRec} {f : StepRec → Bool}
    (hrun : (s.lane .water).state = .running) (hq : (s.lane .water).queue = h :: rest) (hf : f h = true) :
    s.waterMeets f = true := by
  rw [State.waterMeets, State.headIs, State.head_of_queue hq, decide_eq_true hrun]
  exact hf

/-- Settles O41: each end is the success of its step. -/
theorem stepsSucceed : Obligations.StepsSucceed := by
  intro c h done rest s hr hq hactive hcase
  obtain ⟨u, hexec, hsurr, hguard, href, hlane, hplain, ⟨hwork, hhold, hnotify, hid⟩, hstate⟩ : ∃ u : State,
      exec c s = .next (u.succeed .water ResultFlags.clear none)
      ∧ u.surroundings = { s.surroundings with flow := s.time.flow + (if c = .flowEdge true then 1 else 0) }
      ∧ u.guard = s.guard ∧ u.engine.refVolume = s.engine.refVolume
      ∧ u.lane .water = { s.lane .water with queue := done :: rest } ∧ done.work.isPlain = true
      ∧ (done.work = h.work ∧ done.hold = h.hold ∧ done.notify = h.notify ∧ done.id = h.id)
      ∧ (s.lane .water).state ≠ .waiting := by
    rcases hcase with ⟨hrun, ⟨runOn, rfl, hw, hdone, hlow, rfl⟩ | ⟨d, x, rfl, hw, hdone, rfl⟩ | ⟨d, rfl, hw, hdone, rfl⟩⟩
      | ⟨hstates, rfl, hfill, hphase, hcount, rfl⟩
    · refine ⟨s.modHead .water (fun t => { t with actual := fit32 (s.lane .water).running }), (exec_event rfl hr).trans ?_,
        s.surroundings_of_idle, rfl, rfl, State.modHead_lane hq _, by rw [hw]; rfl, ⟨rfl, rfl, rfl, rfl⟩, by rw [hrun]; decide⟩
      have hmeets : s.runOnComplete h = true := by
        simp only [State.runOnComplete, hw, hlow, decide_eq_true hdone, decide_true, Bool.and_self]
      rw [if_pos (State.waterMeets_of_running hrun hq hmeets), State.succeed_some]
    · refine ⟨s, (exec_event rfl hr).trans ?_, s.surroundings_of_idle, rfl, rfl, by rw [← hq], by rw [hw]; rfl,
        ⟨rfl, rfl, rfl, rfl⟩, by rw [hrun]; decide⟩
      have hmeets : done.circulated = true := by
        simp only [StepRec.circulated, hw, decide_eq_true hdone]
      rw [if_pos (State.waterMeets_of_running hrun hq hmeets)]
    · refine ⟨s, (exec_event rfl hr).trans ?_, s.surroundings_of_idle, rfl, rfl, by rw [← hq], by rw [hw]; rfl,
        ⟨rfl, rfl, rfl, rfl⟩, by rw [hrun]; decide⟩
      have hmeets : done.paused = true := by
        simp only [StepRec.paused, hw, decide_eq_true hdone]
      rw [if_pos (State.waterMeets_of_running hrun hq hmeets)]
    · obtain ⟨htry, hstate⟩ := LaneRec.tryInProgress_of_mem hstates
      obtain ⟨hsurr, hguard, -, href, hlane⟩ := State.strayTaken_fillCounted hq
      refine ⟨s.strayTaken.fillCounted, ?_, hsurr, hguard, href, hlane, Work.isPlain_of_fill hfill, ⟨rfl, rfl, rfl, rfl⟩,
        hstate⟩
      rw [State.flowEdge_counted hr (.inr rfl), State.countEdge_completes hphase hq hactive hfill hcount htry hstate]
  obtain ⟨htsurr, hsettled, hwithdrawn, hothers, htref, htlane, hport⟩ :=
    State.succeed_stepSucceeded (s := u) (rest := rest) ResultFlags.clear (by rw [hlane]; exact hstate) (by rw [hlane]) hplain
  have hclock : u.time.clock = s.time.clock := congrArg Surroundings.clock hsurr
  refine ⟨_, hexec, htsurr.trans hsurr, hsettled, hwithdrawn, fun o src hsrc => (hothers o src hsrc).trans ?_, ?_, ?_,
    fun p hp hn => ?_⟩
  · rw [State.demands, State.out, hguard]
    rfl
  · rw [htref, href, hwork]
  · rw [htlane, hlane, LaneRec.succeeded, State.now, hclock, hhold]
  · obtain ⟨r, hport⟩ := hport p (by rw [hlane]; exact hp) (hnotify.trans hn)
    refine ⟨r, hport.trans ?_⟩
    rw [State.notice, State.now, hclock, hid]
    rfl

end Sys2Proof.Machine
end

-- ==== The phases of a regeneration (R113, R115 to R119) ====
section
namespace Sys2Proof.Machine

/-! ### A withdrawal of demands that are not there (R35) -/

theorem DemandSet.put_has_same (d : DemandSet) (src : Source) : d.put src (d.has src) = d := by cases src <;> rfl

theorem State.putDemand_of_same {s : State} {src : Source} {v : Bool} {o : Output} (h : s.demands o src = v) :
    s.putDemand src v o = s := by
  rw [State.putDemand, ← h, State.demands, DemandSet.put_has_same]
  cases o <;> rfl

theorem State.withdrawAll_of_none {s : State} (hs : s.settled = true) {src : Source} (h : ∀ o, s.demands o src = false) :
    s.withdrawAll src = s := by
  have hput (os : List Output) : s.putDemands src false os = s := by
    unfold State.putDemands
    induction os with
    | nil => rfl
    | cons o os ih => rw [List.foldl_cons, State.putDemand_of_same (h o), ih]
  rw [State.withdrawAll, hput, State.evaluate_of_settled hs]

/-! ### The completion of RINSE (R118) -/

/-- The resin account as far as a restore reads and writes it. -/
def State.resinAccount (s : State) : Bool × Nat × Bool × Nat :=
  (s.softener.valid, s.softener.remaining, s.softener.pendingFlag, s.softener.tally)

/-- Table 7-5: the resin account after a restore. -/
def State.resinRestored (s : State) : Bool × Nat × Bool × Nat :=
  (s.softener.valid || s.saltClear,
    (if s.saltClear then s.cFull else if s.softener.valid then
      min s.cFull (s.softener.remaining + 3 * s.cFull / 10) else s.softener.remaining),
    s.softener.pendingFlag && !s.saltClear && !(s.softener.valid && decide (s.regenThreshold
      ≤ min s.cFull (s.softener.remaining + 3 * s.cFull / 10) * 10000 / s.cFull)),
    if s.saltClear && !s.softener.valid then 0 else s.softener.tally)

theorem State.restoreResin_account (s : State) : (s.restoreResin s.saltClear).resinAccount = s.resinRestored := by
  unfold State.restoreResin State.resinRestored
  by_cases hsalt : s.saltClear = true
  · rw [if_pos hsalt, hsalt]
    cases s.softener.valid <;> simp [State.resinAccount]
  · rw [if_neg hsalt]
    have hweak : s.saltClear = false := Bool.not_eq_true _ ▸ hsalt
    by_cases hv : s.softener.valid = true
    · rw [if_pos hv]
      dsimp only
      split
      next hbp =>
        have hbp' : s.regenThreshold ≤ min s.cFull (s.softener.remaining + 3 * s.cFull / 10) * 10000 / s.cFull := hbp
        simp [State.resinAccount, hweak, hv, hbp']
      next hbp =>
        have hbp' : ¬ s.regenThreshold ≤ min s.cFull (s.softener.remaining + 3 * s.cFull / 10) * 10000 / s.cFull := hbp
        simp [State.resinAccount, hweak, hv, hbp']
    · rw [if_neg hv]
      simp [State.resinAccount, hweak, hv]

/-- R118: the part when the account is restored and told, before the step's success. -/
def State.regenRestored (s : State) : State :=
  (((((s.withdrawAll .softener).restoreResin s.saltClear).endRegen).modSoftener (fun f => { f with noFlow := none })).raiseRegenDone
    s.saltClear).cycleRegen s.saltClear

theorem State.regenComplete_eq (s : State) (short : Bool) : s.regenComplete short =
    (s.regenRestored.modHead .water (fun t => { t with actual := fit32 s.regenMl })).succeed .water
      { ResultFlags.clear with short := short, weak := !s.saltClear } none := rfl

theorem State.restoreResin_eq (s : State) (full : Bool) : s.restoreResin full = s.withSoftener (s.restoreResin full).softener := by
  unfold State.restoreResin
  dsimp only
  (repeat' split) <;> rfl

theorem State.raiseRegenDone_eq (s : State) (full : Bool) : ∃ ports, s.raiseRegenDone full = s.withPorts ports := ⟨_, rfl⟩

theorem State.cycleRegen_eq (s : State) (full : Bool) : ∃ store, s.cycleRegen full = s.withStore store := by
  unfold State.cycleRegen State.cycleEvent
  split
  · exact ⟨_, rfl⟩
  · exact ⟨s.store, rfl⟩

theorem State.regenRestored_eq (s : State) : ∃ ports store, s.regenRestored =
    (((s.withdrawAll .softener).withSoftener { ((s.withdrawAll .softener).restoreResin s.saltClear).softener with
      phase := .none, exempt := (s.withdrawAll .softener).pendingCount, noFlow := none }).withPorts ports).withStore store := by
  unfold State.regenRestored
  obtain ⟨ports, hports⟩ := State.raiseRegenDone_eq ((((s.withdrawAll .softener).restoreResin s.saltClear).endRegen).modSoftener
    (fun f => { f with noFlow := none })) s.saltClear
  rw [hports]
  obtain ⟨store, hstore⟩ := State.cycleRegen_eq (((((s.withdrawAll .softener).restoreResin s.saltClear).endRegen).modSoftener
    (fun f => { f with noFlow := none })).withPorts ports) s.saltClear
  rw [hstore]
  generalize s.withdrawAll .softener = w
  refine ⟨ports, store, ?_⟩
  rw [State.restoreResin_eq]
  rfl

theorem State.resinAccount_of_steady {s t : State} (h : t.softener.steady = s.softener.steady) :
    t.resinAccount = s.resinAccount :=
  (congrArg (fun f : Softener => (f.valid, f.remaining, f.pendingFlag, f.tally)) h :)

/-- Two states in which a restore makes the same of an account. -/
def State.sameResin (s t : State) : Prop :=
  t.resinAccount = s.resinAccount ∧ t.saltClear = s.saltClear ∧ t.cFull = s.cFull ∧ t.regenThreshold = s.regenThreshold

theorem State.sameResin_of_surroundings {s t : State} (hsurr : t.surroundings = s.surroundings)
    (h : t.resinAccount = s.resinAccount) : s.sameResin t := by
  have hprofile : t.store.profile = s.store.profile := congrArg Surroundings.profile hsurr
  have hsettings : t.store.settings = s.store.settings := congrArg Surroundings.settings hsurr
  refine ⟨h, State.reads_congr hsurr _, ?_, ?_⟩
  · rw [State.cFull, State.fieldNat, State.field, hprofile]
    rfl
  · rw [State.regenThreshold, State.setting, hsettings]
    rfl

theorem State.resinRestored_congr {s t : State} (h : s.sameResin t) : t.resinRestored = s.resinRestored := by
  obtain ⟨haccount, hsalt, hfull, hthreshold⟩ := h
  simp only [State.resinAccount, Prod.mk.injEq] at haccount
  obtain ⟨hvalid, hremaining, hflag, htally⟩ := haccount
  rw [State.resinRestored, hvalid, hremaining, hflag, htally, hsalt, hfull, hthreshold, State.resinRestored]

theorem State.regenRestored_account {s : State} (h : s.softener.phase ≠ .none) :
    s.regenRestored.resinAccount = s.resinRestored := by
  have hsame : s.sameResin (s.withdrawAll .softener) := State.sameResin_of_surroundings (State.withdrawAll_surroundings s .softener)
    (State.resinAccount_of_steady (State.withdrawAll_steady h .softener))
  obtain ⟨-, hsalt, -⟩ := id hsame
  obtain ⟨ports, store, heq⟩ := s.regenRestored_eq
  have haccount : s.regenRestored.resinAccount = ((s.withdrawAll .softener).restoreResin s.saltClear).resinAccount := by
    rw [heq]
    rfl
  rw [haccount, ← hsalt, State.restoreResin_account, State.resinRestored_congr hsame]

theorem State.withdrawAll_lane {s : State} (h : s.autoOpenWaits = false) (src : Source) (l : Lane) :
    (s.withdrawAll src).lane l = s.lane l := State.lane_eq_of_lanes l (State.withdrawAll_lanes s src h)

theorem State.regenRestored_settled (s : State) : s.regenRestored.settled = true := by
  simp [State.regenRestored, State.withdrawAll]

theorem State.regenRestored_demands (s : State) (o : Output) (src : Source) :
    s.regenRestored.demands o src = if Source.softener = src then false else s.demands o src := by
  obtain ⟨ports, store, heq⟩ := s.regenRestored_eq
  rw [heq, ← State.withdrawAll_demands]
  rfl

theorem State.regenRestored_lane {s : State} (h : s.autoOpenWaits = false) (l : Lane) : s.regenRestored.lane l = s.lane l := by
  obtain ⟨ports, store, heq⟩ := s.regenRestored_eq
  rw [heq, ← State.withdrawAll_lane h .softener]
  rfl

theorem State.regenRestored_phase (s : State) : s.regenRestored.softener.phase = .none := by
  obtain ⟨ports, store, heq⟩ := s.regenRestored_eq
  rw [heq]
  rfl

/-- R121: the end of a try of a REGENERATE whose regeneration is over. -/
theorem State.tryEnd_over {s : State} {h : StepRec} {force : Bool} (hs : s.settled = true)
    (hd : ∀ o, s.demands o .water = false) (hh : s.head .water = some h) (hw : h.work = .regenerate force)
    (hphase : s.softener.phase = .none) :
    s.tryEnd .water = s.withEngine { s.engine with fillNoFlow := none, waterDry := none } := by
  have htold : s.tellTryEnd .water = s := by
    simp only [State.tellTryEnd, hh, hw]
    rw [State.abandonRegen, if_pos hphase]
  rw [State.tryEnd_water_eq, State.withdrawAll_of_none hs hd, htold]

/-- R118 and Table 7-5: the completion of a RINSE. -/
theorem State.regenComplete_regenerated {s : State} {h : StepRec} {rest : List StepRec} {force : Bool} (short : Bool)
    (hstate : (s.lane .water).state ≠ .waiting) (hq : (s.lane .water).queue = h :: rest) (hw : h.work = .regenerate force)
    (hphase : s.softener.phase ≠ .none) (hd : ∀ o, s.demands o .water = false) :
    s.regenerated (s.regenComplete short) h rest (s.softener.brine + s.softener.rinse) short := by
  have hlane := State.regenRestored_lane (State.autoOpenWaits_of_state s hstate) .water
  have hahead := State.modHead_lane (s := s.regenRestored) (h := h) (rest := rest) (hlane ▸ hq)
    (fun t => { t with actual := fit32 s.regenMl })
  have hend := State.tryEnd_over
    (s := s.regenRestored.modHead .water (fun t => { t with actual := fit32 s.regenMl })) (h := { h with actual := fit32 s.regenMl })
    (by rw [State.modHead_settled]; exact s.regenRestored_settled)
    (fun o => (State.regenRestored_demands s o .water).trans (hd o))
    (State.head_of_queue (rest := rest) (by rw [hahead])) hw s.regenRestored_phase
  have hapart := State.concludeSuccess_water_apart
    ((s.regenRestored.modHead .water (fun t => { t with actual := fit32 s.regenMl })).tryEnd .water)
    { ResultFlags.clear with short := short, weak := !s.saltClear }
  have hsoftener : (s.regenComplete short).softener = s.regenRestored.softener := by
    rw [State.regenComplete_eq, State.succeed, State.softener_of_apart hapart, hend]
    rfl
  have hclock : s.regenRestored.now = s.now := State.now_of_surroundings (by simp [State.regenRestored])
  have hfinal : (s.regenComplete short).lane .water = (s.lane .water).succeeded { h with actual := fit32 s.regenMl } rest
      { ResultFlags.clear with short := short, weak := !s.saltClear } s.now := by
    rw [State.regenComplete_eq, State.succeed_lane (by rw [hahead]; exact hlane ▸ hstate) (by rw [hahead]), hahead, hlane]
    exact congrArg (LaneRec.succeeded _ _ _ _) hclock
  have haccount : (s.regenComplete short).resinAccount = s.resinRestored := by
    rw [State.resinAccount, hsoftener]
    exact State.regenRestored_account hphase
  simp only [State.resinAccount, State.resinRestored, Prod.mk.injEq] at haccount
  obtain ⟨hvalid, hremaining, hflag, htally⟩ := haccount
  refine ⟨State.succeed_settled _ _ _ _, fun o => ?_, by rw [hsoftener]; exact s.regenRestored_phase, hvalid, hremaining, hflag,
    htally, by rw [hfinal]; rfl, by rw [hfinal]; rfl⟩
  rw [State.regenComplete_eq, State.succeed, State.demands_of_guardCore (State.concludeSuccess_guardCore _ _ _), hend]
  exact (State.regenRestored_demands s o .softener).trans (if_pos rfl)

end Sys2Proof.Machine
end

-- ==== A regeneration completed before the Step Engine takes the event (R112, R117, R118) ====
section
namespace Sys2Proof.Machine

open Sys2Proof.Tests

/-- A RUNNING regeneration in RINSE with SALT_LOW at LOW and a regeneration threshold above what a weak restore gives; a DOSE in a start wait
whose computed dose is 0; LEVEL_HIGH about to be REACHED; and INLET energised under a demand of the DOSE lane, which the statement's
bounds do not exclude. -/
def rinseBesideDose : State :=
  let dose := { base.newDose 5 0 .rinse with computed := true }
  let rinsing := (running .water (.regenerate true)).modSoftener (fun f => { f with
    phase := .rinse, rinse := 8, rinseTarget := 9, valid := true })
  let waiting := ((at' rinsing .dose .waiting (activeStep (.dose 0 .rinse))).modLane .dose (fun r => { r with
    waitCause := some .start })).withDose (some dose)
  let turned := withI waiting (fun i => { i with levelHigh := turning (some false) true, saltLow := input false })
  ((turned.modStore (fun t => { t with settings := t.settings.set 15 5000 })).putDemand .dose true .inlet).evaluate

/-- R112: what the event leaves of the pending flag where the Softener takes it before the Step Engine. -/
def flagAfterEvent : Bool :=
  match exec (.debounceTimerExpiry .levelHigh [.softener, .engine]) rinseBesideDose with
  | .next t => t.softener.pendingFlag
  | _ => false

/-- The success of the DOSE withdraws the demand that kept INLET open after the regeneration: the inlet closing debits nothing, but is a
debit of a VALID account, and its test sets the pending flag that the restore had left clear. -/
theorem flagAfterEvent_set : flagAfterEvent = true := by decide +kernel

theorem rinseBesideDose_meets : rinseBesideDose.resetHeld = false
    ∧ (rinseBesideDose.lane .water).queue = activeStep (.regenerate true) :: [] ∧ rinseBesideDose.bounded = true
    ∧ rinseBesideDose.softener.phase = .rinse ∧ (rinseBesideDose.lane .water).state = .running
    ∧ (∀ o ∈ Output.evalOrder, rinseBesideDose.demands o .water = false)
    ∧ (rinseBesideDose.inputs.get .levelHigh).candidate = some true
    ∧ rinseBesideDose.due (rinseBesideDose.inputs.get .levelHigh).debounce = true
    ∧ (rinseBesideDose.accepted .levelHigh).isSome = true ∧ rinseBesideDose.softener.pendingFlag = false := by decide +kernel

/-- Refutes O45: an event of LEVEL_HIGH completes the RINSE, and a DOSE that succeeds at the same event then closes INLET. -/
theorem not_soakEnds : ¬ Obligations.SoakEnds := by
  rintro ⟨-, hedges⟩
  obtain ⟨hheld, hqueue, hbounded, hphase, hrun, hdemands, hcandidate, hdue, hsettled, hclear⟩ := rinseBesideDose_meets
  obtain ⟨-, -, -, hevent⟩ := hedges _ _ _ rinseBesideDose hheld hqueue rfl
  obtain ⟨t, hexec, -, -, -, -, -, hflag, -⟩ := hevent [.softener, .engine] hbounded hphase hrun
    (fun o => hdemands o (by cases o <;> decide)) hcandidate hdue hsettled
  have hset := flagAfterEvent_set
  rw [flagAfterEvent, hexec] at hset
  rw [hclear] at hflag
  exact Bool.false_ne_true (hflag.symm.trans hset)

end Sys2Proof.Machine
end

-- ==== The rod under evaluations and deliveries (R14, R19, R34, R146) ====
section
namespace Sys2Proof.Machine

/-! ### Deliveries in any order (R14, R19) -/

/-- A delivery gives every receiver of `left` its event once, in some order. -/
theorem deliver_eq_foldl (act : Receiver → State → State) (order left : List Receiver) (s : State) :
    ∃ l : List Receiver, l.Perm left ∧ deliver act order left s = l.foldl (fun u r => act r u) s := by
  induction order generalizing left s with
  | nil => exact ⟨left, .refl _, rfl⟩
  | cons r order ih =>
    rw [deliver]
    split
    next hr =>
      obtain ⟨l, hl, heq⟩ := ih (left.erase r) (act r s)
      exact ⟨r :: l, (hl.cons r).trans (List.perm_cons_erase hr).symm, heq⟩
    · exact ih left s

/-- What holds before a delivery and is kept by every receiver holds after it. -/
theorem deliver_invariant {P : State → Prop} {act : Receiver → State → State} {left : List Receiver}
    (h : ∀ r ∈ left, ∀ u, P u → P (act r u)) (order : List Receiver) {s : State} (hs : P s) : P (deliver act order left s) := by
  obtain ⟨l, hl, heq⟩ := deliver_eq_foldl act order left s
  rw [heq]
  have hmem : ∀ r ∈ l, r ∈ left := fun r hr => hl.subset hr
  clear heq hl
  induction l generalizing s with
  | nil => exact hs
  | cons r l ih =>
    exact ih (h r (hmem r List.mem_cons_self) s hs) fun k hk => hmem k (List.mem_cons_of_mem _ hk)

/-- A delivery in which the receiver `r0` applies `g` to what `f` reads, and every receiver applies `g` at most, where `g` done twice is
`g` done once. -/
theorem deliver_applies {α : Type} {f : State → α} {g : α → α} {P : State → Prop} {act : Receiver → State → State}
    {left : List Receiver} {r0 : Receiver} (hg : ∀ x, g (g x) = g x) (h0 : ∀ u, P u → f (act r0 u) = g (f u))
    (h : ∀ r ∈ left, ∀ u, P u → P (act r u) ∧ (f (act r u) = f u ∨ f (act r u) = g (f u))) (order : List Receiver) {s : State}
    (hs : P s) (hl : r0 ∈ left) : f (deliver act order left s) = g (f s) := by
  obtain ⟨l, hperm, heq⟩ := deliver_eq_foldl act order left s
  rw [heq]
  have hmem : ∀ r ∈ l, r ∈ left := fun r hr => hperm.subset hr
  have hr0 : r0 ∈ l := hperm.symm.subset hl
  clear heq hperm hl
  have key : ∀ (l : List Receiver), (∀ r ∈ l, r ∈ left) → ∀ u, P u →
      (f (l.foldl (fun u r => act r u) u) = f u ∨ f (l.foldl (fun u r => act r u) u) = g (f u))
      ∧ (r0 ∈ l → f (l.foldl (fun u r => act r u) u) = g (f u)) := by
    intro l
    induction l with
    | nil => exact fun _ u _ => ⟨.inl rfl, fun h => nomatch h⟩
    | cons r l ih =>
      intro hmem u hu
      obtain ⟨hP, hact⟩ := h r (hmem r List.mem_cons_self) u hu
      obtain ⟨hany, hin⟩ := ih (fun k hk => hmem k (List.mem_cons_of_mem _ hk)) (act r u) hP
      simp only [List.foldl_cons]
      refine ⟨?_, fun hr => ?_⟩
      · rcases hact with e | e <;> rw [e] at hany
        · exact hany
        · rw [hg] at hany
          exact .inr (hany.elim id id)
      · rcases List.mem_cons.mp hr with rfl | hr
        · rw [h0 u hu, hg] at hany
          exact hany.elim id id
        · rw [hin hr]
          rcases hact with e | e <;> rw [e]
          exact hg _
  exact (key l hmem s hs).2 hr0

/-- R18, R19, R21: the part as its receivers find it when an input's candidate has become its accepted level. -/
def State.accepting (s : State) (i : Input) (level : Bool) : State :=
  s.modInput i (fun f => { f with
    accepted := some level, candidate := none, debounce := none,
    lastEvent := if (s.accepted i).isSome then some s.now else f.lastEvent })

theorem State.accept_eq (s : State) (i : Input) (level : Bool) (order : List Receiver) : s.accept i level order
    = deliver (State.inputTo i level (s.accepted i).isSome) order (Receiver.ofInput i) (s.accepting i level) := rfl

theorem State.accepting_accepted (s : State) (i : Input) (level : Bool) : (s.accepting i level).accepted i = some level := by
  cases i <;> rfl

theorem exec_debounce {s : State} {i : Input} {level : Bool} (hr : s.resetHeld = false) (hc : (s.inputs.get i).candidate = some level)
    (hdue : s.due (s.inputs.get i).debounce = true) (order : List Receiver) :
    exec (.debounceTimerExpiry i order) s = .next (s.accept i level order) := by
  rw [exec_event rfl hr]
  simp only [hc, hdue]
  rfl

/-! ### The rod and the lanes under an evaluation (R107, R146) -/

/-- R146: the Door Unit's record after water or heat was met at the run clock `now`. -/
def DoorUnit.guarded (d : DoorUnit) (now : Word) : DoorUnit :=
  if d.rod = .extending ∨ d.rod = .holding then d.brakeToward now .retract .blocked else d

theorem DoorUnit.guarded_of_still {d : DoorUnit} (h : d.rod ∉ [RodState.extending, .holding]) (now : Word) : d.guarded now = d := by
  simp only [List.mem_cons, List.not_mem_nil, or_false] at h
  exact if_neg h

theorem DoorUnit.guarded_guarded (d : DoorUnit) (now : Word) : (d.guarded now).guarded now = d.guarded now := by
  refine DoorUnit.guarded_of_still ?_ now
  unfold DoorUnit.guarded
  split
  · simp [DoorUnit.brakeToward]
  next h => simpa using h

theorem State.extendGuard_door (s : State) : s.extendGuard.door = s.door.guarded s.now := by
  unfold State.extendGuard DoorUnit.guarded
  split <;> rfl

/-- A WATER lane in no start wait is in none of AUTO_OPEN's. -/
theorem State.autoOpenWaits_of_startWait {s : State} (h : (s.lane .water).startWait = false) : s.autoOpenWaits = false := by
  simp [State.autoOpenWaits, h]

theorem State.evaluate_lane {s : State} (h : (s.lane .water).startWait = false) (l : Lane) : s.evaluate.lane l = s.lane l :=
  State.lane_eq_of_lanes l (s.evaluate_lanes (State.autoOpenWaits_of_startWait h))

theorem State.outputEvent_rod {s : State} (h : s.autoOpenWaits = false) (o : Output) (on : Bool) :
    (s.outputEvent o on).door = s.door ∨ (s.outputEvent o on).door = s.door.guarded s.now := by
  by_cases ho : o = .heater
  · subst ho
    have hoff : (s.checkOutput .heater on).autoOpenHeater = s.checkOutput .heater on := State.autoOpenHeater_of_not _ h
    unfold State.outputEvent State.heaterEvent
    dsimp only
    rw [hoff]
    cases on
    · exact .inl rfl
    · exact .inr (State.extendGuard_door _)
  · exact .inl (s.outputEvent_door ho on)

/-- R146: an evaluation cuts the rod at most. -/
theorem State.evaluate_rod {s : State} (h : s.autoOpenWaits = false) :
    s.evaluate.door = s.door ∨ s.evaluate.door = s.door.guarded s.now := by
  refine (State.evaluate_keeps_of (fun _ => ()) (fun u => u.autoOpenWaits = false ∧ u.surroundings = s.surroundings
    ∧ (u.door = s.door ∨ u.door = s.door.guarded s.now)) (fun u o hu => ?_) (fun u o on hu => ?_) s ⟨h, rfl, .inl rfl⟩).1.2.2
  · obtain ⟨hw, hsur, hdoor⟩ := hu
    exact ⟨⟨(State.autoOpenWaits_congr rfl).trans hw, (u.settleOutput_surroundings o).trans hsur, hdoor⟩, rfl⟩
  · obtain ⟨hw, hsur, hdoor⟩ := hu
    refine ⟨⟨(State.autoOpenWaits_congr (u.outputEvent_lanes o on hw)).trans hw,
      (u.outputEvent_surroundings o on).trans hsur, ?_⟩, rfl⟩
    have hnow : u.now = s.now := State.now_of_surroundings hsur
    rcases State.outputEvent_rod hw o on with e | e <;> rcases hdoor with hd | hd <;> rw [e, hd]
    · exact .inl rfl
    · exact .inr rfl
    · exact .inr (by rw [hnow])
    · exact .inr (by rw [hnow, DoorUnit.guarded_guarded])

/-- R146: an evaluation leaves a rod alone that neither extends nor holds the door. -/
theorem State.evaluate_rod_still {s : State} (hw : (s.lane .water).startWait = false)
    (h : s.door.rod ∉ [RodState.extending, .holding]) : s.evaluate.door = s.door := by
  rcases State.evaluate_rod (State.autoOpenWaits_of_startWait hw) with e | e
  · exact e
  · rw [e, DoorUnit.guarded_of_still h]

/-- R36: with the supply LOST an evaluation energises no HEATER, and so leaves the Door Unit alone. -/
theorem State.evaluate_rod_lost {s : State} (hw : (s.lane .water).startWait = false) (h : s.time.supply = .lost) :
    s.evaluate.door = s.door := by
  refine State.evaluate_door (State.autoOpenWaits_of_startWait hw) fun _ => ?_
  have hready : s.settleOutputs.supplyReady = false := by
    have := congrArg Surroundings.supply s.settleOutputs_surroundings
    rw [State.supplyReady, show s.settleOutputs.time.supply = .lost from this.trans h]
    rfl
  rw [State.heater_of_settled s.settleOutputs_settled, hready]
  simp

end Sys2Proof.Machine
end

-- ==== The rod: dead times, homings and the supply (R142, R147, R149, R151) ====
section
namespace Sys2Proof.Machine

/-! ### The end of a dead time (R142, R147, R149) -/

section
variable {s : State}

theorem State.deadTimeEnds_stays (h : s.door.nextMove = .none) :
    s.deadTimeEnds = s.withDoor { s.door with deadTimer := none } := by
  rw [State.deadTimeEnds, h]
  rfl

theorem State.deadTimeEnds_retracts (h : s.door.nextMove = .retract) :
    s.deadTimeEnds = (s.modDoor (fun d => { d with deadTimer := none })).beginRetract := by
  rw [State.deadTimeEnds, h]

/-- R147: a retract that finds neither its switch closed nor an overcurrent. -/
theorem State.beginRetract_clear (hoc : s.pins.rodOc = false) (hhome : s.homeClosed = false) : s.beginRetract =
    s.modDoor (fun d => { d with
      drive := .retract, rod := .retracting, nextMove := .none, retractTimer := s.timer 5000 }) := by
  rw [State.beginRetract, hoc, hhome]
  rfl

/-- R147: a retract that finds its switch closed. -/
theorem State.beginRetract_home (hoc : s.pins.rodOc = false) (hhome : s.homeClosed = true) : s.beginRetract =
    (s.modDoor (fun d => { d with
      drive := .retract, rod := .retracting, nextMove := .none, retractTimer := s.timer 5000 })).rodAtHome := by
  rw [State.beginRetract, hoc, hhome]
  rfl

theorem State.rodAtHome_homing (h : s.door.errand = .homing) : s.rodAtHome =
    (s.modDoor (fun d => { d with
      retractTimer := none, drive := .brake, rod := .home, errand := .none, cause := none, report := .none })).raiseRodState
        s.door .none := by
  rw [State.rodAtHome, h]
  rfl

theorem State.deadTimeEnds_extends (h : s.door.nextMove = .extend) (hoc : s.pins.rodOc = false) (hterms : s.extendTerms = true) :
    s.deadTimeEnds = s.withDoor { s.door with
      rod := .extending, drive := .extend, nextMove := .none, deadTimer := none, extendBegan := s.time.clock,
      extendTimer := s.timer (s.fieldNat 16 * 100) } := by
  rw [State.deadTimeEnds, h]
  refine (if_pos hterms).trans ?_
  unfold State.beginExtend
  dsimp only
  exact if_neg (by rw [show (State.modDoor _ _).pins = s.pins from rfl, hoc]; decide)

theorem State.deadTimeEnds_blocked (h : s.door.nextMove = .extend) (hterms : s.extendTerms = false) :
    s.deadTimeEnds = s.withDoor (s.rodBraked .blocked) := by
  rw [State.deadTimeEnds, h]
  exact if_neg (by rw [hterms]; decide)

theorem State.extendTerms_of_met (hwet : s.levelWet = false) (hoff : s.energised .heater = false)
    (hopen : ∃ h, s.head .water = some h ∧ h.status = .active ∧ h.work = .autoOpen) : s.extendTerms = true := by
  obtain ⟨h, hh, hactive, hw⟩ := hopen
  simp [State.extendTerms, State.activeWork, State.headIs, hh, hactive, hw, hwet, hoff]

theorem State.extendTerms_of_unmet (h : s.levelWet = true ∨ s.energised .heater = true) : s.extendTerms = false := by
  rcases h with h | h <;> simp [State.extendTerms, h]

end

theorem exec_deadTime {s : State} (hr : s.resetHeld = false) (hdue : s.due s.door.deadTimer = true) :
    exec .deadTimeExpiry s = .next s.deadTimeEnds := by
  refine (exec_event rfl hr).trans ?_
  rw [if_pos hdue]

/-! ### The supply and a move (R149) -/

/-- R149: the Door Unit's record after a supply loss. -/
def DoorUnit.supplyLost (d : DoorUnit) : DoorUnit :=
  if d.drive = .extend ∨ d.drive = .retract ∨ d.deadTimer.isSome then
    { d with rod := .braking, drive := .brake, extendTimer := none, holdTimer := none, retractTimer := none, deadTimer := none,
             supplyHold := true }
  else d

theorem DoorUnit.supplyLost_supplyLost (d : DoorUnit) : d.supplyLost.supplyLost = d.supplyLost := by
  unfold DoorUnit.supplyLost
  split
  · simp
  next h => rfl

theorem State.rodSupplyLost_eq (s : State) : s.rodSupplyLost = s.withDoor s.door.supplyLost := by
  unfold State.rodSupplyLost DoorUnit.supplyLost
  split <;> rfl

/-- R149: the Door Unit's record after the supply's return at the run clock `now`. -/
def DoorUnit.supplyReady (d : DoorUnit) (now : Word) : DoorUnit :=
  if d.errand = .homing ∧ d.supplyHold = true then d.towardHome now else d

theorem DoorUnit.supplyReady_supplyReady (d : DoorUnit) (now : Word) : (d.supplyReady now).supplyReady now = d.supplyReady now := by
  unfold DoorUnit.supplyReady
  split
  · simp [DoorUnit.towardHome]
  next h => rfl

theorem State.rodSupplyReady_eq (s : State) : s.rodSupplyReady = s.withDoor (s.door.supplyReady s.now) := by
  unfold State.rodSupplyReady DoorUnit.supplyReady
  split <;> rfl

/-- What a delivery of a supply loss finds all the while. -/
def State.lostUnwaiting (s : State) : Prop := s.time.supply = .lost ∧ (s.lane .water).startWait = false

section
variable {s : State} (h : s.lostUnwaiting)
include h

theorem State.evaluate_lostUnwaiting : s.evaluate.lostUnwaiting ∧ s.evaluate.door = s.door := by
  obtain ⟨hlost, hwait⟩ := h
  refine ⟨⟨?_, ?_⟩, State.evaluate_rod_lost hwait hlost⟩
  · exact (congrArg Surroundings.supply s.evaluate_surroundings).trans hlost
  · rw [State.evaluate_lane hwait, hwait]

theorem State.withdrawAll_lostUnwaiting (src : Source) : (s.withdrawAll src).lostUnwaiting ∧ (s.withdrawAll src).door = s.door := by
  obtain ⟨hlost, hwait⟩ := h
  have hput : (s.putDemands src false Output.evalOrder).lostUnwaiting :=
    ⟨(congrArg Surroundings.supply (s.putDemands_surroundings _ _ _)).trans hlost, by
      rw [State.lane, State.putDemands_lanes]; exact hwait⟩
  obtain ⟨hkept, hdoor⟩ := State.evaluate_lostUnwaiting hput
  exact ⟨hkept, hdoor.trans (State.putDemands_keeps State.door (fun _ _ _ _ => rfl) s src false _)⟩

theorem State.pauseKind_lostUnwaiting (l : Lane) : (s.pauseKind l true).lostUnwaiting
    ∧ ((s.pauseKind l true).door = s.door ∨ (s.pauseKind l true).door = s.door.supplyLost) := by
  have hwithdrawn (src : Source) : (s.withdrawAll src).lostUnwaiting
      ∧ ((s.withdrawAll src).door = s.door ∨ (s.withdrawAll src).door = s.door.supplyLost) := by
    obtain ⟨hkept, hdoor⟩ := State.withdrawAll_lostUnwaiting h src
    exact ⟨hkept, .inl hdoor⟩
  unfold State.pauseKind
  cases s.head l with
  | none => exact ⟨h, .inl rfl⟩
  | some t =>
    dsimp only
    cases t.work with
    | autoOpen =>
      refine ⟨?_, .inr (congrArg State.door s.rodSupplyLost_eq)⟩
      change (s.rodSupplyLost).lostUnwaiting
      rw [State.rodSupplyLost_eq]
      exact h
    | dose base agent =>
      have hmod : (s.modDose (fun r => { r with offTimer := none, dry := none })).lostUnwaiting := by
        unfold State.modDose
        split <;> exact h
      obtain ⟨hkept, hdoor⟩ := State.withdrawAll_lostUnwaiting hmod .dose
      exact ⟨hkept, .inl (hdoor.trans (by unfold State.modDose; split <;> rfl))⟩
    | fill => exact hwithdrawn .water
    | drain => exact hwithdrawn .water
    | pause => exact hwithdrawn .water
    | circulate => exact hwithdrawn .water
    | heat => exact hwithdrawn .water
    | regenerate => exact hwithdrawn .softener

theorem State.addCause_lostUnwaiting (l : Lane) : (s.addCause l true).lostUnwaiting
    ∧ ((s.addCause l true).door = s.door ∨ (s.addCause l true).door = s.door.supplyLost) := by
  unfold State.addCause
  dsimp only
  split
  · refine State.pauseKind_lostUnwaiting ?_ l
    obtain ⟨hlost, hwait⟩ := h
    refine ⟨hlost, ?_⟩
    cases l
    · rfl
    · exact hwait
  · exact ⟨h, .inl rfl⟩

/-- R14 and R149: each receiver of a supply loss stops the move at most. -/
theorem State.supplyTo_lostUnwaiting (cause : LossCause) (r : Receiver) : (State.supplyTo (some cause) r s).lostUnwaiting
    ∧ ((State.supplyTo (some cause) r s).door = s.door ∨ (State.supplyTo (some cause) r s).door = s.door.supplyLost) := by
  cases r
  case guard =>
    obtain ⟨hkept, hdoor⟩ := State.evaluate_lostUnwaiting h
    exact ⟨hkept, .inl hdoor⟩
  case engine =>
    obtain ⟨hwater, hdoor⟩ := State.addCause_lostUnwaiting h .water
    obtain ⟨hdose, hdoor'⟩ := State.addCause_lostUnwaiting hwater .dose
    refine ⟨hdose, ?_⟩
    change (State.addCause _ .dose true).door = _ ∨ (State.addCause _ .dose true).door = _
    rcases hdoor with e | e <;> rw [e] at hdoor'
    · exact hdoor'
    · rw [DoorUnit.supplyLost_supplyLost] at hdoor'
      exact .inr (hdoor'.elim id id)
  case door =>
    change (State.rodSupplyLost s).lostUnwaiting ∧ ((State.rodSupplyLost s).door = _ ∨ (State.rodSupplyLost s).door = _)
    rw [State.rodSupplyLost_eq]
    exact ⟨h, .inr rfl⟩
  all_goals exact ⟨h, .inl rfl⟩

end

/-- R149: a supply loss stops a move, in every order of the receivers. -/
theorem State.supplyBecomesLost_door {s : State} (hwait : (s.lane .water).startWait = false) (cause : LossCause)
    (order : List Receiver) : (s.supplyBecomesLost cause order).door = s.door.supplyLost :=
  deliver_applies (f := State.door) (P := State.lostUnwaiting) (r0 := .door) DoorUnit.supplyLost_supplyLost
    (fun u _ => congrArg State.door u.rodSupplyLost_eq) (fun r _ _ hu => State.supplyTo_lostUnwaiting hu cause r) order
    ⟨rfl, hwait⟩ (by decide)

theorem State.removeCause_keeps (s : State) (l : Lane) (supply : Bool) : ∃ door sup timer, s.removeCause l supply
    = s.withLane l { s.lane l with pauseDoor := door, pauseSupply := sup, laneSettle := timer } := by
  unfold State.removeCause
  dsimp only
  by_cases h : (s.lane l).state = .paused ∧ (if supply then (s.lane l).pauseSupply else (s.lane l).pauseDoor) = true
  · rw [if_pos h]
    exact ⟨_, _, _, rfl⟩
  · rw [if_neg h]
    exact ⟨(s.lane l).pauseDoor, (s.lane l).pauseSupply, (s.lane l).laneSettle, by cases l <;> rfl⟩

/-- What a delivery of the supply's return finds all the while at a rod that brakes. -/
def State.brakingUnwaiting (s : State) (now : Word) : Prop :=
  s.door.rod = .braking ∧ (s.lane .water).startWait = false ∧ s.now = now

section
variable {s : State} {now : Word} (h : s.brakingUnwaiting now)
include h

theorem State.evaluate_brakingUnwaiting : s.evaluate.brakingUnwaiting now ∧ s.evaluate.door = s.door := by
  obtain ⟨hrod, hwait, hnow⟩ := h
  have hdoor := State.evaluate_rod_still hwait (by rw [hrod]; decide)
  exact ⟨⟨by rw [hdoor, hrod], by rw [State.evaluate_lane hwait, hwait],
    (State.now_of_surroundings s.evaluate_surroundings).trans hnow⟩, hdoor⟩

theorem State.drainAtFirstReady_brakingUnwaiting : s.drainAtFirstReady.brakingUnwaiting now ∧ s.drainAtFirstReady.door = s.door := by
  unfold State.drainAtFirstReady
  split <;> exact ⟨h, rfl⟩

theorem State.removeCause_brakingUnwaiting (l : Lane) : (s.removeCause l true).brakingUnwaiting now
    ∧ (s.removeCause l true).door = s.door := by
  obtain ⟨hrod, hwait, hnow⟩ := h
  obtain ⟨door, sup, timer, heq⟩ := s.removeCause_keeps l true
  rw [heq]
  refine ⟨⟨hrod, ?_, hnow⟩, rfl⟩
  cases l <;> exact hwait

theorem State.supplyBack_brakingUnwaiting (l : Lane) : (s.supplyBack l).brakingUnwaiting now ∧ (s.supplyBack l).door = s.door := by
  obtain ⟨hrod, hwait, hnow⟩ := h
  unfold State.supplyBack
  split
  · refine ⟨⟨hrod, ?_, hnow⟩, rfl⟩
    cases l
    · rfl
    · exact hwait
  · exact ⟨⟨hrod, hwait, hnow⟩, rfl⟩

theorem State.engineReady_brakingUnwaiting : (s.engineSupply true).brakingUnwaiting now ∧ (s.engineSupply true).door = s.door := by
  obtain ⟨hP1, e1⟩ := State.removeCause_brakingUnwaiting h .water
  obtain ⟨hP2, e2⟩ := State.supplyBack_brakingUnwaiting hP1 .water
  obtain ⟨hP3, e3⟩ := State.removeCause_brakingUnwaiting hP2 .dose
  obtain ⟨hP4, e4⟩ := State.supplyBack_brakingUnwaiting hP3 .dose
  exact ⟨hP4, e4.trans (e3.trans (e2.trans e1))⟩

theorem State.rodSupplyReady_brakingUnwaiting : s.rodSupplyReady.brakingUnwaiting now
    ∧ s.rodSupplyReady.door = s.door.supplyReady now := by
  obtain ⟨hrod, hwait, hnow⟩ := h
  rw [State.rodSupplyReady_eq, hnow]
  refine ⟨⟨?_, hwait, hnow⟩, rfl⟩
  change (s.door.supplyReady now).rod = _
  unfold DoorUnit.supplyReady
  split
  · rfl
  · exact hrod

/-- R14 and R149: each receiver of the supply's return takes up a homing errand at most. -/
theorem State.supplyTo_brakingUnwaiting (r : Receiver) : (State.supplyTo none r s).brakingUnwaiting now
    ∧ ((State.supplyTo none r s).door = s.door ∨ (State.supplyTo none r s).door = s.door.supplyReady now) := by
  cases r
  case guard =>
    obtain ⟨hdrain, e⟩ := State.drainAtFirstReady_brakingUnwaiting h
    obtain ⟨hkept, e'⟩ := State.evaluate_brakingUnwaiting hdrain
    exact ⟨hkept, .inl (e'.trans e)⟩
  case engine =>
    obtain ⟨hkept, e⟩ := State.engineReady_brakingUnwaiting h
    exact ⟨hkept, .inl e⟩
  case door =>
    obtain ⟨hkept, e⟩ := State.rodSupplyReady_brakingUnwaiting h
    exact ⟨hkept, .inr e⟩
  all_goals exact ⟨h, .inl rfl⟩

end

/-- R149: the supply's return takes up a homing errand, in every order of the receivers. -/
theorem State.supplyBecomesReady_door {s : State} (hrod : s.door.rod = .braking) (hwait : (s.lane .water).startWait = false)
    (order : List Receiver) : (s.supplyBecomesReady order).door = s.door.supplyReady s.now :=
  deliver_applies (f := State.door) (g := fun d => d.supplyReady s.now) (P := fun u => u.brakingUnwaiting s.now) (r0 := .door)
    (fun d => d.supplyReady_supplyReady s.now) (fun _ hu => (State.rodSupplyReady_brakingUnwaiting hu).2)
    (fun r _ _ hu => State.supplyTo_brakingUnwaiting hu r) order ⟨hrod, hwait, rfl⟩ (by decide)

/-! ### The end of the lane's pause (R81, R149) -/

/-- R81: a lane at the end of a pause that began while it was RUNNING. -/
def LaneRec.unpaused (r : LaneRec) : LaneRec :=
  { r with state := .running, waitCause := none, laneSettle := none, pausedFromWait := false }

theorem State.redivert_engine (s : State) (l : Lane) : (s.redivert l).engine = s.engine := by
  unfold State.redivert State.setDiverter
  (repeat' split) <;> rfl

section
variable {s : State} {l : Lane} {h : StepRec} {rest : List StepRec}

theorem exec_pauseSettle (hr : s.resetHeld = false) (hp : (s.lane l).state = .paused) (hdue : s.due (s.lane l).laneSettle = true) :
    exec (.pauseSettleExpiry l) s = .next (s.pauseEnds l) := by
  refine (exec_event rfl hr).trans ?_
  rw [if_pos ⟨hp, hdue⟩]

theorem State.pauseEnds_running (htest : s.guard.test = none) (hwait : (s.lane l).pausedFromWait = false)
    (hq : (s.lane l).queue = h :: rest) :
    s.pauseEnds l = ((s.withLane l (s.lane l).unpaused).redivert l).resumeKind h := by
  have hend : (s.withLane l (s.lane l).unpaused).endTest = s.withLane l (s.lane l).unpaused := by
    rw [State.endTest, show (s.withLane l _).guard.test = none from htest]
  have hhead : ((s.withLane l (s.lane l).unpaused).redivert l).head l = some h := by
    refine State.head_of_queue (rest := rest) ?_
    rw [State.lane, State.redivert_engine]
    refine (congrArg LaneRec.queue (State.withLane_lane s l _)).trans hq
  have hmod : s.modLane l (fun r => { r with
      laneSettle := none, pausedFromWait := false, state := .running, waitCause := none }) = s.withLane l (s.lane l).unpaused := rfl
  unfold State.pauseEnds
  simp only [hwait, Bool.false_eq_true, if_false]
  rw [hmod, hend, hhead]

end

/-- R149: the end of the lane's pause for an OPENING errand that waits, with the rod away from home. -/
theorem State.rodPauseEnd_away {s : State} (herr : s.door.errand = .opening) (hhold : s.door.supplyHold = true)
    (hrod : s.door.rod ≠ .home) : s.rodPauseEnd = s.withDoor { s.door with
      supplyHold := false, report := .restart, nextMove := .retract, deadTimer := s.timer 50 } := by
  rw [State.rodPauseEnd, if_pos ⟨herr, hhold⟩]
  exact if_neg hrod

/-- R149: the same with the rod at home, the door CLOSED, and neither water nor heat. -/
theorem State.rodPauseEnd_home {s : State} (herr : s.door.errand = .opening) (hhold : s.door.supplyHold = true)
    (hrod : s.door.rod = .home) (hdoor : s.doorClosed = true) (hwet : s.levelWet = false) (hoff : s.energised .heater = false) :
    s.rodPauseEnd = s.withDoor { s.door with
      supplyHold := false, opened := false, report := .none, rod := .braking, drive := .brake, nextMove := .extend,
      deadTimer := s.timer 50 } := by
  rw [State.rodPauseEnd, if_pos ⟨herr, hhold⟩]
  dsimp only
  rw [if_pos hrod, State.rodRestart]
  refine (if_neg ?_).trans (if_neg ?_)
  · change ¬ (!s.doorClosed) = true
    rw [hdoor]
    decide
  · change ¬ (s.levelWet || s.energised .heater) = true
    rw [hwet, hoff]
    decide

/-! ### The rod's switch (R151) -/

/-- The orders of two receivers. -/
theorem perm_pair_cases {a b : Receiver} {l : List Receiver} (h : l.Perm [a, b]) : l = [a, b] ∨ l = [b, a] := by
  obtain ⟨x, y, rfl⟩ : ∃ x y, l = [x, y] := by
    match l, h.length_eq with
    | [x, y], _ => exact ⟨x, y, rfl⟩
  rcases List.mem_cons.mp (h.subset List.mem_cons_self) with rfl | hx
  · exact .inl (congrArg (x :: ·) (List.perm_singleton.mp (List.perm_cons x |>.mp h)))
  · obtain rfl := List.mem_singleton.mp hx
    have hswap : [x, y].Perm [x, a] := h.trans (List.Perm.swap x a [])
    exact .inr (congrArg (x :: ·) (List.perm_singleton.mp (List.perm_cons x |>.mp hswap)))

/-- R19 and R151: the Door Unit takes the switch, and the ports take its notice before or after. -/
theorem State.accept_rodHome (s : State) (level : Bool) (order : List Receiver) : ∃ ports ports', s.accept .rodHome level order
    = (((s.accepting .rodHome level).withPorts ports).doorUnitHome (!level) (s.accepted .rodHome).isSome).withPorts ports' := by
  rw [State.accept_eq]
  generalize s.accepting .rodHome level = u
  generalize (s.accepted .rodHome).isSome = isEvent
  obtain ⟨l, hl, heq⟩ := deliver_eq_foldl (State.inputTo .rodHome level isEvent) order (Receiver.ofInput .rodHome) u
  have hports (v : State) : ∃ ports, State.inputTo .rodHome level isEvent .ports v = v.withPorts ports := by
    unfold State.inputTo
    dsimp only
    split
    · exact ⟨_, rfl⟩
    · exact ⟨v.ports, rfl⟩
  rcases perm_pair_cases hl with rfl | rfl
  · obtain ⟨ports, hp⟩ := hports (State.inputTo .rodHome level isEvent .door u)
    exact ⟨u.ports, ports, heq.trans hp⟩
  · obtain ⟨ports, hp⟩ := hports u
    refine ⟨ports, ((u.withPorts ports).doorUnitHome (!level) isEvent).ports, heq.trans ?_⟩
    simp only [List.foldl_cons, List.foldl_nil, hp]
    rfl

/-- R151: a rod at home without errand whose switch opens. -/
theorem State.doorUnitHome_lost {s : State} (hrod : s.door.rod = .home) (herr : s.door.errand = .none) :
    s.doorUnitHome false true = s.withDoor (s.rodHoming .homeLost) := by
  simp [State.doorUnitHome, hrod, herr, State.startHoming_eq]

/-- R151: a rod that PROFILE LOCK left UNKNOWN, at the settle report of its switch. -/
theorem State.doorUnitHome_unknown {s : State} (hlocked : s.store.configured = true) (hrod : s.door.rod = .unknown) (closed : Bool) :
    ∃ ports, s.doorUnitHome closed false
      = (s.withDoor (if closed then { s.door with rod := .home } else s.rodHoming .profileLock)).withPorts ports := by
  have h : s.doorUnitHome closed false = s.lockHoming closed := by simp [State.doorUnitHome, hlocked, hrod]
  rw [h, State.lockHoming]
  cases closed
  · exact ⟨s.ports, State.startHoming_eq s _⟩
  · exact ⟨_, rfl⟩

/-- Settles O52: the moves by what the dead time's end finds; the supply and the switch by what their receivers do to the rod. -/
theorem deadTimeEnds : Obligations.DeadTimeEnds := by
  refine ⟨fun s hr hdue => ⟨fun hmove => ?_, fun hmove hoc hhome => ?_, fun hmove hoc hhome herrand => ?_,
    fun hmove hoc hwet hoff hopen => ?_, fun hmove hcut => ?_⟩,
    fun order s hr hwait => ⟨fun hready hdue => ?_, fun hdue hrod hhold => ?_⟩,
    fun h rest s hr htest hp hwait hdue hq hw herr hhold d hd => ?_, fun order s level hr hc hdue => ?_⟩
  · rw [exec_deadTime hr hdue, State.deadTimeEnds_stays hmove]
  · rw [exec_deadTime hr hdue, State.deadTimeEnds_retracts hmove,
      State.beginRetract_clear (s := s.modDoor (fun d => { d with deadTimer := none })) hoc hhome]
    rfl
  · have heq := (State.beginRetract_home (s := s.modDoor (fun d => { d with deadTimer := none })) hoc hhome).trans
      (State.rodAtHome_homing herrand)
    rw [← State.deadTimeEnds_retracts hmove] at heq
    refine ⟨_, exec_deadTime hr hdue, ?_, fun p => ?_⟩
    · rw [heq]
      rfl
    · rw [heq, State.raiseRodState, State.raiseByClass_port]
      rfl
  · rw [exec_deadTime hr hdue, State.deadTimeEnds_extends hmove hoc (State.extendTerms_of_met hwet hoff hopen)]
  · rw [exec_deadTime hr hdue, State.deadTimeEnds_blocked hmove (State.extendTerms_of_unmet hcut)]
  · refine ⟨_, exec_lossWindow_ready hr hready hdue, ?_⟩
    refine (State.supplyBecomesLost_door ?_ .zeroCross order).trans ?_
    · exact hwait
    unfold DoorUnit.supplyLost
    simp only [List.mem_cons, List.not_mem_nil, or_false, or_assoc]
    rfl
  · refine ⟨_, (exec_event rfl hr).trans (by rw [if_pos hdue]), ?_⟩
    rw [State.supplyBecomesReady_door hrod hwait]
    unfold DoorUnit.supplyReady DoorUnit.towardHome
    simp only [hhold, hrod, and_true]
    rfl
  · have hhead : (s.withLane .water (s.lane .water).unpaused).head .water = some h := State.head_of_queue (rest := rest) hq
    have hredivert : (s.withLane .water (s.lane .water).unpaused).redivert .water = s.withLane .water (s.lane .water).unpaused := by
      rw [State.redivert, hhead]
      dsimp only
      rw [hw]
    rw [exec_pauseSettle hr hp hdue, State.pauseEnds_running htest hwait hq, hredivert, State.resumeKind, hw]
    rcases hd with ⟨hrod, rfl⟩ | ⟨hrod, hclosed, hwet, hoff, rfl⟩
    · exact congrArg Host.Outcome.next (State.rodPauseEnd_away (s := s.withLane .water (s.lane .water).unpaused) herr hhold hrod)
    · exact congrArg Host.Outcome.next (State.rodPauseEnd_home (s := s.withLane .water (s.lane .water).unpaused) herr hhold hrod hclosed hwet hoff)
  · obtain ⟨ports, ports', heq⟩ := s.accept_rodHome level order
    refine ⟨_, exec_debounce hr hc hdue order, fun hlevel hsome hrod herr => ?_, fun hnone hlocked hrod => ?_⟩
    · rw [heq, hlevel, hsome]
      rw [show (!true) = false from rfl,
        State.doorUnitHome_lost (s := (s.accepting .rodHome true).withPorts ports) hrod herr]
      exact ⟨rfl, rfl, rfl⟩
    · obtain ⟨ports'', hdoor⟩ :=
        State.doorUnitHome_unknown (s := (s.accepting .rodHome level).withPorts ports) hlocked hrod (!level)
      rw [heq, hnone, show (none : Option Bool).isSome = false from rfl, hdoor]
      cases level <;> exact ⟨rfl, rfl, rfl⟩

end Sys2Proof.Machine
end

-- ==== What the acts of the DOSE lane leave alone (R27, R35, R76 to R81, R127 to R136) ====
section
namespace Sys2Proof.Machine

/-! ### The part beside the DOSE lane's blocks -/

/-- The state with all blanked that the steps of the DOSE lane change beside the demands: the lane, the Dosing Unit, the turbidity sampling,
the ports, the cycle record and the reference volume. -/
def State.besideDose (s : State) : State :=
  { s with engine := { s.engine with lanes := { s.engine.lanes with dose := .reset }, refVolume := none },
           dosing := .reset, sampler := { s.sampler with turb := Sampler.reset.turb }, ports := PortRec.resetAll [],
           store := { s.store with cycle := .reset } }

@[simp] theorem State.modLane_besideDose (s : State) (f : LaneRec → LaneRec) : (s.modLane .dose f).besideDose = s.besideDose := rfl
@[simp] theorem State.modHead_besideDose (s : State) (f : StepRec → StepRec) : (s.modHead .dose f).besideDose = s.besideDose := rfl
@[simp] theorem State.withDose_besideDose (s : State) (r : Option DoseRec) : (s.withDose r).besideDose = s.besideDose := rfl
@[simp] theorem State.withTurb_besideDose (s : State) (t : Turbidity) : (s.withTurb t).besideDose = s.besideDose := rfl
@[simp] theorem State.raiseByClass_besideDose (s : State) (n : Notice) : (s.raiseByClass n).besideDose = s.besideDose := rfl
@[simp] theorem State.withAccount_besideDose (s : State) (a : Agent) (acc : StockAccount) :
    (s.withAccount a acc).besideDose = s.besideDose := rfl
@[simp] theorem State.raiseStep_besideDose (s : State) (l : Lane) (n : Notice) : (s.raiseStep l n).besideDose = s.besideDose := by
  unfold State.raiseStep; split <;> rfl
@[simp] theorem State.setRefFrom_besideDose (s : State) (t : StepRec) : (s.setRefFrom t).besideDose = s.besideDose := by
  unfold State.setRefFrom; split <;> rfl
@[simp] theorem State.modDose_besideDose (s : State) (f : DoseRec → DoseRec) : (s.modDose f).besideDose = s.besideDose := by
  unfold State.modDose; split <;> rfl
@[simp] theorem State.cycleStroke_besideDose (s : State) (a : Agent) (ml : Nat) : (s.cycleStroke a ml).besideDose = s.besideDose := by
  unfold State.cycleStroke State.cycleEvent; split <;> rfl
@[simp] theorem State.evalLevel_besideDose (s : State) (a : Agent) : (s.evalLevel a).besideDose = s.besideDose := by
  unfold State.evalLevel
  dsimp only
  (repeat' split) <;> rfl
@[simp] theorem State.setStock_besideDose (s : State) (a : Agent) (n : Nat) : (s.setStock a n).besideDose = s.besideDose := by
  simp [State.setStock]
@[simp] theorem State.declareStock_besideDose (s : State) (a : Agent) (n : Nat) : (s.declareStock a n).besideDose = s.besideDose := by
  simp [State.declareStock]
@[simp] theorem State.applyHeld_besideDose (s : State) (a : Agent) : (s.applyHeld a).besideDose = s.besideDose := by
  unfold State.applyHeld
  split <;> simp
@[simp] theorem State.countStroke_besideDose (s : State) (r : DoseRec) : (s.countStroke r).besideDose = s.besideDose := by
  simp only [State.countStroke, State.cycleStroke_besideDose]
  split <;> simp
@[simp] theorem State.judgeStroke_besideDose (s : State) (r : DoseRec) : (s.judgeStroke r).besideDose = s.besideDose := by
  simp only [State.judgeStroke, State.applyHeld_besideDose]
  split <;> simp
@[simp] theorem State.doseTryEnd_besideDose (s : State) : s.doseTryEnd.besideDose = s.besideDose := by
  unfold State.doseTryEnd
  split
  · rfl
  · simp only [State.modDose_besideDose]
    split <;> simp
@[simp] theorem State.requestSample_besideDose (s : State) (p : Option Port) (d : Bool) :
    (s.requestSample p d).besideDose = s.besideDose := by
  simp only [State.requestSample]
  (repeat' split) <;> rfl
@[simp] theorem State.findClass_besideDose (s : State) (r : DoseRec) : (s.findClass r).besideDose = s.besideDose := by
  unfold State.findClass State.computeDose
  (repeat' split) <;> simp

section
variable {s t : State} (h : t.besideDose = s.besideDose)
include h

theorem State.lane_of_besideDose : t.lane .water = s.lane .water := (congrArg (fun u : State => u.lane .water) h :)
theorem State.guard_of_besideDose : t.guard = s.guard := (congrArg State.guard h :)
theorem State.softener_of_besideDose : t.softener = s.softener := (congrArg State.softener h :)
theorem State.door_of_besideDose : t.door = s.door := (congrArg State.door h :)
theorem State.time_of_besideDose : t.time = s.time := (congrArg State.time h :)
theorem State.inputs_of_besideDose : t.inputs = s.inputs := (congrArg State.inputs h :)
theorem State.waterDry_of_besideDose : t.engine.waterDry = s.engine.waterDry := (congrArg (fun u : State => u.engine.waterDry) h :)

end

/-! ### The acts of the DOSE lane -/

/-- `t` is `s` after acts of the DOSE lane: changes of its own blocks, looks at the exclusion, and changes of its demands. -/
inductive State.doseActs : State → State → Prop
  | keeps {s t : State} (h : t.besideDose = s.besideDose) : doseActs s t
  | release (s : State) : doseActs s s.releaseExclusion
  | demands (s : State) (v : Bool) (os : List Output) : doseActs s (s.putDemands .dose v os).evaluate
  | trans {s t u : State} (h : doseActs s t) (h' : doseActs t u) : doseActs s u

namespace State.doseActs

theorem refl (s : State) : s.doseActs s := .keeps rfl

theorem modLane (s : State) (f : LaneRec → LaneRec) : s.doseActs (s.modLane .dose f) := .keeps (s.modLane_besideDose f)

theorem modHead (s : State) (f : StepRec → StepRec) : s.doseActs (s.modHead .dose f) := .keeps (s.modHead_besideDose f)

theorem modDose (s : State) (f : DoseRec → DoseRec) : s.doseActs (s.modDose f) := .keeps (s.modDose_besideDose f)

theorem withdrawAll (s : State) : s.doseActs (s.withdrawAll .dose) := .demands s false Output.evalOrder

theorem issueStroke (s : State) (a : Agent) : s.doseActs (s.issueStroke a) := (modDose s _).trans (.demands _ true [a.pump])

theorem concludeSuccess (s : State) (flags : ResultFlags) : s.doseActs (s.concludeSuccess .dose flags) := by
  unfold State.concludeSuccess
  split
  · exact refl s
  · dsimp only
    refine .trans (.keeps ?_) (.release _)
    split <;> simp [State.dropDose]

theorem failForGood (s : State) (r : StepResult) : s.doseActs (s.failForGood .dose r) := by
  unfold State.failForGood
  split
  · exact refl s
  · exact .trans (.keeps (by simp)) (.release _)

theorem concludeCounted (s : State) (r : StepResult) : s.doseActs (s.concludeCounted .dose r) := by
  unfold State.concludeCounted
  dsimp only
  split
  · exact refl s
  · split
    · exact (modHead s _).trans (modLane _ _)
    · exact (modHead s _).trans (failForGood _ r)

end State.doseActs

/-- R70: the head of the DOSE lane is a DOSE. -/
theorem State.dose_head {s : State} (hb : s.bounded = true) {h : StepRec} (hh : s.head .dose = some h) :
    ∃ base agent, h.work = .dose base agent := by
  have hlane := s.lane_work hb .dose h (List.mem_of_head? hh)
  cases hw : h.work
  case dose base agent => exact ⟨base, agent, rfl⟩
  all_goals
    rw [hw] at hlane
    exact nomatch hlane

namespace State.doseActs

section
variable {s : State} (hb : s.bounded = true)
include hb

theorem tryEnd : s.doseActs (s.tryEnd .dose) := by
  refine (withdrawAll s).trans (.keeps ((State.withTurb_besideDose _ _).trans ?_))
  change ((s.withdrawAll .dose).tellTryEnd .dose).besideDose = (s.withdrawAll .dose).besideDose
  unfold State.tellTryEnd
  split
  · rfl
  next t ht =>
    obtain ⟨base, agent, hw⟩ := State.dose_head (s.withdrawAll_bounded .dose hb) ht
    rw [hw]
    exact State.doseTryEnd_besideDose _

theorem succeed (flags : ResultFlags) (actual : Option Nat) : s.doseActs (s.succeed .dose flags actual) := by
  unfold State.succeed
  cases actual with
  | none => exact (tryEnd hb).trans (concludeSuccess _ flags)
  | some v =>
    have hmod : (s.modHead .dose fun t => { t with actual := fit32 v }).bounded = true :=
      s.modHead_bounded .dose _ hb fun _ => rfl
    exact (modHead s _).trans ((tryEnd hmod).trans (concludeSuccess _ flags))

theorem endCounted (r : StepResult) : s.doseActs (s.endCounted .dose r) := by
  unfold State.endCounted
  exact (tryEnd hb).trans (concludeCounted _ r)

theorem failImmediate (r : StepResult) : s.doseActs (s.failImmediate .dose r) := by
  unfold State.failImmediate
  split
  · exact (tryEnd hb).trans (failForGood _ r)
  · exact failForGood s r

theorem endDose (o : Outcome) : s.doseActs (s.endDose o) := by
  unfold State.endDose
  split
  · exact succeed hb _ _
  · exact failImmediate hb _
  all_goals exact refl s

theorem strokeDue : s.doseActs s.strokeDue := by
  unfold State.strokeDue
  (repeat' split)
  · exact refl s
  · exact refl s
  · exact modDose s _
  · exact endDose hb _
  · exact issueStroke s _

theorem doseWork : s.doseActs s.doseWork := by
  unfold State.doseWork
  split
  · exact strokeDue hb
  · exact .keeps (by simp [State.startDoseDry])

theorem runKind (base : Nat) (agent : Agent) : s.doseActs (s.runKind .dose (.dose base agent)) := by
  refine (modLane s _).trans ((modDose _ _).trans (doseWork (State.setTryTarget_bounded _ ?_)))
  exact s.modLane_bounded .dose _ hb List.suffix_rfl

theorem retest : s.doseActs (s.retest .dose) := by
  unfold State.retest
  split
  · split
    · exact refl s
    next t ht =>
      obtain ⟨base, agent, hw⟩ := State.dose_head hb ht
      rw [hw]
      unfold State.takeOutcome
      split
      · exact succeed hb _ _
      · exact endCounted hb _
      · exact failImmediate hb _
      · exact modLane s fun r => { r with state := .waiting, waitCause := some .start }
      · exact runKind hb base agent
  · exact refl s

theorem pauseKind (supply : Bool) : s.doseActs (s.pauseKind .dose supply) := by
  unfold State.pauseKind
  split
  · exact refl s
  next t ht =>
    obtain ⟨base, agent, hw⟩ := State.dose_head hb ht
    rw [hw]
    dsimp only
    unfold State.dosePause
    dsimp only
    split
    · exact (modDose s _).trans (withdrawAll _)
    · exact modDose s _

theorem addCause (supply : Bool) : s.doseActs (s.addCause .dose supply) := by
  unfold State.addCause
  dsimp only
  split
  · refine .trans ?_ (pauseKind ?_ supply)
    · exact modLane s _
    · exact s.modLane_bounded .dose _ hb List.suffix_rfl
  · exact refl s

theorem doseLevelLow (wet isEvent : Bool) : s.doseActs (s.doseLevelLow wet isEvent) := by
  unfold State.doseLevelLow
  dsimp only
  split
  · exact retest hb
  · split
    · split
      · have hdry : s.doseActs (s.modDose fun r => { r with dry := none }) := modDose s _
        split
        · exact hdry
        · split
          · exact hdry.trans (strokeDue (by simpa using hb))
          · exact hdry
      · exact modDose s _
    · exact refl s

end

theorem removeCause (s : State) (supply : Bool) : s.doseActs (s.removeCause .dose supply) := by
  obtain ⟨door, sup, timer, heq⟩ := s.removeCause_keeps .dose supply
  rw [heq]
  exact .keeps rfl

end State.doseActs

/-! ### What the acts of the DOSE lane leave of the rod -/

theorem State.releaseExclusion_startWait {s : State} (h : (s.lane .water).startWait = false) :
    (s.releaseExclusion.lane .water).startWait = false := by
  have hwater (u : State) (l : Lane) (hu : (u.lane .water).startWait = false) : ((u.releaseLane l).lane .water).startWait = false := by
    unfold State.releaseLane
    split
    · cases l
      · rfl
      · exact hu
    · exact hu
  exact hwater _ .dose (hwater _ .water h)

theorem State.now_of_evaluate (s : State) : s.evaluate.now = s.now := State.now_of_surroundings s.evaluate_surroundings

/-- R36: the inputs bar HEATER. -/
def State.heatBarred (s : State) : Bool := !(s.doorClosed && s.levelWet)

theorem State.heatBarred_of_inputs {s t : State} (h : t.inputs = s.inputs) : t.heatBarred = s.heatBarred := by
  simp [State.heatBarred, State.doorClosed, State.levelWet, State.reads, State.accepted, h]

/-- R36 and R146: where the inputs bar HEATER, an evaluation leaves the Door Unit alone. -/
theorem State.evaluate_rod_barred {s : State} (hw : (s.lane .water).startWait = false) (h : s.heatBarred = true) :
    s.evaluate.door = s.door := by
  refine State.evaluate_door (State.autoOpenWaits_of_startWait hw) fun _ => ?_
  have hbar := (State.heatBarred_of_inputs (congrArg Surroundings.inputs s.settleOutputs_surroundings)).trans h
  rw [← Bool.not_eq_true]
  intro hon
  obtain ⟨-, hdoor, hwet, -⟩ := State.heater_of_energised s.settleOutputs_settled hon
  simp [State.heatBarred, hdoor, hwet] at hbar

/-- What acts keep of the part, as far as the rod goes: no start wait of WATER, the run clock, the inputs, and the rod, which they cut at
most, and not where the inputs bar HEATER. -/
def State.rodKept (s t : State) : Prop :=
  (t.lane .water).startWait = false ∧ t.now = s.now ∧ t.inputs = s.inputs
  ∧ (t.door = s.door ∨ t.door = s.door.guarded s.now) ∧ (s.heatBarred = true → t.door = s.door)

theorem State.rodKept_trans {s t u : State} (h : s.rodKept t) (h' : t.rodKept u) : s.rodKept u := by
  obtain ⟨-, hnow, hinputs, hdoor, hbarred⟩ := h
  obtain ⟨hwait', hnow', hinputs', hdoor', hbarred'⟩ := h'
  refine ⟨hwait', hnow'.trans hnow, hinputs'.trans hinputs, ?_, fun hb => ?_⟩
  · rcases hdoor with e | e <;> rcases hdoor' with e' | e' <;> rw [e', e]
    · exact .inl rfl
    · exact .inr (by rw [hnow])
    · exact .inr rfl
    · exact .inr (by rw [hnow, DoorUnit.guarded_guarded])
  · exact (hbarred' ((State.heatBarred_of_inputs hinputs).trans hb)).trans (hbarred hb)

theorem State.rodKept_of_same {s t : State} (hwait : (t.lane .water).startWait = false) (htime : t.now = s.now)
    (hinputs : t.inputs = s.inputs) (hdoor : t.door = s.door) : s.rodKept t :=
  ⟨hwait, htime, hinputs, .inl hdoor, fun _ => hdoor⟩

theorem State.evaluate_rodKept {s : State} (hw : (s.lane .water).startWait = false) : s.rodKept s.evaluate :=
  ⟨by rw [State.evaluate_lane hw, hw], s.now_of_evaluate, congrArg Surroundings.inputs s.evaluate_surroundings,
    State.evaluate_rod (State.autoOpenWaits_of_startWait hw), State.evaluate_rod_barred hw⟩

theorem State.putDemands_rodKept {s : State} (hw : (s.lane .water).startWait = false) (src : Source) (v : Bool) (os : List Output) :
    s.rodKept (s.putDemands src v os).evaluate := by
  have hput (f : State → DoorUnit × Word × PerInput FilteredInput) (hf : ∀ (u : State) src v o, f (u.putDemand src v o) = f u) :=
    State.putDemands_keeps f hf s src v os
  have hkept := hput (fun u => (u.door, u.now, u.inputs)) fun _ _ _ _ => rfl
  have hlane : ((s.putDemands src v os).lane .water).startWait = false := by
    rw [State.lane, State.putDemands_lanes]
    exact hw
  simp only [Prod.mk.injEq] at hkept
  obtain ⟨hdoor, hnow, hinputs⟩ := hkept
  exact State.rodKept_trans (State.rodKept_of_same hlane hnow hinputs hdoor) (State.evaluate_rodKept hlane)

theorem State.doseActs.rodKept {s t : State} (h : s.doseActs t) (hw : (s.lane .water).startWait = false) : s.rodKept t := by
  induction h with
  | keeps h =>
    exact State.rodKept_of_same (by rw [State.lane_of_besideDose h]; exact hw)
      (congrArg TimeBase.clock (State.time_of_besideDose h)) (State.inputs_of_besideDose h) (State.door_of_besideDose h)
  | release s =>
    have hapart := s.releaseExclusion_apart
    exact State.rodKept_of_same (State.releaseExclusion_startWait hw) (congrArg TimeBase.clock (State.time_of_apart hapart))
      (congrArg State.inputs hapart :) (State.door_of_apart hapart)
  | demands s v os => exact State.putDemands_rodKept hw .dose v os
  | trans _ _ ih ih' =>
    have hfirst := ih hw
    exact State.rodKept_trans hfirst (ih' hfirst.1)

end Sys2Proof.Machine
end

-- ==== The start of a try, and the ends of a move of the rod (R75, R108, R142 to R146) ====
section
namespace Sys2Proof.Machine

/-! ### The start of a try (R75) -/

/-- R75: the part as the try of a lane's head begins, before its kind is prepared. -/
def State.tryStarted (s : State) (l : Lane) (h : StepRec) (rest : List StepRec) : State :=
  s.withLane l { s.lane l with
    queue := { h with status := .active, started := true } :: rest, state := .running, waitCause := none, running := 0,
    attemptDue := false }

section
variable {s : State} {l : Lane} {h : StepRec} {rest : List StepRec} (hq : (s.lane l).queue = h :: rest)

include hq in
theorem State.modHead_of_queue (f : StepRec → StepRec) :
    s.modHead l f = s.withLane l { s.lane l with queue := f h :: rest } := by
  simp only [State.modHead, State.modLane, hq]
  rfl

include hq in
theorem State.beginTry_eq {u : State} {t : StepRec} {o : Outcome}
    (hu : (s.tryStarted l h rest).endTest.prepare l h (!h.started) = u) (hh : u.head l = some t) (ho : u.startTests l t = o) :
    s.beginTry l h = u.takeOutcome l t.work (t.work.doorPauses && !u.doorClosed) o := by
  have hstarted : (s.modHead l (fun t => { t with status := .active, started := true })).modLane l (fun r =>
      { r with state := .running, waitCause := none, running := 0, attemptDue := false }) = s.tryStarted l h rest := by
    rw [State.modHead_of_queue hq]
    cases l <;> rfl
  unfold State.beginTry
  dsimp only
  rw [hstarted, hu, hh, ← ho]

@[simp] theorem State.tryStarted_lane : (s.tryStarted l h rest).lane l = { s.lane l with
    queue := { h with status := .active, started := true } :: rest, state := .running, waitCause := none, running := 0,
    attemptDue := false } := State.withLane_lane s l _

end

theorem State.endTest_none {s : State} (h : s.guard.test = none) : s.endTest = s := by
  rw [State.endTest, h]

theorem State.attempt_begins {s : State} {l : Lane} {h : StepRec} {rest : List StepRec} (hq : (s.lane l).queue = h :: rest)
    (hs : s.time.supply = .ready) (hf : s.guard.flood = false) (hl : s.guard.latched = false)
    (hcut : s.aboveCutoff h.work = false) (hex : s.excluded l = false) : s.attempt l = s.beginTry l h := by
  rw [State.attempt_clear (State.head_of_queue hq) hs hf hl, if_neg (by rw [hcut]; decide), if_neg (by rw [hex]; decide)]

/-! ### An AUTO_OPEN that starts (R108, R143) -/

section
variable {s : State} {h : StepRec} {rest : List StepRec}

/-- R143: the Door Unit when a try of AUTO_OPEN is handed over with the supply READY. -/
theorem State.rodHandOver_ready (hs : s.time.supply = .ready) : s.rodHandOver = s.withDoor
    (if s.pins.rodOc then
      { s.rodBraked .blocked with errand := .opening, cause := none, opened := false, extendBegan := s.time.clock }
    else
      { s.door with errand := .opening, cause := none, opened := false, report := .none, rod := .extending, drive := .extend,
                    nextMove := .none, extendBegan := s.time.clock, extendTimer := s.timer (s.fieldNat 16 * 100) }) := by
  have hready : s.supplyReady = true := decide_eq_true hs
  unfold State.rodHandOver State.beginExtend
  dsimp only
  rw [if_pos hready]
  change (if s.pins.rodOc = true then _ else _) = _
  cases s.pins.rodOc <;> rfl

theorem State.prepare_autoOpen (l : Lane) (first : Bool) (hw : h.work = .autoOpen) :
    s.prepare l h first = s.modHead l (fun t => { t with autoOpenOn := s.autoOpenSetting }) := by
  rw [State.prepare, hw]

theorem State.autoOpenTests_run {t : StepRec} (hon : t.autoOpenOn = true) (hdoor : s.accepted .door = some true)
    (hdry : s.accepted .levelLow = some false) (hoff : s.energised .heater = false) (hrod : s.door.rod = .home) :
    s.autoOpenTests t = .run := by
  simp [State.autoOpenTests, hon, hdoor, hdry, hoff, hrod]

/-- R75 and R143: the start of a try of AUTO_OPEN that passes its tests, with the supply READY. -/
theorem State.beginTry_autoOpen (hq : (s.lane .water).queue = h :: rest) (htest : s.guard.test = none) (hw : h.work = .autoOpen)
    (hset : s.autoOpenSetting = true) (hdoor : s.accepted .door = some true)
    (hdry : s.accepted .levelLow = some false) (hoff : s.energised .heater = false) (hrod : s.door.rod = .home) :
    s.beginTry .water h = (s.withLane .water { s.lane .water with
        queue := { h with status := .active, started := true, autoOpenOn := true } :: rest, state := .running, waitCause := none,
        running := 0, attemptDue := false }).rodHandOver := by
  have hu : (s.tryStarted .water h rest).endTest.prepare .water h (!h.started) = s.withLane .water { s.lane .water with
      queue := { h with status := .active, started := true, autoOpenOn := s.autoOpenSetting } :: rest, state := .running,
      waitCause := none, running := 0, attemptDue := false } := by
    rw [State.endTest_none (s := s.tryStarted .water h rest) htest, State.prepare_autoOpen .water _ hw, State.modHead_of_queue (s := s.tryStarted .water h rest) rfl]
    rfl
  rw [hset] at hu
  rw [State.beginTry_eq hq hu (t := { h with status := .active, started := true, autoOpenOn := true }) rfl (o := .run)]
  · dsimp only
    rw [hw]
    rfl
  · rw [State.startTests]
    dsimp only
    rw [hw]
    exact State.autoOpenTests_run rfl hdoor hdry hoff hrod

end

theorem exec_startAutoOpen {s : State} {h : StepRec} {rest : List StepRec} (hr : s.resetHeld = false) (ha : s.attemptsWater h rest)
    (hw : h.work = .autoOpen) : exec (.startAttempt .water) s = .next (s.beginTry .water h) := by
  obtain ⟨hst, hdue, hq, hs, hf, hl⟩ := ha
  have hcut : s.aboveCutoff h.work = false := by rw [hw]; rfl
  have hex : s.excluded .water = false := by
    simp [State.excluded, State.headIs, State.head_of_queue hq, hw, Work.isFill]
  rw [exec_startAttempt hr hst hdue nofun, State.attempt_begins hq hs hf hl hcut hex]

/-! ### The rod under an input event (R141, R144 to R146) -/

/-- What a delivery of an input event finds all the while. -/
def State.eventUnwaiting (u s : State) : Prop := s.surroundings = u.surroundings ∧ s.bounded = true ∧ (s.lane .water).startWait = false

section
variable {u s : State} (h : u.eventUnwaiting s)
include h

/-- R19: a receiver that keeps the WATER lane out of a start wait keeps all of it. -/
theorem State.eventUnwaiting_of {i : Input} {level : Bool} {r : Receiver} (hi : i ≠ .float)
    (hw : ((State.inputTo i level true r s).lane .water).startWait = false) : u.eventUnwaiting (State.inputTo i level true r s) :=
  ⟨(s.inputTo_surroundings i level true r (.inl hi)).trans h.1, s.inputTo_bounded i level true r h.2.1, hw⟩

end

theorem State.retest_unwaiting {s : State} {l : Lane} (h : (s.lane l).startWait = false) : s.retest l = s := by
  rw [State.retest, h]
  rfl

theorem State.withdrawAll_rodKept {s : State} (hw : (s.lane .water).startWait = false) (src : Source) :
    s.rodKept (s.withdrawAll src) := State.putDemands_rodKept hw src false _

/-- A change of the Step Engine that leaves the WATER lane in no start wait. -/
theorem State.withEngine_rodKept {s : State} {e : Engine} (h : ((s.withEngine e).lane .water).startWait = false) :
    s.rodKept (s.withEngine e) := State.rodKept_of_same h rfl rfl rfl

section
variable {s : State} (hw : (s.lane .water).startWait = false)
include hw

theorem State.pauseKind_rodKept (hb : s.bounded = true) : s.rodKept (s.pauseKind .water false) := by
  have hwater := State.withdrawAll_rodKept hw .water
  unfold State.pauseKind
  split
  · exact State.rodKept_of_same hw rfl rfl rfl
  next t ht =>
    have hlane := s.lane_work hb .water t (List.mem_of_head? ht)
    cases hwork : t.work
    case dose => rw [hwork] at hlane; exact nomatch hlane
    case regenerate => exact State.withdrawAll_rodKept hw .softener
    case autoOpen => exact State.rodKept_of_same hw rfl rfl rfl
    case circulate => exact State.rodKept_trans hwater (State.withEngine_rodKept hwater.1)
    case heat => exact State.rodKept_trans hwater (State.withEngine_rodKept hwater.1)
    all_goals exact hwater

/-- R80: the begin of a door pause. -/
theorem State.addCause_rodKept (hb : s.bounded = true) : s.rodKept (s.addCause .water false) := by
  unfold State.addCause
  dsimp only
  split
  · refine State.rodKept_trans ?_ (State.pauseKind_rodKept ?_ ?_)
    · exact State.rodKept_of_same rfl rfl rfl rfl
    · rfl
    · exact s.modLane_bounded .water _ hb List.suffix_rfl
  · exact State.rodKept_of_same hw rfl rfl rfl

theorem State.removeCause_rodKept (supply : Bool) : s.rodKept (s.removeCause .water supply) := by
  obtain ⟨door, sup, timer, heq⟩ := s.removeCause_keeps .water supply
  rw [heq]
  exact State.rodKept_of_same hw rfl rfl rfl

/-- R80, R81 and R90: the Step Engine takes DOOR. -/
theorem State.engineDoor_rodKept (hb : s.bounded = true) (closed : Bool) : s.rodKept (s.engineDoor closed true) := by
  have hretest {u : State} (hu : s.rodKept u) (hub : u.bounded = true) : s.rodKept ((u.retest .water).retest .dose) := by
    rw [State.retest_unwaiting hu.1]
    exact State.rodKept_trans hu ((State.doseActs.retest hub).rodKept hu.1)
  unfold State.engineDoor
  cases closed
  · have hwater := State.addCause_rodKept hw hb
    have hwb := s.addCause_bounded .water false hb
    exact hretest (State.rodKept_trans hwater ((State.doseActs.addCause hwb false).rodKept hwater.1))
      (State.addCause_bounded _ .dose false hwb)
  · have hwater := State.removeCause_rodKept hw false
    exact hretest (State.rodKept_trans hwater ((State.doseActs.removeCause _ false).rodKept hwater.1))
      (State.removeCause_bounded _ .dose false (s.removeCause_bounded .water false hb))

/-- R97, R100, R103, R131: the Step Engine takes LEVEL_LOW turning wet. -/
theorem State.engineWet_rodKept (hb : s.bounded = true) : s.rodKept (s.engineInput .levelLow true true) := by
  have hwater : s.rodKept (s.waterLevelLow true true) := by
    have hsame := State.rodKept_of_same (s := s) (t := s) hw rfl rfl rfl
    unfold State.waterLevelLow
    rw [if_neg (by rw [hw]; decide)]
    split
    · exact hsame
    · split
      · exact hsame
      · split
        · exact State.rodKept_of_same hw rfl rfl rfl
        · unfold State.pumpingLevel
          (repeat' split) <;> exact State.rodKept_of_same hw rfl rfl rfl
        · unfold State.pumpingLevel
          (repeat' split) <;> exact State.rodKept_of_same hw rfl rfl rfl
        all_goals exact hsame
  exact State.rodKept_trans hwater
    ((State.doseActs.doseLevelLow (s.waterLevelLow_bounded true true hb) true true).rodKept hwater.1)

end

/-- R141, R144 and R145: the Door Unit's record after an event of DOOR at the run clock `now`. -/
def DoorUnit.tookDoor (d : DoorUnit) (closed : Bool) (now : Word) (hold : Timer) : DoorUnit :=
  if closed = false ∧ d.rod = .extending then
    { d with position := some false, extendTimer := none, extendTime := (now - d.extendBegan).toNat, opened := true,
             rod := .holding, holdTimer := hold }
  else if closed = true ∧ d.rod = .holding then
    { d.brakeToward now .retract .success with position := some true, ajar := false }
  else { d with position := some closed, ajar := d.ajar && !closed }

theorem DoorUnit.tookDoor_tookDoor (d : DoorUnit) (closed : Bool) (now : Word) (hold : Timer) :
    (d.tookDoor closed now hold).tookDoor closed now hold = d.tookDoor closed now hold := by
  cases closed
  · by_cases h : d.rod = .extending <;> simp [DoorUnit.tookDoor, h]
  · by_cases h : d.rod = .holding <;> simp [DoorUnit.tookDoor, DoorUnit.brakeToward, h]

theorem State.doorUnitDoor_door (s : State) (closed : Bool) :
    (s.doorUnitDoor closed true).door = s.door.tookDoor closed s.now (s.timer (s.fieldNat 17 * 100)) := by
  cases closed
  · unfold State.doorUnitDoor DoorUnit.tookDoor
    by_cases h : s.door.rod = .extending <;> simp [h, State.modDoor] <;> rfl
  · have hajar (u : State) : (u.setAjar false).door = { u.door with ajar := false } := by
      unfold State.setAjar
      split
      next h => rw [← h]
      · rfl
    have hnow (u : State) : (u.setAjar false).now = u.now := by
      unfold State.setAjar
      split <;> rfl
    unfold State.doorUnitDoor DoorUnit.tookDoor
    by_cases h : s.door.rod = .holding <;> simp [h, State.modDoor, hajar, State.endHold, hnow] <;> rfl

theorem State.fieldNat_of_surroundings {s t : State} (h : t.surroundings = s.surroundings) (i : Nat) : t.fieldNat i = s.fieldNat i := by
  have hprofile : t.store.profile = s.store.profile := congrArg Surroundings.profile h
  rw [State.fieldNat, State.field, hprofile]
  rfl

theorem State.accepting_now (s : State) (i : Input) (level : Bool) : (s.accepting i level).now = s.now := rfl

theorem State.doorUnitDoor_engine (s : State) (closed isEvent : Bool) : (s.doorUnitDoor closed isEvent).engine = s.engine := by
  unfold State.doorUnitDoor State.setAjar
  dsimp only
  (repeat' split) <;> rfl

/-- R19: an input event that every receiver meets by `g` at most, and the Door Unit by `g`. -/
theorem State.accept_door {s : State} {i : Input} {level : Bool} {g : DoorUnit → DoorUnit} (order : List Receiver) (hi : i ≠ .float)
    (hb : s.bounded = true) (hw : (s.lane .water).startWait = false) (hev : (s.accepted i).isSome = true)
    (hdoor : Receiver.door ∈ Receiver.ofInput i) (hg : ∀ d, g (g d) = g d)
    (h0 : ∀ u, (s.accepting i level).eventUnwaiting u → (State.inputTo i level true .door u).door = g u.door)
    (h : ∀ r ∈ Receiver.ofInput i, ∀ u, (s.accepting i level).eventUnwaiting u →
      ((State.inputTo i level true r u).lane .water).startWait = false
      ∧ ((State.inputTo i level true r u).door = u.door ∨ (State.inputTo i level true r u).door = g u.door)) :
    (s.accept i level order).door = g s.door := by
  rw [State.accept_eq, hev]
  refine deliver_applies (f := State.door) (g := g) (P := (s.accepting i level).eventUnwaiting) hg h0 (fun r hr u hu => ?_) order
    ⟨rfl, ?_, hw⟩ hdoor
  · obtain ⟨hwait, hact⟩ := h r hr u hu
    exact ⟨State.eventUnwaiting_of hu hi hwait, hact⟩
  · rw [State.accepting, State.modInput, State.withInputs_bounded, hb]

/-- R144 and R145: an event of DOOR where the inputs then bar HEATER. -/
theorem State.accept_door_door {s : State} {level : Bool} (order : List Receiver) (hb : s.bounded = true)
    (hw : (s.lane .water).startWait = false) (hev : (s.accepted .door).isSome = true)
    (hbar : (s.accepting .door level).heatBarred = true) :
    (s.accept .door level order).door = s.door.tookDoor level s.now (s.timer (s.fieldNat 17 * 100)) := by
  have hunit (u : State) (hu : (s.accepting .door level).eventUnwaiting u) :
      (u.doorUnitDoor level true).door = u.door.tookDoor level s.now (s.timer (s.fieldNat 17 * 100)) := by
    have hnow : u.now = s.now := (State.now_of_surroundings hu.1).trans (s.accepting_now .door level)
    have hfield : u.fieldNat 17 = s.fieldNat 17 := State.fieldNat_of_surroundings hu.1 17
    rw [State.doorUnitDoor_door, hnow, hfield, State.timer_of_surroundings hu.1]
    rfl
  refine State.accept_door (g := fun d => d.tookDoor level s.now (s.timer (s.fieldNat 17 * 100))) order (by decide) hb hw hev
    (by decide) (fun d => d.tookDoor_tookDoor _ _ _) hunit fun r _ u hu => ?_
  have hubar : u.heatBarred = true := (State.heatBarred_of_inputs (congrArg Surroundings.inputs hu.1)).trans hbar
  cases r
  case guard =>
    have hkept := State.evaluate_rodKept hu.2.2
    exact ⟨hkept.1, .inl (hkept.2.2.2.2 hubar)⟩
  case engine =>
    have hkept := State.engineDoor_rodKept hu.2.2 hu.2.1 level
    exact ⟨hkept.1, .inl (hkept.2.2.2.2 hubar)⟩
  case door => exact ⟨by rw [State.lane, State.inputTo, State.doorUnitInput, State.doorUnitDoor_engine]; exact hu.2.2, .inr (hunit u hu)⟩
  all_goals exact ⟨hu.2.2, .inl rfl⟩

/-- R146: an event of LEVEL_LOW to wet. -/
theorem State.accept_levelLow_door {s : State} (order : List Receiver) (hb : s.bounded = true)
    (hw : (s.lane .water).startWait = false) (hev : (s.accepted .levelLow).isSome = true) :
    (s.accept .levelLow true order).door = s.door.guarded s.now := by
  have hunit (u : State) (hu : (s.accepting .levelLow true).eventUnwaiting u) : u.extendGuard.door = u.door.guarded s.now := by
    rw [State.extendGuard_door, (State.now_of_surroundings hu.1).trans (s.accepting_now .levelLow true)]
  refine State.accept_door (g := fun d => d.guarded s.now) order (by decide) hb hw hev (by decide) (fun d => d.guarded_guarded _)
    hunit fun r _ u hu => ?_
  have hnow : u.now = s.now := (State.now_of_surroundings hu.1).trans (s.accepting_now .levelLow true)
  cases r
  case guard =>
    have hkept := State.evaluate_rodKept hu.2.2
    exact ⟨hkept.1, hnow ▸ hkept.2.2.2.1⟩
  case engine =>
    have hkept := State.engineWet_rodKept hu.2.2 hu.2.1
    exact ⟨hkept.1, hnow ▸ hkept.2.2.2.1⟩
  case door => exact ⟨by
      rw [State.lane, show State.inputTo .levelLow true true .door u = u.extendGuard from rfl, State.extendGuard_lanes]
      exact hu.2.2, .inr (hunit u hu)⟩
  all_goals exact ⟨hu.2.2, .inl rfl⟩

theorem DoorUnit.guarded_of_moving {s : State} (h : s.door.rod ∈ [RodState.extending, .holding]) :
    s.door.guarded s.now = s.rodBraked .blocked := by
  simp only [List.mem_cons, List.not_mem_nil, or_false] at h
  exact if_pos h

theorem State.rodOcAsserted_still {s : State} (h : s.door.rod ∉ [RodState.extending, .holding, .retracting]) :
    s.rodOcAsserted = s := by
  unfold State.rodOcAsserted
  split <;> simp_all

theorem State.rodOcAsserted_moving {s : State} (h : s.door.rod ∈ [RodState.extending, .holding]) :
    s.rodOcAsserted = s.withDoor (s.rodBraked (if s.door.rod = .holding then .success else .blocked)) := by
  simp only [List.mem_cons, List.not_mem_nil, or_false] at h
  rcases h with h | h
  · rw [State.rodOcAsserted, h]
    rfl
  · rw [State.rodOcAsserted, h]
    rfl

theorem exec_rodOcRise {s : State} (hr : s.resetHeld = false) (hoc : s.pins.rodOc = false) :
    exec (.rodOcChange true) s = .next (s.withPins { s.pins with rodOc := true }).rodOcAsserted := by
  rw [exec_of_pinChange rfl]
  simp only [hr, hoc]
  rfl

/-- Settles O50: the drive's ends directly, the events of DOOR and LEVEL_LOW by what each of their receivers does to the rod. -/
theorem rodDriveEnds : Obligations.RodDriveEnds := by
  refine ⟨fun s hr => ⟨fun hdue => ?_, fun hdue => ?_, fun hoc => ?_, fun hoc => ⟨fun hrod => ?_, fun hrod => ?_⟩⟩,
    fun h rest s hr ha htest hw hset hdoor hdry hoff hrod => ?_, fun order s hr hb hwait => ⟨fun hrod => ?_,
    fun hrod hc hdue hev => ?_, fun hrod hc hdue hev hdry => ?_, fun hrod hc hdue hev => ?_⟩⟩
  · rw [exec_event rfl hr, if_pos hdue]
    rfl
  · rw [exec_event rfl hr, if_pos hdue]
    rfl
  · rw [exec_of_pinChange rfl]
    simp only [hr, hoc]
    rfl
  · rw [exec_rodOcRise hr hoc, State.rodOcAsserted_still (s := s.withPins { s.pins with rodOc := true }) hrod]
  · rw [exec_rodOcRise hr hoc, State.rodOcAsserted_moving (s := s.withPins { s.pins with rodOc := true }) hrod]
    rfl
  · rw [exec_startAutoOpen hr ha hw, State.beginTry_autoOpen ha.2.2.1 htest hw hset hdoor hdry hoff hrod]
    exact congrArg Host.Outcome.next (State.rodHandOver_ready ha.2.2.2.1)
  · rw [State.heaterEvent, State.autoOpenHeater_of_not s (State.autoOpenWaits_of_startWait hwait), if_pos rfl, State.extendGuard]
    simp only [List.mem_cons, List.not_mem_nil, or_false] at hrod
    rw [if_pos hrod]
    rfl
  · refine ⟨_, exec_debounce hr hc hdue order, ?_⟩
    rw [State.accept_door_door order hb hwait hev (by simp [State.heatBarred, State.doorClosed, State.reads, State.accepting_accepted])]
    unfold DoorUnit.tookDoor
    rw [if_pos ⟨rfl, hrod⟩]
    rfl
  · refine ⟨_, exec_debounce hr hc hdue order, ?_⟩
    have hlow : (s.accepting .door true).levelWet = s.levelWet := rfl
    rw [State.accept_door_door order hb hwait hev (by simp [State.heatBarred, hlow, hdry])]
    unfold DoorUnit.tookDoor
    rw [if_neg (by simp), if_pos ⟨rfl, hrod⟩]
    rfl
  · refine ⟨_, exec_debounce hr hc hdue order, ?_⟩
    rw [State.accept_levelLow_door order hb hwait hev, DoorUnit.guarded_of_moving hrod]

end Sys2Proof.Machine
end

-- ==== The rod jams, or comes home (R147 to R149) ====
section
namespace Sys2Proof.Machine

theorem State.classes_of_surroundings {s t : State} (h : t.surroundings = s.surroundings) (p : Port) :
    (t.port p).classes = (s.port p).classes := by
  cases p
  · exact congrArg (fun u : Surroundings => u.faceA.classes) h
  · exact congrArg (fun u : Surroundings => u.faceB.classes) h
  · exact congrArg (fun u : Surroundings => u.faceC.classes) h

/-- R77: a step of the WATER lane after its success with an actual value. -/
theorem State.succeed_some_lane {s : State} {h : StepRec} {rest : List StepRec} (hst : (s.lane .water).state ≠ .waiting)
    (hq : (s.lane .water).queue = h :: rest) (flags : ResultFlags) (v : Nat) :
    (s.succeed .water flags (some v)).lane .water = (s.lane .water).succeeded { h with actual := fit32 v } rest flags s.now := by
  have hlane := State.modHead_lane hq (fun t => { t with actual := fit32 v })
  rw [State.succeed_some]
  refine (State.succeed_lane (s := s.modHead .water (fun t => { t with actual := fit32 v })) (done := { h with actual := fit32 v })
    (rest := rest) (by rw [hlane]; exact hst) (by rw [hlane]) flags).trans ?_
  rw [hlane]
  rfl

/-! ### A rod that jams (R148) -/

section
variable {s : State} (h : s.door.rod = .jammed)
include h

theorem State.withdrawAll_door_of_jammed (src : Source) : (s.withdrawAll src).door = s.door := by
  have hput := State.putDemands_keeps State.door (fun _ _ _ _ => rfl) s src false Output.evalOrder
  exact (State.evaluate_door_of_away (by rw [hput, h]; decide)).trans hput

/-- R148 and R150: the end of a try leaves a jammed rod alone. -/
theorem State.tryEnd_door_of_jammed : (s.tryEnd .water).door = s.door := by
  have hput := State.withdrawAll_door_of_jammed h .water
  have hjammed : (s.withdrawAll .water).door.rod = .jammed := by rw [hput, h]
  rw [State.tryEnd_water_eq]
  change ((s.withdrawAll .water).tellTryEnd .water).door = _
  refine Eq.trans ?_ hput
  generalize s.withdrawAll .water = u at hjammed
  unfold State.tellTryEnd
  split
  · rfl
  · split
    · unfold State.abandonRegen
      split
      · rfl
      · exact State.withdrawAll_door_of_jammed hjammed .softener
    · unfold State.rodTryEnd
      rw [hjammed]
      split <;> rfl
    · exact State.door_of_besideDose u.doseTryEnd_besideDose
    all_goals rfl

theorem State.failImmediate_door_of_jammed (r : StepResult) : (s.failImmediate .water r).door = s.door := by
  unfold State.failImmediate
  split
  · exact (State.door_of_apart (State.failForGood_apart _ _ _)).trans (State.tryEnd_door_of_jammed h)
  · exact State.door_of_apart (State.failForGood_apart _ _ _)

end

/-- R148: the part as its rod jams, before a try of AUTO_OPEN fails. -/
def State.rodJammed (s : State) (jam : JamCause) : State :=
  s.modDoor (fun d => { d with retractTimer := none, drive := .coast, rod := .jammed, jam := jam, nextMove := .none, report := .none })

/-- R148: the part after a try of AUTO_OPEN has failed by a jam. -/
def State.rodJamFailed (s : State) (jam : JamCause) : State :=
  if s.door.errand = .opening ∧ (s.rodJammed jam).autoOpenInTry = true then (s.rodJammed jam).failImmediate .water .rodFault
  else s.rodJammed jam

theorem State.rodJam_eq (s : State) (jam : JamCause) : s.rodJam jam =
    ((s.rodJamFailed jam).modDoor (fun d => { d with errand := .none, cause := none })).raiseRodState s.door jam := rfl

section
variable {s : State} (jam : JamCause)

theorem State.rodJamFailed_surroundings : (s.rodJamFailed jam).surroundings = s.surroundings := by
  unfold State.rodJamFailed
  split
  · exact State.failImmediate_surroundings _ _ _
  · rfl

theorem State.rodJamFailed_door : (s.rodJamFailed jam).door = (s.rodJammed jam).door := by
  unfold State.rodJamFailed
  split
  · exact State.failImmediate_door_of_jammed rfl _
  · rfl

theorem State.rodJam_door : (s.rodJam jam).door = { s.door with
    rod := .jammed, drive := .coast, retractTimer := none, jam := jam, nextMove := .none, report := .none, errand := .none,
    cause := none } := by
  have hdoor : (s.rodJam jam).door = { (s.rodJamFailed jam).door with errand := .none, cause := none } := rfl
  rw [hdoor, State.rodJamFailed_door]
  rfl

theorem State.rodJam_port (p : Port) : ∃ r : PortRec, (s.rodJam jam).port p = if (s.port p).classes.getLsbD 1 then r.enter
    { kind := .rodState, subject := 6, reference := BitVec.ofNat 16 s.door.errandNumber, value := BitVec.ofNat 32 jam.number,
      time := s.time.clock } else r := by
  refine ⟨(s.rodJamFailed jam).port p, ?_⟩
  have hclock : (s.rodJamFailed jam).now = s.now := State.now_of_surroundings (State.rodJamFailed_surroundings jam)
  have hdoor : (s.rodJamFailed jam).door.rod = .jammed := by rw [State.rodJamFailed_door]; rfl
  rw [← State.classes_of_surroundings (State.rodJamFailed_surroundings jam), State.rodJam_eq, State.raiseRodState,
    State.raiseByClass_port, State.notice]
  simp only [State.modDoor, State.withDoor_door, hdoor]
  exact hclock ▸ rfl

theorem State.rodJam_idle (h : s.door.errand ≠ .opening) : (s.rodJam jam).engine = s.engine ∧ (s.rodJam jam).guard = s.guard := by
  have heq : s.rodJamFailed jam = s.rodJammed jam := if_neg fun hc => h hc.1
  rw [State.rodJam_eq, heq]
  exact ⟨rfl, rfl⟩

/-- R148: a jam under an AUTO_OPEN fails its step for good. -/
theorem State.rodJam_lane {h : StepRec} {rest : List StepRec} (herr : s.door.errand = .opening)
    (hst : (s.lane .water).state ∈ [LaneState.running, .paused]) (hq : (s.lane .water).queue = h :: rest)
    (hactive : h.status = .active) (hw : h.work = .autoOpen) : ((s.rodJam jam).lane .water).state = .stalled
      ∧ ((s.rodJam jam).lane .water).queue
          = { h with status := .failed, result := .rodFault, endTime := some s.time.clock } :: rest := by
  have htry : (s.lane .water).tryInProgress = true := (LaneRec.tryInProgress_of_mem hst).1
  have hin : (s.rodJammed jam).autoOpenInTry = true := by
    have hhead : (s.rodJammed jam).head .water = some h := State.head_of_queue (rest := rest) hq
    have hlane : ((s.rodJammed jam).lane .water).tryInProgress = true := htry
    simp [State.autoOpenInTry, State.activeWork, State.headIs, hhead, hactive, hw, hlane]
  have hwait : ((s.rodJammed jam).lane .water).state ≠ .waiting := by
    change (s.lane .water).state ≠ _
    intro hc
    rw [hc] at hst
    exact absurd hst (by decide)
  have heq : s.rodJamFailed jam = ((s.rodJammed jam).tryEnd .water).failForGood .water .rodFault := by
    rw [State.rodJamFailed, if_pos ⟨herr, hin⟩, State.failImmediate]
    exact if_pos htry
  have hended := State.tryEnd_water _ hwait
  have hlane := State.failForGood_lane ((s.rodJammed jam).tryEnd .water) .water .rodFault h rest (by rw [hended]; exact hq)
  have hjam : (s.rodJam jam).lane .water = (s.rodJamFailed jam).lane .water := rfl
  rw [hjam, heq, hlane, State.tryEnd_now]
  exact ⟨rfl, rfl⟩

end

/-! ### A rod that comes home (R147, R149) -/

/-- R147: the part with its rod at home and the errand settled, before a step's success or failure. -/
def State.rodDone (s : State) : State :=
  (s.modDoor (fun d => { d with retractTimer := none, drive := .brake, rod := .home })).errandDone

theorem State.doorUnitHome_retracting {s : State} (h : s.door.rod = .retracting) (isEvent : Bool) :
    s.doorUnitHome true isEvent = s.rodAtHome := by
  simp [State.doorUnitHome, h]

section
variable {s : State} {h : StepRec} {rest : List StepRec}

/-- R150: the end of a try after the errand was settled leaves the Door Unit alone. -/
theorem State.tryEnd_door_of_home (hst : (s.lane .water).state ≠ .waiting) (hh : s.head .water = some h)
    (hw : h.work = .autoOpen) (hrod : s.door.rod = .home) (herr : s.door.errand = .none) : (s.tryEnd .water).door = s.door := by
  have hwait : (s.lane .water).startWait = false := by simp [LaneRec.startWait, hst]
  have hput := State.putDemands_keeps State.door (fun _ _ _ _ => rfl) s .water false Output.evalOrder
  have hdoor : (s.withdrawAll .water).door = s.door := by
    refine (State.evaluate_rod_still ?_ ?_).trans hput
    · rw [State.lane, State.putDemands_lanes]
      exact hwait
    · rw [hput, hrod]
      decide
  have htold : (s.withdrawAll .water).tellTryEnd .water = s.withdrawAll .water := by
    rw [State.tellTryEnd, (State.withdrawAll_head hst .water).trans hh]
    dsimp only
    rw [hw]
    dsimp only
    rw [State.rodTryEnd, hdoor, if_pos (by rw [herr]; decide)]
  rw [State.tryEnd_water_eq, htold]
  exact hdoor

variable (hst : (s.lane .water).state ∈ [LaneState.running, .paused]) (hq : (s.lane .water).queue = h :: rest)
  (hw : h.work = .autoOpen)

include hst in
theorem State.not_waiting_of_tried : (s.lane .water).state ≠ .waiting := by
  intro hc
  rw [hc] at hst
  exact absurd hst (by decide)

include hst hq hw

theorem State.autoOpenInTry_of_tried (hactive : h.status = .active) : s.autoOpenInTry = true := by
  simp [State.autoOpenInTry, State.activeWork, State.headIs, State.head_of_queue hq, hactive, hw,
    (LaneRec.tryInProgress_of_mem hst).1]

/-- R77 and R147: the success of an AUTO_OPEN whose rod came home. -/
theorem State.rodDone_succeeds (flags : ResultFlags) (v : Nat) :
    (s.rodDone.succeed .water flags (some v)).door = s.rodSettled s.door.ajar
    ∧ ((s.rodDone.succeed .water flags (some v)).lane .water).queue = rest
    ∧ ((s.rodDone.succeed .water flags (some v)).lane .water).last = some { manner := .done, step := { h with
        status := .done, result := .ok, flags := flags, actual := fit32 v, endTime := some s.time.clock } } := by
  have hwait : (s.rodDone.lane .water).state ≠ .waiting := State.not_waiting_of_tried hst
  have hlane := State.succeed_some_lane (s := s.rodDone) hwait hq flags v
  refine ⟨?_, ?_, ?_⟩
  · have hmod := State.modHead_lane (s := s.rodDone) hq (fun t => { t with actual := fit32 v })
    rw [State.succeed_some, State.succeed]
    refine (State.door_of_apart (State.concludeSuccess_water_apart _ _)).trans ?_
    exact State.tryEnd_door_of_home (h := { h with actual := fit32 v }) (by rw [hmod]; exact hwait)
      (State.head_of_queue (rest := rest) (by rw [hmod])) hw rfl rfl
  · rw [hlane]
    rfl
  · rw [hlane]
    rfl

theorem State.rodSuccess_eq (hactive : h.status = .active) (flags : ResultFlags) (v : Nat) :
    s.rodDone.rodSuccess flags v = s.rodDone.succeed .water flags (some v) := by
  have hin : s.rodDone.autoOpenInTry = true := State.autoOpenInTry_of_tried (s := s.rodDone) hst hq hw hactive
  rw [State.rodSuccess, if_pos hin]

/-- R147: the success with the recorded extend time, which makes the door AJAR where it reads OPEN. -/
theorem State.rodOpened_spec (hactive : h.status = .active) {t : State}
    (ht : t = (s.modDoor (fun d => { d with retractTimer := none, drive := .brake, rod := .home })).rodOpened) :
    t.door = s.rodSettled (s.door.ajar || !s.doorClosed) ∧ (t.lane .water).queue = rest
    ∧ (t.lane .water).last = some { manner := .done, step := { h with
        status := .done, result := .ok, flags := ResultFlags.clear, actual := fit32 s.door.extendTime,
        endTime := some s.time.clock } } := by
  obtain ⟨hdoor, hqueue, hlast⟩ := State.rodDone_succeeds hst hq hw ResultFlags.clear s.door.extendTime
  have heq : t = if s.doorClosed then s.rodDone.succeed .water ResultFlags.clear (some s.door.extendTime)
      else (s.rodDone.succeed .water ResultFlags.clear (some s.door.extendTime)).setAjar true := by
    rw [ht, State.rodOpened]
    change (if s.doorClosed = true then s.rodDone.rodSuccess _ s.door.extendTime
      else (s.rodDone.rodSuccess _ s.door.extendTime).setAjar true) = _
    rw [State.rodSuccess_eq hst hq hw hactive]
  have hajar (u : State) : (u.setAjar true).door = { u.door with ajar := true } ∧ (u.setAjar true).engine = u.engine := by
    unfold State.setAjar
    split
    next h => exact ⟨by rw [← h], rfl⟩
    · exact ⟨rfl, rfl⟩
  cases hc : s.doorClosed <;> rw [hc] at heq
  · obtain ⟨hdoor', hengine⟩ := hajar (s.rodDone.succeed .water ResultFlags.clear (some s.door.extendTime))
    rw [heq, if_neg (by decide), hdoor', State.lane, hengine, hdoor]
    exact ⟨by simp [State.rodSettled], hqueue, hlast⟩
  · rw [heq, if_pos rfl, hdoor]
    exact ⟨by simp, hqueue, hlast⟩

/-- R78 and R147: a try of AUTO_OPEN that comes home BLOCKED. -/
theorem State.rodBlocked_spec (hactive : h.status = .active) {t : State}
    (ht : t = (s.modDoor (fun d => { d with retractTimer := none, drive := .brake, rod := .home })).rodBlocked) :
    t.door = s.rodSettled s.door.ajar ∧ ((s.lane .water).state = .running →
      (t.lane .water).state = (if h.triesUsed + 1 < h.tries then .retryWait else .stalled)
      ∧ ∃ h', (t.lane .water).queue = h' :: rest ∧ h'.id = h.id ∧ h'.triesUsed = h.triesUsed + 1 ∧ h'.result = .blocked) := by
  have hwait := State.not_waiting_of_tried hst
  have hin : (s.modDoor (fun d => { d with retractTimer := none, drive := .brake, rod := .home })).autoOpenInTry = true :=
    State.autoOpenInTry_of_tried (s := s.modDoor _) hst hq hw hactive
  have heq : t = s.rodDone.failCounted .water .blocked := by
    rw [ht, State.rodBlocked, if_pos hin]
    rfl
  rw [heq, State.failCounted]
  by_cases hrun : (s.rodDone.lane .water).inTry = true
  · rw [if_pos hrun]
    refine ⟨?_, fun _ => ?_⟩
    · rw [State.endCounted]
      refine (State.door_of_apart (State.concludeCounted_apart _ _ _)).trans ?_
      exact State.tryEnd_door_of_home hwait (State.head_of_queue (rest := rest) hq) hw rfl rfl
    · obtain ⟨v, -, hlane⟩ := State.endCounted_lane (s := s.rodDone) .blocked hwait hq
      rw [hlane]
      split <;> exact ⟨rfl, _, rfl, rfl, rfl, rfl⟩
  · rw [if_neg hrun]
    refine ⟨rfl, fun hc => absurd ?_ hrun⟩
    change (s.lane .water).inTry = true
    simp [LaneRec.inTry, hc]

end

theorem State.rodOcAsserted_retracting {s : State} (h : s.door.rod = .retracting) : s.rodOcAsserted = s.rodJam .overcurrent := by
  rw [State.rodOcAsserted, h]

/-! ### The report that a rod brings home (R147, R149) -/

section
variable {s : State} (herr : s.door.errand = .opening)
include herr

/-- R147: the part with its rod at home, before its errand is settled. -/
theorem State.rodAtHome_success (hrep : s.door.report = .success) : s.rodAtHome =
    (s.modDoor (fun d => { d with retractTimer := none, drive := .brake, rod := .home })).rodOpened := by
  rw [State.rodAtHome, herr, hrep]

theorem State.rodAtHome_blocked (hrep : s.door.report = .blocked) : s.rodAtHome =
    (s.modDoor (fun d => { d with retractTimer := none, drive := .brake, rod := .home })).rodBlocked := by
  rw [State.rodAtHome, herr, hrep]

section
variable (hrep : s.door.report = .restart)
include hrep

theorem State.rodAtHome_restartOpened (hdoor : s.doorClosed = false) (hopened : s.door.opened = true) : s.rodAtHome =
    (s.modDoor (fun d => { d with retractTimer := none, drive := .brake, rod := .home })).rodOpened := by
  rw [State.rodAtHome, herr, hrep]
  exact (if_pos (show (!s.doorClosed) = true by rw [hdoor]; rfl)).trans (if_pos hopened)

theorem State.rodAtHome_restartOpen (hdoor : s.doorClosed = false) (hopened : s.door.opened = false) : s.rodAtHome =
    s.rodDone.rodSuccess { ResultFlags.clear with alreadyOpen := true } 0 := by
  rw [State.rodAtHome, herr, hrep]
  exact (if_pos (show (!s.doorClosed) = true by rw [hdoor]; rfl)).trans
    (if_neg fun hc => Bool.false_ne_true (hopened.symm.trans hc))

theorem State.rodAtHome_restartBarred (hdoor : s.doorClosed = true) (hbar : s.levelWet = true ∨ s.energised .heater = true) :
    s.rodAtHome = (s.modDoor (fun d => { d with retractTimer := none, drive := .brake, rod := .home })).rodBlocked := by
  rw [State.rodAtHome, herr, hrep]
  refine (if_neg (show ¬ (!s.doorClosed) = true by rw [hdoor]; decide)).trans (if_pos ?_)
  exact Bool.or_eq_true_iff.mpr hbar

omit hrep in
theorem State.rodAtHome_barred (hcase : s.door.report = .blocked
      ∨ s.door.report = .restart ∧ s.doorClosed = true ∧ (s.levelWet = true ∨ s.energised .heater = true)) : s.rodAtHome =
    (s.modDoor (fun d => { d with retractTimer := none, drive := .brake, rod := .home })).rodBlocked := by
  rcases hcase with hrep | ⟨hrep, hdoor, hbar⟩
  · exact State.rodAtHome_blocked herr hrep
  · exact State.rodAtHome_restartBarred herr hrep hdoor hbar

theorem State.rodAtHome_restartAgain (hdoor : s.doorClosed = true) (hdry : s.levelWet = false) (hoff : s.energised .heater = false) :
    s.rodAtHome = s.withDoor { s.door with
      retractTimer := none, opened := false, report := .none, rod := .braking, drive := .brake, nextMove := .extend,
      deadTimer := s.timer 50 } := by
  rw [State.rodAtHome, herr, hrep]
  refine (if_neg (show ¬ (!s.doorClosed) = true by rw [hdoor]; decide)).trans (if_neg ?_)
  change ¬ (s.levelWet || s.energised .heater) = true
  rw [hdry, hoff]
  decide

end

end

/-- Settles O51: the jam by what the end of a try leaves of a jammed rod; the rod at home by the report that it brings. -/
theorem rodJams : Obligations.RodJams := by
  refine ⟨fun c jam s hr hc => ?_, fun order h rest s hr hrod herr hc hdue hst hq hactive hw => ?_⟩
  · obtain ⟨rfl, hdue, rfl⟩ | ⟨rfl, hoc, hrod, rfl⟩ := hc
    · refine ⟨s.rodJam .retractLimit, (exec_event rfl hr).trans (by rw [if_pos hdue]), ?_, fun hs => s.rodJam_settled _ hs,
        State.rodJam_door _, State.rodJam_port _, State.rodJam_idle _, fun h rest herr => State.rodJam_lane _ herr⟩
      rw [State.rodJam_surroundings]
      simp only [reduceCtorEq, decide_false, Bool.or_false]
      rfl
    · have hjam : (s.withPins { s.pins with rodOc := true }).rodOcAsserted
          = (s.withPins { s.pins with rodOc := true }).rodJam .overcurrent :=
        State.rodOcAsserted_retracting hrod
      refine ⟨(s.withPins { s.pins with rodOc := true }).rodJam .overcurrent, (exec_rodOcRise hr hoc).trans (by rw [hjam]), ?_,
        fun hs => State.rodJam_settled _ _ ((s.withPins_settled _).trans hs),
        State.rodJam_door (s := s.withPins { s.pins with rodOc := true }) _,
        State.rodJam_port (s := s.withPins { s.pins with rodOc := true }) _,
        State.rodJam_idle (s := s.withPins { s.pins with rodOc := true }) _,
        fun h rest herr => State.rodJam_lane (s := s.withPins { s.pins with rodOc := true }) _ herr⟩
      rw [State.rodJam_surroundings, hoc]
      rfl
  · obtain ⟨ports, ports', heq⟩ := s.accept_rodHome false order
    rw [show (!false) = true from rfl, State.doorUnitHome_retracting
      (s := (s.accepting .rodHome false).withPorts ports) hrod] at heq
    refine ⟨_, exec_debounce hr hc hdue order, fun actual flags hcase => ?_, fun hcase => ?_, fun hrep hdoor hdry hoff => ?_⟩
    · obtain ⟨hrep, rfl, rfl⟩ | ⟨hrep, hdoor, hopened, rfl, rfl⟩ | ⟨hrep, hdoor, hopened, rfl, rfl⟩ := hcase
      · have hspec := State.rodOpened_spec (s := (s.accepting .rodHome false).withPorts ports) hst hq hw hactive
          (State.rodAtHome_success herr hrep)
        rw [heq]
        exact hspec
      · have hspec := State.rodOpened_spec (s := (s.accepting .rodHome false).withPorts ports) hst hq hw hactive
          (State.rodAtHome_restartOpened herr hrep hdoor hopened)
        rw [heq]
        exact hspec
      · have hhome := State.rodAtHome_restartOpen (s := (s.accepting .rodHome false).withPorts ports) herr hrep hdoor hopened
        rw [State.rodSuccess_eq (s := (s.accepting .rodHome false).withPorts ports) hst hq hw hactive] at hhome
        have hspec := State.rodDone_succeeds (s := (s.accepting .rodHome false).withPorts ports) hst hq hw
          { ResultFlags.clear with alreadyOpen := true } 0
        rw [← hhome] at hspec
        rw [heq, show (s.door.ajar || (!true && !s.doorClosed)) = s.door.ajar by simp]
        exact hspec
    · have hhome := State.rodAtHome_barred (s := (s.accepting .rodHome false).withPorts ports) herr hcase
      have hspec := State.rodBlocked_spec (s := (s.accepting .rodHome false).withPorts ports) hst hq hw hactive hhome
      rw [heq]
      exact hspec
    · have hhome := State.rodAtHome_restartAgain (s := (s.accepting .rodHome false).withPorts ports) herr hrep hdoor hdry hoff
      rw [heq, hhome]
      exact ⟨rfl, rfl⟩

end Sys2Proof.Machine
end

-- ==== Strokes (R131 to R133, R136) ====
section
namespace Sys2Proof.Machine

/-! ### The dose record under an evaluation (R126, R132) -/

/-- R132: `r'` is `r` after events of the pumps, which mark a stroke in ON alone. -/
def DoseRec.pumped (r r' : DoseRec) : Prop :=
  r' = { r with pumpOn := r'.pumpOn, pumpCut := r'.pumpCut, feedback := r'.feedback } ∧ (r.phase ≠ .on → r' = r)

theorem DoseRec.pumped_refl (r : DoseRec) : r.pumped r := ⟨rfl, fun _ => rfl⟩

theorem DoseRec.pumped_trans {r r' r'' : DoseRec} (h : r.pumped r') (h' : r'.pumped r'') : r.pumped r'' := by
  obtain ⟨heq, hoff⟩ := h
  obtain ⟨heq', hoff'⟩ := h'
  have hphase : r'.phase = r.phase := by rw [heq]
  refine ⟨?_, fun hne => (hoff' (by rw [hphase]; exact hne)).trans (hoff hne)⟩
  rw [heq] at heq'
  exact heq'

/-- `d'` is the Dosing Unit's `d` after events of the pumps. -/
def Dosing.pumped (d d' : Dosing) : Prop :=
  d'.accounts = d.accounts
  ∧ (d.record = none ∧ d'.record = none ∨ ∃ r r', d.record = some r ∧ d'.record = some r' ∧ r.pumped r')

theorem Dosing.pumped_refl (d : Dosing) : d.pumped d := by
  refine ⟨rfl, ?_⟩
  cases hrec : d.record with
  | none => exact .inl ⟨rfl, rfl⟩
  | some r => exact .inr ⟨r, r, rfl, rfl, r.pumped_refl⟩

theorem Dosing.pumped_trans {d d' d'' : Dosing} (h : d.pumped d') (h' : d'.pumped d'') : d.pumped d'' := by
  obtain ⟨hacc, hrec⟩ := h
  obtain ⟨hacc', hrec'⟩ := h'
  refine ⟨hacc'.trans hacc, ?_⟩
  rcases hrec with ⟨hn, hn'⟩ | ⟨r, r', hr, hr', hp⟩
  · rcases hrec' with ⟨-, hn''⟩ | ⟨r, r', hr, -⟩
    · exact .inl ⟨hn, hn''⟩
    · exact nomatch hn'.symm.trans hr
  · rcases hrec' with ⟨hn', -⟩ | ⟨r1, r'', hr1, hr'', hp'⟩
    · exact nomatch hn'.symm.trans hr'
    · cases Option.some.inj (hr'.symm.trans hr1)
      exact .inr ⟨r, r'', hr, hr'', DoseRec.pumped_trans hp hp'⟩

theorem Dosing.pumped_some {d d' : Dosing} (h : d.pumped d') {r : DoseRec} (hr : d.record = some r) :
    ∃ r', d'.record = some r' ∧ r.pumped r' := by
  obtain ⟨-, ⟨hn, -⟩ | ⟨r1, r', hr1, hr', hp⟩⟩ := h
  · exact nomatch hn.symm.trans hr
  · cases Option.some.inj (hr.symm.trans hr1)
    exact ⟨r', hr', hp⟩

theorem State.modDose_of_record {s : State} {r : DoseRec} (h : s.dosing.record = some r) (f : DoseRec → DoseRec) :
    s.modDose f = s.withDose (some (f r)) := by
  rw [State.modDose, h]

theorem State.modDose_of_none {s : State} (h : s.dosing.record = none) (f : DoseRec → DoseRec) : s.modDose f = s := by
  rw [State.modDose, h]

theorem State.pumpEvent_pumped (s : State) (a : Agent) (on : Bool) : s.dosing.pumped (s.pumpEvent a on).dosing := by
  cases hrec : s.dosing.record with
  | none =>
    rw [State.pumpEvent, State.modDose_of_none hrec]
    exact Dosing.pumped_refl _
  | some r =>
    rw [State.pumpEvent, State.modDose_of_record hrec]
    refine ⟨rfl, .inr ⟨r, _, hrec, rfl, ?_⟩⟩
    split
    next h =>
      refine ⟨?_, fun hne => absurd h.2 hne⟩
      split <;> rfl
    · exact r.pumped_refl

theorem State.evaluate_pumped (s : State) : s.dosing.pumped s.evaluate.dosing := by
  refine (State.evaluate_keeps_of (fun _ => ()) (fun u => s.dosing.pumped u.dosing) (fun _ _ hu => ⟨hu, rfl⟩) (fun u o on hu => ?_)
    s (Dosing.pumped_refl _)).1
  refine ⟨Dosing.pumped_trans hu ?_, rfl⟩
  cases o
  case doseD => exact u.pumpEvent_pumped .detergent on
  case doseR => exact u.pumpEvent_pumped .rinse on
  all_goals
    rw [u.outputEvent_dosing (by intro a; cases a <;> decide) on]
    exact Dosing.pumped_refl _

theorem State.putDemands_pumped (s : State) (src : Source) (v : Bool) (os : List Output) :
    s.dosing.pumped (s.putDemands src v os).evaluate.dosing := by
  have h := (s.putDemands src v os).evaluate_pumped
  rwa [State.putDemands_keeps State.dosing (fun _ _ _ _ => rfl)] at h

theorem State.withdrawAll_pumped (s : State) (src : Source) : s.dosing.pumped (s.withdrawAll src).dosing :=
  s.putDemands_pumped src false _

theorem State.enterDemands_pumped (s : State) (src : Source) (os : List Output) : s.dosing.pumped (s.enterDemands src os).dosing :=
  s.putDemands_pumped src true os

/-! ### The withdrawal of a stroke's demand (R132) -/

/-- R37: a pump without a DOSE demand is wanted where it was energised without one. -/
theorem State.pump_stays_off {s u : State} {a : Agent} (hs : s.settled = true) (hsur : u.surroundings = s.surroundings)
    (hdose : u.demands a.pump .dose = false) (hothers : (u.out a.pump).demands.anyButDose = (s.out a.pump).demands.anyButDose)
    (hoff : s.energised a.pump = false) : u.wanted a.pump = false := by
  have hwanted (v : State) : v.wanted a.pump = v.pumpWanted a.pump := by cases a <;> rfl
  have hwhole : u.pumpWhole a.pump = s.pumpWhole a.pump := by
    have hflood : u.guard.flood = s.guard.flood := congrArg Surroundings.flood hsur
    have hlatched : u.guard.latched = s.guard.latched := congrArg Surroundings.latched hsur
    have hlocked : u.store.configured = s.store.configured := congrArg Surroundings.configured hsur
    have hfitted : u.fitted a.pump = s.fitted a.pump := by
      cases a <;> simp only [State.fitted, Agent.pump, State.absent, State.fieldNat_of_surroundings hsur, hlocked]
    rw [State.pumpWhole, State.pumpBase, State.supplyReady_congr hsur, hflood, hlatched, hfitted, State.doorClosed, State.levelWet,
      State.reads_congr hsur, State.reads_congr hsur]
    rfl
  have hbefore := State.settled_iff.mp hs a.pump
  rw [hoff, hwanted, State.pumpWanted] at hbefore
  rw [hwanted, State.pumpWanted, hdose, hothers, hwhole]
  have := (Bool.or_eq_false_iff.mp hbefore.symm).1
  simpa using this

theorem State.pumpEvent_over {s : State} (h : ∀ r, s.dosing.record = some r → r.onTimer = none) (a : Agent) :
    (s.pumpEvent a false).dosing = s.dosing := by
  cases hrec : s.dosing.record with
  | none => rw [State.pumpEvent, State.modDose_of_none hrec]
  | some r =>
    have hfix : (if r.agent = a ∧ r.phase = .on then
        (if (false : Bool) = true then { r with pumpOn := true, feedback := r.feedback || s.pins.sense a.line }
        else { r with pumpCut := r.pumpCut || r.onTimer.isSome }) else r) = r := by
      split
      · rw [if_neg Bool.false_ne_true, show (r.pumpCut || r.onTimer.isSome) = r.pumpCut by rw [h r hrec]; simp]
      · rfl
    rw [State.pumpEvent, State.modDose_of_record hrec, hfix, ← hrec]
    rfl

theorem State.putDemand_energised (s : State) (src : Source) (v : Bool) (k o : Output) :
    (s.putDemand src v k).energised o = s.energised o := by
  by_cases h : o = k
  · subst h
    simp [State.putDemand, State.energised, State.withOut, State.out]
  · simp [State.putDemand, State.energised, State.withOut, State.out, h]

theorem State.putDemands_energised (s : State) (src : Source) (v : Bool) (os : List Output) (o : Output) :
    (s.putDemands src v os).energised o = s.energised o :=
  State.putDemands_keeps (fun u => u.energised o) (fun u src v k => u.putDemand_energised src v k o) s src v os

theorem State.anyButDose_eq (s : State) (o : Output) : (s.out o).demands.anyButDose =
    (s.demands o .water || s.demands o .softener || s.demands o .action || s.demands o .test || s.demands o .forced) := rfl

/-- R132 and R37: the withdrawal of the DOSE demands turns no pump on. -/
theorem State.withdraw_pump_off {s : State} (hs : s.settled = true) {a : Agent} (hoff : s.energised a.pump = false) :
    (s.putDemands .dose false Output.evalOrder).settleOutputs.energised a.pump = false := by
  have hdemands (src : Source) : (s.putDemands .dose false Output.evalOrder).settleOutputs.demands a.pump src
      = if .dose = src then false else s.demands a.pump src := by
    rw [State.demands, State.settleOutputs_outDemands]
    refine (State.putDemands_demands s .dose src false _ _).trans ?_
    have hmem : a.pump ∈ Output.evalOrder := by cases a <;> decide
    simp [hmem]
  rw [State.settled_iff.mp (State.settleOutputs_settled _)]
  refine State.pump_stays_off hs ((State.settleOutputs_surroundings _).trans (State.putDemands_surroundings _ _ _ _)) ?_ ?_ hoff
  · rw [hdemands, if_pos rfl]
  · simp only [State.anyButDose_eq, hdemands, reduceCtorEq, if_false]

/-- R132: the withdrawal of the DOSE demands once the on-timer is over marks no stroke. -/
theorem State.withdrawAll_dosing {s : State} (hs : s.settled = true) (h : ∀ r, s.dosing.record = some r → r.onTimer = none) :
    (s.withdrawAll .dose).dosing = s.dosing := by
  have hput := State.putDemands_keeps State.dosing (fun _ _ _ _ => rfl) s .dose false Output.evalOrder
  rw [State.withdrawAll, State.evaluate_eq]
  refine (State.giveEvents_keeps_of State.dosing (fun u => u.dosing = s.dosing) (fun u o _ hne hu => ?_) _ ?_).trans ?_
  · by_cases ho : ∃ a : Agent, o = a.pump
    · obtain ⟨a, rfl⟩ := ho
      have hoff : (s.putDemands .dose false Output.evalOrder).settleOutputs.energised a.pump = false := by
        rw [State.putDemands_energised] at hne
        cases hbefore : s.energised a.pump
        · exact State.withdraw_pump_off hs hbefore
        · rw [hbefore] at hne
          exact Bool.eq_false_iff.mpr fun hon => hne hon.symm
      rw [hoff]
      have hkept := State.pumpEvent_over (s := u) (by rw [hu]; exact h) a
      have hevent : u.outputEvent a.pump false = u.pumpEvent a false := by cases a <;> rfl
      rw [hevent]
      exact ⟨hkept.trans hu, hkept⟩
    · have hkept := u.outputEvent_dosing (fun a ha => ho ⟨a, ha⟩)
        ((s.putDemands .dose false Output.evalOrder).settleOutputs.energised o)
      exact ⟨hkept.trans hu, hkept⟩
  · rw [State.settleOutputs_keeps State.dosing (fun _ _ => rfl)]
    exact hput
  · rw [State.settleOutputs_keeps State.dosing (fun _ _ => rfl)]
    exact hput

/-! ### The judgement of a stroke (R132, R138) -/

theorem State.strokeVolume_of_surroundings {s t : State} (h : t.surroundings = s.surroundings) (a : Agent) :
    t.strokeVolume a = s.strokeVolume a := by
  cases a <;> simp only [State.strokeVolume, State.fieldNat_of_surroundings h]

theorem State.strokePeriod_of_surroundings {s t : State} (h : t.surroundings = s.surroundings) : t.strokePeriod = s.strokePeriod :=
  State.fieldNat_of_surroundings h 8

/-- R132 and R136: the account of an agent after one of its strokes was counted. -/
def State.strokeTaken (s : State) (a : Agent) : StockAccount :=
  if (s.account a).valid then s.leveled a { s.account a with stock := (s.account a).stock - s.strokeVolume a }
  else { s.account a with tally := sat32 ((s.account a).tally + s.strokeVolume a) }

theorem State.cycleStroke_dosing (s : State) (a : Agent) (ml : Nat) : (s.cycleStroke a ml).dosing = s.dosing := by
  unfold State.cycleStroke State.cycleEvent
  split <;> rfl

/-- R132 and R136: one stroke is taken from an agent's account. -/
def State.takeStroke (s : State) (a : Agent) : State :=
  if (s.account a).valid then s.setStock a ((s.account a).stock - s.strokeVolume a)
  else s.withAccount a { s.account a with tally := sat32 ((s.account a).tally + s.strokeVolume a) }

theorem State.takeStroke_dosing (s : State) (a : Agent) :
    (s.takeStroke a).account a = s.strokeTaken a ∧ (s.takeStroke a).dosing.record = s.dosing.record := by
  unfold State.takeStroke State.strokeTaken
  split
  next hv =>
    obtain ⟨heq, -⟩ := State.setStock_takesAccount hv ((s.account a).stock - s.strokeVolume a)
    rw [heq]
    exact ⟨State.withAccount_account _ _ _, rfl⟩
  · exact ⟨State.withAccount_account _ _ _, rfl⟩

/-- R132: the part as a stroke is counted, before it is taken from its account. -/
def State.strokeCounting (s : State) (now r : DoseRec) : State :=
  (s.withDose (some { now with delivered := now.delivered + 1 })).modHead .dose
    (fun t => { t with actual := fit32 ((r.delivered + 1) * s.strokeVolume r.agent) })

theorem State.countStroke_eq {s : State} {now : DoseRec} (hrec : s.dosing.record = some now) (r : DoseRec) :
    s.countStroke r = ((s.strokeCounting now r).takeStroke r.agent).cycleStroke r.agent (s.strokeVolume r.agent) := by
  unfold State.countStroke
  rw [State.modDose_of_record hrec]
  rfl

/-- R132: what a counted stroke leaves in the Dosing Unit. -/
theorem State.countStroke_dosing {s : State} {now r : DoseRec} (hrec : s.dosing.record = some now) :
    (s.countStroke r).dosing.record = some { now with delivered := now.delivered + 1 }
    ∧ (s.countStroke r).account r.agent = s.strokeTaken r.agent := by
  obtain ⟨haccount, hrecord⟩ := (s.strokeCounting now r).takeStroke_dosing r.agent
  rw [State.countStroke_eq hrec, State.account, State.cycleStroke_dosing]
  exact ⟨hrecord, haccount⟩

section
variable {s : State} {r : DoseRec} (hrec : s.dosing.record = some r) (hheld : (s.account r.agent).held = none)
include hrec hheld

/-- R132 and R138: a stroke that is judged without feedback. -/
theorem State.judgeStroke_missed (hfb : r.feedback = false) :
    s.judgeStroke r = s.withDose (some { r with phase := .idle, onTimer := none }) := by
  have hheld' : ((s.withDose (some { r with phase := .idle, onTimer := none })).account r.agent).held = none := hheld
  unfold State.judgeStroke
  rw [State.modDose_of_record hrec]
  dsimp only
  rw [if_neg (by rw [hfb]; decide), State.applyHeld, hheld']

/-- R132 and R138: a stroke that is judged with feedback. -/
theorem State.judgeStroke_counted (hfb : r.feedback = true) :
    s.judgeStroke r = (s.withDose (some { r with phase := .idle, onTimer := none })).countStroke r := by
  have hidle : (s.withDose (some { r with phase := .idle, onTimer := none })).dosing.record
      = some { r with phase := .idle, onTimer := none } := rfl
  have haccount := (State.countStroke_dosing (r := r) hidle).2
  have hheld' : ((s.withDose (some { r with phase := .idle, onTimer := none })).strokeTaken r.agent).held = none := by
    unfold State.strokeTaken
    split <;> exact hheld
  unfold State.judgeStroke
  rw [State.modDose_of_record hrec]
  dsimp only
  rw [if_pos hfb, State.applyHeld, haccount, hheld']

end

/-! ### The end of a try of DOSE with no stroke in ON (R136) -/

section
variable {s : State} {h : StepRec} {rest : List StepRec} (hst : (s.lane .dose).state ≠ .waiting)
  (hq : (s.lane .dose).queue = h :: rest) (hw : ∃ base a, h.work = .dose base a)
  (hidle : ∀ r, s.dosing.record = some r → r.phase ≠ .on)
include hst hq hw hidle

theorem State.tryEnd_idle : (s.tryEnd .dose).lane .dose = s.lane .dose
    ∧ (s.tryEnd .dose).dosing.accounts = s.dosing.accounts := by
  obtain ⟨base, a, hw⟩ := hw
  have hlane := s.withdrawAll_dose .dose hst
  have hpumped := s.withdrawAll_pumped .dose
  have hhead : (s.withdrawAll .dose).head .dose = some h := State.head_of_queue (rest := rest) (by rw [hlane]; exact hq)
  have htold : (s.withdrawAll .dose).tellTryEnd .dose = (s.withdrawAll .dose).doseTryEnd := by
    rw [State.tellTryEnd, hhead]
    dsimp only
    rw [hw]
  have hend : (s.tryEnd .dose).lane .dose = (s.withdrawAll .dose).doseTryEnd.lane .dose
      ∧ (s.tryEnd .dose).dosing.accounts = (s.withdrawAll .dose).doseTryEnd.dosing.accounts := by
    rw [← htold]
    exact ⟨rfl, rfl⟩
  obtain ⟨hl, ha⟩ := hend
  rw [hl, ha, ← hlane, ← hpumped.1]
  unfold State.doseTryEnd
  split
  · exact ⟨rfl, rfl⟩
  next r' hr' =>
    have hoff : r'.phase ≠ .on := by
      obtain ⟨-, ⟨-, hn⟩ | ⟨r, r'', hr, hr'', -, hsame⟩⟩ := hpumped
      · exact nomatch hn.symm.trans hr'
      · cases Option.some.inj (hr'.symm.trans hr'')
        rw [hsame (hidle r hr)]
        exact hidle r hr
    dsimp only
    rw [if_neg hoff, State.modDose_of_record hr']
    exact ⟨rfl, rfl⟩

/-- R77 and R126: a DOSE that succeeds with no stroke in ON. -/
theorem State.succeed_idle (flags : ResultFlags) (v : Nat) :
    (s.succeed .dose flags (some v)).lane .dose = (s.lane .dose).succeeded { h with actual := fit32 v } rest flags s.now
    ∧ (s.succeed .dose flags (some v)).dosing.record = none := by
  have hmod := State.modHead_lane hq (fun t => { t with actual := fit32 v })
  obtain ⟨hlane, -⟩ := State.tryEnd_idle (s := s.modHead .dose (fun t => { t with actual := fit32 v }))
    (h := { h with actual := fit32 v }) (rest := rest) (by rw [hmod]; exact hst) (by rw [hmod]) hw hidle
  have hnow := State.tryEnd_now (s.modHead .dose (fun t => { t with actual := fit32 v })) .dose
  rw [hmod] at hlane
  rw [State.succeed_some, State.succeed]
  refine ⟨?_, ?_⟩
  · rw [State.concludeSuccess_succeeded flags (by rw [hlane]), hlane, hnow]
    rfl
  · have hapart := State.concludeSuccess_apart (s := (s.modHead .dose (fun t => { t with actual := fit32 v })).tryEnd .dose)
      (l := .dose) (flags := flags) (.inl (by rw [State.head_of_queue (rest := rest) (by rw [hlane])]; exact Option.some_ne_none _))
    rw [State.dosing_of_apart hapart]
    rfl

end

/-! ### A stroke that is due (R131) -/

/-- R131: the dose record as a stroke is issued. -/
def DoseRec.issued (r : DoseRec) (onTimer : Timer) : DoseRec :=
  { r with feedback := false, pumpOn := false, pumpCut := false, phase := .on, issuedInTry := true, offTimer := none, onTimer := onTimer }

section
variable {s : State} {r : DoseRec} (hrec : s.dosing.record = some r)
include hrec

/-- R131: what the issue of a stroke changes. -/
theorem State.issueStroke_spec (hst : (s.lane .dose).state ≠ .waiting) :
    (s.issueStroke r.agent).surroundings = s.surroundings ∧ (s.issueStroke r.agent).settled = true
    ∧ (s.issueStroke r.agent).guard.test = s.guard.test
    ∧ (∀ o src, (s.issueStroke r.agent).demands o src = (s.demands o src || decide (o = r.agent.pump ∧ src = .dose)))
    ∧ (s.issueStroke r.agent).lane .dose = s.lane .dose
    ∧ (s.issueStroke r.agent).dosing.accounts = s.dosing.accounts
    ∧ ∃ r', (s.issueStroke r.agent).dosing.record = some r' ∧ (r.issued (s.timer (s.strokePeriod / 2))).pumped r' := by
  have hissue : s.issueStroke r.agent
      = (s.withDose (some (r.issued (s.timer (s.strokePeriod / 2))))).enterDemands .dose [r.agent.pump] := by
    unfold State.issueStroke
    rw [State.modDose_of_record hrec]
    rfl
  have hpumped := (s.withDose (some (r.issued (s.timer (s.strokePeriod / 2))))).enterDemands_pumped .dose [r.agent.pump]
  rw [hissue]
  refine ⟨(State.enterDemands_surroundings _ _ _).trans rfl, State.enterDemands_settled _ _ _, congrArg Bystanders.test (State.enterDemands_bystanders _ _ _),
    fun o src => ?_, ?_, hpumped.1, Dosing.pumped_some hpumped rfl⟩
  · rw [State.enterDemands_demands]
    by_cases hc : o ∈ [r.agent.pump] ∧ Source.dose = src
    · rw [if_pos hc]
      obtain ⟨hmem, rfl⟩ := hc
      simp [List.mem_singleton.mp hmem]
    · rw [if_neg hc]
      have hne : ¬ (o = r.agent.pump ∧ src = .dose) := fun ⟨ho, hsrc⟩ => hc ⟨List.mem_singleton.mpr ho, hsrc.symm⟩
      rw [decide_eq_false hne, Bool.or_false]
      rfl
  · exact State.enterDemands_dose _ _ _ hst

variable (hrun : (s.lane .dose).state = .running) (hphase : r.phase ≠ .on)
include hrun hphase

theorem State.strokeDue_deferred (hdry : s.accepted .levelLow ≠ some true) :
    s.strokeDue = s.withDose (some { r with phase := .idle }) := by
  unfold State.strokeDue
  rw [hrec]
  dsimp only
  rw [if_neg (by simp [hrun, hphase]), if_pos hdry, State.modDose_of_record hrec]

theorem State.strokeDue_issues (hwet : s.accepted .levelLow = some true)
    (hstock : r.issuedInTry = true → (s.account r.agent).valid = true → s.strokeVolume r.agent ≤ (s.account r.agent).stock) :
    s.strokeDue = s.issueStroke r.agent := by
  unfold State.strokeDue
  rw [hrec]
  dsimp only
  rw [if_neg (by simp [hrun, hphase]), if_neg (by simp [hwet]),
    if_neg fun ⟨hissued, hvalid, hless⟩ => absurd (hstock hissued hvalid) (Nat.not_le.mpr hless)]

theorem State.strokeDue_ends (hwet : s.accepted .levelLow = some true) (hissued : r.issuedInTry = true)
    (hvalid : (s.account r.agent).valid = true) (hless : (s.account r.agent).stock < s.strokeVolume r.agent) :
    s.strokeDue = s.endDose (r.noStock (s.strokeVolume r.agent)) := by
  unfold State.strokeDue
  rw [hrec]
  dsimp only
  rw [if_neg (by simp [hrun, hphase]), if_neg (by simp [hwet]), if_pos ⟨hissued, hvalid, hless⟩]

end

theorem exec_onTimer {s : State} {r : DoseRec} (hr : s.resetHeld = false) (hrec : s.dosing.record = some r)
    (hdue : s.due r.onTimer = true) : exec .doseOnTimerExpiry s = .next s.strokeEnds := by
  refine (exec_event rfl hr).trans ?_
  rw [if_pos]
  rw [State.doseDue, hrec]
  exact hdue

theorem exec_offTimer {s : State} {r : DoseRec} (hr : s.resetHeld = false) (hrec : s.dosing.record = some r)
    (hdue : s.due r.offTimer = true) :
    exec .doseOffTimerExpiry s = .next (s.withDose (some { r with offTimer := none })).strokeDue := by
  refine (exec_event rfl hr).trans ?_
  rw [if_pos, State.modDose_of_record hrec]
  rw [State.doseDue, hrec]
  exact hdue

/-! ### The end of a stroke (R132, R133, R135) -/

/-- R132: the part as a stroke's on-timer is over and its demand is withdrawn. -/
def State.strokeOver (s : State) (r : DoseRec) : State := (s.withDose (some { r with onTimer := none })).withdrawAll .dose

section
variable {s : State} {r : DoseRec} (hs : s.settled = true) (hrec : s.dosing.record = some r)

include hs in
theorem State.strokeOver_dosing : (s.strokeOver r).dosing = { s.dosing with record := some { r with onTimer := none } } := by
  refine State.withdrawAll_dosing (s := s.withDose _) ((s.withDose_settled _).trans hs) fun r' hr' => ?_
  cases Option.some.inj hr'
  rfl

theorem State.strokeOver_surroundings : (s.strokeOver r).surroundings = s.surroundings := State.withdrawAll_surroundings _ _

theorem State.strokeOver_lane (hst : (s.lane .dose).state ≠ .waiting) : (s.strokeOver r).lane .dose = s.lane .dose :=
  State.withdrawAll_dose (s.withDose _) .dose hst

theorem State.strokeOver_demands (o : Output) : (s.strokeOver r).demands o .dose = false := by
  rw [State.strokeOver, State.withdrawAll_demands, if_pos rfl]

end

/-- R132, R133 and R135: how the lane goes on from a stroke that was judged. -/
def State.afterStroke (s : State) (r : DoseRec) : State :=
  if r.feedback then
    if r.delivered + 1 = r.tryTarget then
      s.succeed .dose { ResultFlags.clear with shortSupply := decide (r.delivered + 1 < r.strokes) }
        (some ((r.delivered + 1) * s.strokeVolume r.agent))
    else if (s.lane .dose).state = .running then s.restStroke
    else s
  else if (s.lane .dose).state = .running then
    if r.pumpOn && !r.pumpCut then s.endCounted .dose .pumpFault else s.restStroke
  else s

section
variable {s : State} {r : DoseRec} (hs : s.settled = true) (hrec : s.dosing.record = some r)
include hs hrec

theorem State.strokeEnds_eq :
    s.strokeEnds = ((s.strokeOver r).judgeStroke { r with onTimer := none }).afterStroke { r with onTimer := none } := by
  have hover : (s.modDose (fun r => { r with onTimer := none })).withdrawAll .dose = s.strokeOver r := by
    rw [State.modDose_of_record hrec]
    rfl
  have hrecord : (s.strokeOver r).dosing.record = some { r with onTimer := none } := by rw [State.strokeOver_dosing hs]
  unfold State.strokeEnds
  dsimp only
  rw [hover, hrecord]
  dsimp only
  generalize (s.strokeOver r).judgeStroke { r with onTimer := none } = u
  unfold State.afterStroke
  by_cases hrun : (u.lane .dose).state = .running <;> simp only [hrun, decide_true, decide_false, if_true, if_false] <;> rfl

end

theorem State.setting_of_surroundings {s t : State} (h : t.surroundings = s.surroundings) (i : Nat) : t.setting i = s.setting i := by
  have hsettings : t.store.settings = s.store.settings := congrArg Surroundings.settings h
  rw [State.setting, hsettings]
  rfl

theorem State.leveled_of_surroundings {s t : State} (h : t.surroundings = s.surroundings) (a : Agent) (acc : StockAccount) :
    t.leveled a acc = s.leveled a acc := by
  have hlow : t.lowMark a = s.lowMark a := by cases a <;> exact State.setting_of_surroundings h _
  rw [State.leveled, State.strokeVolume_of_surroundings h, hlow]
  rfl

theorem State.strokeTaken_congr {s t : State} (h : t.surroundings = s.surroundings) {a : Agent} (ha : t.account a = s.account a) :
    t.strokeTaken a = s.strokeTaken a := by
  rw [State.strokeTaken, ha, State.strokeVolume_of_surroundings h, State.leveled_of_surroundings h]
  rfl

/-- R132: the part after a stroke was judged without feedback. -/
def State.strokeMissed (s : State) (r : DoseRec) : State :=
  (s.strokeOver r).withDose (some { r with phase := .idle, onTimer := none })

/-- R132: the part after a stroke was judged with feedback. -/
def State.strokeCounted (s : State) (r : DoseRec) : State :=
  ((s.strokeOver r).withDose (some { r with phase := .idle, onTimer := none })).countStroke { r with onTimer := none }

section
variable {s : State} {r : DoseRec} {h : StepRec} {rest : List StepRec} (hs : s.settled = true)
  (hrec : s.dosing.record = some r) (hheld : (s.account r.agent).held = none) (hst : (s.lane .dose).state = .running)

section
include hs hrec hheld

theorem State.strokeEnds_missed (hfb : r.feedback = false) :
    s.strokeEnds = (s.strokeMissed r).afterStroke { r with onTimer := none } := by
  have hdosing := State.strokeOver_dosing (r := r) hs
  rw [State.strokeEnds_eq hs hrec, State.judgeStroke_missed (r := { r with onTimer := none }) (by rw [hdosing]) (by rw [State.account, hdosing]; exact hheld) hfb]
  rfl

theorem State.strokeEnds_counted (hfb : r.feedback = true) :
    s.strokeEnds = (s.strokeCounted r).afterStroke { r with onTimer := none } := by
  have hdosing := State.strokeOver_dosing (r := r) hs
  rw [State.strokeEnds_eq hs hrec, State.judgeStroke_counted (r := { r with onTimer := none }) (by rw [hdosing]) (by rw [State.account, hdosing]; exact hheld) hfb]
  rfl

end

theorem State.strokeMissed_surroundings : (s.strokeMissed r).surroundings = s.surroundings := State.strokeOver_surroundings

theorem State.strokeCounted_surroundings : (s.strokeCounted r).surroundings = s.surroundings :=
  (State.countStroke_surroundings _ _).trans State.strokeOver_surroundings

include hst in
theorem State.strokeMissed_lane : (s.strokeMissed r).lane .dose = s.lane .dose :=
  State.strokeOver_lane (by rw [hst]; decide)

include hst in
theorem State.strokeCounted_lane (hq : (s.lane .dose).queue = h :: rest) : (s.strokeCounted r).lane .dose =
    { s.lane .dose with queue := { h with actual := fit32 ((r.delivered + 1) * s.strokeVolume r.agent) } :: rest } := by
  have hlane := State.strokeOver_lane (s := s) (r := r) (by rw [hst]; decide)
  have hcount := State.countStroke_engine ((s.strokeOver r).withDose (some { r with phase := .idle, onTimer := none }))
    { r with onTimer := none }
  have hvolume := State.strokeVolume_of_surroundings (State.strokeOver_surroundings (s := s) (r := r)) r.agent
  refine (congrArg (fun e : Engine => e.lanes.get .dose) hcount).trans ?_
  refine (State.modHead_lane (h := h) (rest := rest) ?_ _).trans ?_
  · exact (congrArg LaneRec.queue hlane).trans hq
  · rw [← hlane, ← hvolume]
    rfl

theorem State.strokeMissed_demands (o : Output) : (s.strokeMissed r).demands o .dose = false := State.strokeOver_demands o

theorem State.strokeCounted_demands (o : Output) : (s.strokeCounted r).demands o .dose = false := by
  rw [State.demands, State.out, State.strokeCounted, State.countStroke_guard]
  exact State.strokeOver_demands o

include hs in
theorem State.strokeMissed_dosing : (s.strokeMissed r).dosing = { s.dosing with
    record := some { r with phase := .idle, onTimer := none } } := by
  have hdosing := State.strokeOver_dosing (r := r) hs
  rw [State.strokeMissed]
  change { (s.strokeOver r).dosing with record := some { r with phase := .idle, onTimer := none } } = _
  rw [hdosing]

include hs in
theorem State.strokeCounted_dosing : (s.strokeCounted r).dosing.record
      = some { r with phase := .idle, onTimer := none, delivered := r.delivered + 1 }
    ∧ (s.strokeCounted r).account r.agent = s.strokeTaken r.agent := by
  obtain ⟨hrecord, haccount⟩ := State.countStroke_dosing (s := (s.strokeOver r).withDose (some { r with phase := .idle, onTimer := none }))
    (now := { r with phase := .idle, onTimer := none }) (r := { r with onTimer := none }) rfl
  refine ⟨hrecord, haccount.trans (State.strokeTaken_congr State.strokeOver_surroundings ?_)⟩
  change (s.strokeOver r).account r.agent = _
  rw [State.account, State.strokeOver_dosing hs]
  rfl

end

/-! ### How the lane goes on from a stroke (R131 to R133) -/

theorem State.succeed_withdraws (s : State) (l : Lane) (flags : ResultFlags) (v : Option Nat) (o : Output) :
    (s.succeed l flags v).demands o l.source = false := by
  unfold State.succeed
  dsimp only
  rw [State.demands_of_guardCore (State.concludeSuccess_guardCore _ _ _), State.tryEnd_withdraws]

theorem State.endCounted_withdraws (s : State) (l : Lane) (r : StepResult) (o : Output) :
    (s.endCounted l r).demands o l.source = false := by
  rw [State.endCounted, State.concludeCounted_demands, State.tryEnd_withdraws]

section
variable {u : State} {r r' : DoseRec}

theorem State.afterStroke_completes (hfb : r.feedback = true) (hlast : r.delivered + 1 = r.tryTarget) : u.afterStroke r =
    u.succeed .dose { ResultFlags.clear with shortSupply := decide (r.delivered + 1 < r.strokes) }
      (some ((r.delivered + 1) * u.strokeVolume r.agent)) := by
  rw [State.afterStroke, if_pos hfb, if_pos hlast]

section
variable (hrun : (u.lane .dose).state = .running)
include hrun

theorem State.afterStroke_faults (hfb : r.feedback = false) (hfault : (r.pumpOn && !r.pumpCut) = true) :
    u.afterStroke r = u.endCounted .dose .pumpFault := by
  rw [State.afterStroke, if_neg (by rw [hfb]; decide), if_pos hrun, if_pos hfault]

theorem State.afterStroke_rests (hrec : u.dosing.record = some r')
    (h : r.feedback = true ∧ r.delivered + 1 ≠ r.tryTarget ∨ r.feedback = false ∧ (r.pumpOn && !r.pumpCut) = false) :
    u.afterStroke r = u.withDose (some { r' with phase := .off, offTimer := u.timer (u.strokePeriod - u.strokePeriod / 2) }) := by
  rw [← State.modDose_of_record hrec (fun r => { r with phase := .off, offTimer := u.timer (u.strokePeriod - u.strokePeriod / 2) })]
  rcases h with ⟨hfb, hmore⟩ | ⟨hfb, hok⟩
  · rw [State.afterStroke, if_pos hfb, if_neg hmore, if_pos hrun]
    rfl
  · rw [State.afterStroke, if_neg (by rw [hfb]; decide), if_pos hrun, if_neg (by rw [hok]; decide)]
    rfl

end

end

theorem State.restTimer_of_surroundings {s u : State} (h : u.surroundings = s.surroundings) :
    u.timer (u.strokePeriod - u.strokePeriod / 2) = s.timer (s.strokePeriod - s.strokePeriod / 2) := by
  rw [State.timer_of_surroundings h, State.strokePeriod_of_surroundings h]

/-- Settles O49: the end of a stroke by its judgement and how the lane goes on from it, the end of a rest by the stroke that is due. -/
theorem strokesOfADose : Obligations.StrokesOfADose := by
  refine ⟨fun r h rest s hr hs hrec hphase hdue hheld hq hw hst => ?_, fun r s hr hrec hphase hdue hst => ⟨fun hdry => ?_,
    fun hwet hstock => ?_⟩⟩
  · have hexec := exec_onTimer hr hrec hdue
    obtain ⟨base, hw⟩ := hw
    have hmsurr := State.strokeMissed_surroundings (s := s) (r := r)
    have hcsurr := State.strokeCounted_surroundings (s := s) (r := r)
    have hmlane := State.strokeMissed_lane (r := r) hst
    have hclane := State.strokeCounted_lane (r := r) hst hq
    have hmrun : ((s.strokeMissed r).lane .dose).state = .running := by rw [hmlane]; exact hst
    have hcrun : ((s.strokeCounted r).lane .dose).state = .running := by rw [hclane]; exact hst
    have hmdosing := State.strokeMissed_dosing (r := r) hs
    have hmaccounts : (s.strokeMissed r).dosing.accounts = s.dosing.accounts := by rw [hmdosing]
    obtain ⟨hcrec, hcaccount⟩ := State.strokeCounted_dosing (r := r) hs
    refine ⟨fun hfb hmore => ?_, fun hfb hlast => ?_, fun hfb hon hcut => ?_, fun hfb hcut => ?_⟩
    · have hends := State.strokeEnds_counted hs hrec hheld hfb
      rw [State.afterStroke_rests hcrun (r := { r with onTimer := none }) hcrec (.inl ⟨hfb, hmore⟩), State.restTimer_of_surroundings hcsurr] at hends
      refine ⟨_, hexec, ?_, ?_, fun o => ?_, ?_, ?_, ?_, fun hv => ?_, fun hv => ?_⟩ <;> rw [hends]
      · exact hcsurr
      · exact (State.withDose_settled _ _).trans (State.countStroke_settled _ _ (State.withdrawAll_settled _ _))
      · exact State.strokeCounted_demands o
      · rfl
      · exact hcrun
      · exact congrArg LaneRec.queue hclane
      · refine hcaccount.trans ?_
        rw [State.strokeTaken, if_pos hv]
      · refine hcaccount.trans ?_
        rw [State.strokeTaken, if_neg (by rw [hv]; decide), sat32, Nat.min_comm]
    · have hends := State.strokeEnds_counted hs hrec hheld hfb
      rw [State.afterStroke_completes (r := { r with onTimer := none }) hfb hlast,
        State.strokeVolume_of_surroundings hcsurr] at hends
      obtain ⟨hlane, hnone⟩ := State.succeed_idle (s := s.strokeCounted r) (rest := rest)
        (h := { h with actual := fit32 ((r.delivered + 1) * s.strokeVolume r.agent) }) (by rw [hcrun]; decide) (by rw [hclane])
        ⟨base, r.agent, hw⟩ (fun r' hr' => by cases Option.some.inj (hcrec.symm.trans hr'); exact nofun)
        { ResultFlags.clear with shortSupply := decide (r.delivered + 1 < r.strokes) } ((r.delivered + 1) * s.strokeVolume r.agent)
      refine ⟨_, hexec, ?_, fun o => ?_, ?_, ?_, ?_⟩ <;> rw [hends]
      · exact (State.succeed_surroundings _ _ _ _).trans hcsurr
      · exact State.succeed_withdraws _ .dose _ _ o
      · exact hnone
      · rw [hlane]
        rfl
      · rw [hlane, State.now_of_surroundings hcsurr]
        rfl
    · have hends := State.strokeEnds_missed hs hrec hheld hfb
      rw [State.afterStroke_faults hmrun (r := { r with onTimer := none }) hfb (by simp [hon, hcut])] at hends
      obtain ⟨-, haccounts⟩ := State.tryEnd_idle (s := s.strokeMissed r) (h := h) (rest := rest) (by rw [hmrun]; decide)
        (by rw [hmlane]; exact hq) ⟨base, r.agent, hw⟩
        (fun r' hr' => by rw [hmdosing] at hr'; cases Option.some.inj hr'; exact nofun)
      obtain ⟨v, -, hlane⟩ := State.endCounted_lane (s := s.strokeMissed r) (l := .dose) .pumpFault (h := h) (rest := rest)
        (by rw [hmrun]; decide) (by rw [hmlane]; exact hq)
      refine ⟨_, hexec, ?_, fun o => ?_, ?_, ?_, ?_⟩ <;> rw [hends]
      · exact (State.endCounted_surroundings _ _ _).trans hmsurr
      · exact State.endCounted_withdraws _ .dose _ o
      · rw [State.endCounted, State.dosing_of_apart (State.concludeCounted_apart _ _ _), haccounts, hmdosing]
      · rw [hlane]
        split <;> rfl
      · rw [hlane]
        split <;> exact ⟨_, rfl, rfl, rfl⟩
    · have hends := State.strokeEnds_missed hs hrec hheld hfb
      have hok : (r.pumpOn && !r.pumpCut) = false := by rcases hcut with h | h <;> simp [h]
      rw [State.afterStroke_rests hmrun (r := { r with onTimer := none }) (r' := { r with phase := .idle, onTimer := none }) (by rw [hmdosing]) (.inr ⟨hfb, hok⟩),
        State.restTimer_of_surroundings hmsurr] at hends
      refine ⟨_, hexec, ?_, fun o => ?_, ?_, ?_, ?_⟩ <;> rw [hends]
      · exact hmsurr
      · exact State.strokeMissed_demands o
      · exact hmaccounts
      · exact hmlane
      · rfl
  · rw [exec_offTimer hr hrec hdue, State.strokeDue_deferred (s := s.withDose (some { r with offTimer := none }))
      (r := { r with offTimer := none }) rfl hst hphase hdry]
    rfl
  · have hwait : (s.lane .dose).state ≠ .waiting := by rw [hst]; decide
    have hissues := State.strokeDue_issues (s := s.withDose (some { r with offTimer := none })) (r := { r with offTimer := none }) rfl hst hphase hwet hstock
    obtain ⟨hsurr, hsettled, -, hdemands, hlane, haccounts, r', hr', hpumped⟩ :=
      State.issueStroke_spec (s := s.withDose (some { r with offTimer := none })) (r := { r with offTimer := none }) rfl hwait
    refine ⟨_, exec_offTimer hr hrec hdue, ?_⟩
    rw [hissues]
    refine ⟨hsurr, hsettled, hdemands, haccounts, hlane, r', hr', ?_⟩
    rw [hpumped.1]
    exact ⟨rfl, rfl, rfl, rfl, rfl, rfl, rfl⟩

end Sys2Proof.Machine
end

-- ==== The residual hardness, the dose and the start of a DOSE (R110, R126 to R131, R134) ====
section
namespace Sys2Proof.Machine

/-! ### The residual hardness (R110) -/

theorem State.residual_of_valid {s : State} (hv : s.softener.valid = true) : s.residual =
    if s.knee ≤ s.resinBp then 0 else ceilDiv (s.inletHardness * (s.knee - s.resinBp)) s.knee := by
  rw [State.residual, hv]
  rfl

theorem State.residual_le {s : State} (hk : 0 < s.knee) : s.residual ≤ s.inletHardness := by
  unfold State.residual
  split
  · exact Nat.le_refl _
  · split
    · exact Nat.zero_le _
    · exact (ceilDiv_le_iff hk).mpr (Nat.mul_le_mul_left _ (Nat.sub_le _ _))

theorem ceilDiv_mono {a a' : Nat} (h : a ≤ a') (b : Nat) : ceilDiv a b ≤ ceilDiv a' b :=
  Nat.div_le_div_right (Nat.sub_le_sub_right (Nat.add_le_add_right h b) 1)

/-- R110: the residual hardness falls as the resin fraction rises. -/
theorem State.residual_anti {s t : State} (hs : s.softener.valid = true) (ht : t.softener.valid = true) (hk : t.knee = s.knee)
    (hin : t.inletHardness = s.inletHardness) (hbp : s.resinBp ≤ t.resinBp) : t.residual ≤ s.residual := by
  rw [State.residual_of_valid hs, State.residual_of_valid ht, hk, hin]
  by_cases h : s.knee ≤ t.resinBp
  · rw [if_pos h]
    exact Nat.zero_le _
  · rw [if_neg h, if_neg (fun h' => h (Nat.le_trans h' hbp))]
    exact ceilDiv_mono (Nat.mul_le_mul_left _ (Nat.sub_le_sub_left hbp _)) _

/-! ### The computed dose (R128, R129) -/

theorem le_ceilDiv_mul (a : Nat) {b : Nat} (hb : 0 < b) : a ≤ ceilDiv a b * b := (ceilDiv_le_iff hb).mp (Nat.le_refl _)

theorem ceilDiv_mul_lt (a : Nat) {b : Nat} (hb : 0 < b) : ceilDiv a b * b < a + b := by
  have hle : ceilDiv a b * b ≤ a + b - 1 := Nat.div_mul_le_self _ _
  omega

theorem hardnessFactor_le (slope : Nat) (hr : Option Nat) : hardnessFactor slope hr ≤ 2000 := by
  cases hr with
  | none => exact Nat.le_of_ble_eq_true rfl
  | some v => exact Nat.min_le_left _ _

/-! ### A try of DOSE that begins (R126, R127, R130) -/

/-- R130: the part as a try of the head of DOSE begins, with the dose record `r`. -/
def State.doseStarted (s : State) (h : StepRec) (rest : List StepRec) (r : DoseRec) : State :=
  (s.tryStarted .dose h rest).withDose (some r)

/-- R127: the soil class with which a record is computed where one is needed and taken. -/
def State.classTaken (s : State) (a : Agent) : Option Nat := if a = .detergent then some s.sampler.turb.soilClass else none

section
variable {s : State} {h : StepRec} {rest : List StepRec} {base : Nat} {a : Agent}

theorem exec_startDose (hr : s.resetHeld = false) (ha : s.attemptsDose h rest) (hw : h.work = .dose base a) :
    exec (.startAttempt .dose) s = .next (s.beginTry .dose h) := by
  obtain ⟨hst, hdue, hq, hs, hf, hl, hfill⟩ := ha
  have hcut : s.aboveCutoff h.work = false := by rw [hw]; rfl
  have hex : s.excluded .dose = false := by
    change s.headIs .water _ = false
    unfold State.headIs
    split
    next w hwater =>
      refine Bool.eq_false_iff.mpr fun hboth => ?_
      rw [Bool.and_eq_true, decide_eq_true_eq] at hboth
      obtain ⟨hactive, hisFill⟩ := hboth
      exact hfill ⟨w, hwater, hisFill, .inl hactive⟩
    · rfl
  rw [exec_startAttempt hr hst hdue fun _ ⟨hready, hwdue, w, hwater, hisFill⟩ => hfill ⟨w, hwater, hisFill, .inr ⟨hready, hwdue⟩⟩,
    State.attempt_begins hq hs hf hl hcut hex]

variable (hq : (s.lane .dose).queue = h :: rest) (htest : s.guard.test = none) (hw : h.work = .dose base a)
include hq htest

theorem State.beginTry_dose {u : State} (hdoor : s.doorClosed = true)
    (hu : (s.tryStarted .dose h rest).prepare .dose h (!h.started) = u) (hengine : u.engine = (s.tryStarted .dose h rest).engine)
    (hinputs : u.inputs = s.inputs) :
    s.beginTry .dose h
      = u.takeOutcome .dose h.work false (u.startTests .dose { h with status := .active, started := true }) := by
  have hclosed : u.doorClosed = true := by
    rw [← hdoor]
    simp only [State.doorClosed, State.reads, State.accepted, hinputs]
  have hhead : u.head .dose = some { h with status := .active, started := true } := by
    rw [State.head, State.lane, hengine]
    rfl
  refine (State.beginTry_eq hq ((congrArg (fun v : State => v.prepare .dose h (!h.started)) (State.endTest_none ?_)).trans hu) hhead
    rfl).trans ?_
  · exact htest
  · rw [hclosed, Bool.not_true, Bool.and_false]

include hw

/-- R127: the first start of a DETERGENT without a taken sample. -/
theorem State.beginTry_awaits (hdoor : s.doorClosed = true) (hfirst : h.started = false) (ha : a = .detergent)
    (hsample : s.sampler.turb.sampled = false) :
    s.beginTry .dose h = ((s.doseStarted h rest (s.newDose h.id base a)).requestSample none true).modLane .dose
      (fun r => { r with state := .waiting, waitCause := some .start }) := by
  subst ha
  have hu : (s.tryStarted .dose h rest).prepare .dose h (!h.started)
      = (s.doseStarted h rest (s.newDose h.id base .detergent)).requestSample none true := by
    rw [State.prepare, hw, hfirst]
    change (if s.sampler.turb.sampled = true then _ else _) = _
    rw [hsample]
    rfl
  have hkeeps (u : State) : (u.requestSample none true).engine = u.engine ∧ (u.requestSample none true).inputs = u.inputs
      ∧ (u.requestSample none true).dosing = u.dosing := by
    unfold State.requestSample
    dsimp only
    split <;> exact ⟨rfl, rfl, rfl⟩
  obtain ⟨hengine, hinputs, hdosing⟩ := hkeeps (s.doseStarted h rest (s.newDose h.id base .detergent))
  rw [State.beginTry_dose hq htest hdoor hu (hengine.trans rfl) (hinputs.trans rfl)]
  have hwait : ((s.doseStarted h rest (s.newDose h.id base .detergent)).requestSample none true).startTests .dose
      { h with status := .active, started := true } = .wait := by
    rw [State.startTests]
    dsimp only
    rw [hw, hdosing]
    rfl
  rw [hwait]
  rfl

/-- R127 and R130: a try of DOSE whose record is computed by its tests. -/
theorem State.beginTry_computed (hdoor : s.doorClosed = true) {r : DoseRec} (hagent : r.agent = a)
    (hrec : h.started = false ∧ (a = .rinse ∨ s.sampler.turb.sampled = true)
        ∧ r = (s.newDose h.id base a).compute s.vref (s.strokeVolume a) (s.classTaken a)
      ∨ h.started = true ∧ s.dosing.record = some r ∧ r.computed = true ∧ r.phase ≠ .on) :
    s.beginTry .dose h = (s.doseStarted h rest r).takeOutcome .dose (.dose base a) false (s.doseTests r)
    ∧ r.phase ≠ .on := by
  have hprepared : (s.tryStarted .dose h rest).prepare .dose h (!h.started) = s.doseStarted h rest r ∧ r.computed = true
      ∧ r.phase ≠ .on := by
    rcases hrec with ⟨hfirst, hclass, hnew⟩ | ⟨hlater, hrec, hcomputed, hoff⟩
    · rw [State.prepare, hw, hfirst, hnew]
      refine ⟨?_, rfl, nofun⟩
      cases a with
      | rinse => rfl
      | detergent =>
        have hsample : s.sampler.turb.sampled = true := hclass.resolve_left nofun
        change (if s.sampler.turb.sampled = true then _ else _) = _
        rw [hsample]
        rfl
    · have hkept {u : State} (hu : u.dosing.record = some r) : u.prepare .dose h false = u := by
        simp only [State.prepare, hw, hu, State.findClass, hcomputed, Bool.false_eq_true, if_false, if_true]
      refine ⟨?_, hcomputed, hoff⟩
      rw [hlater, State.doseStarted, ← hrec]
      exact hkept hrec
  obtain ⟨hu, hcomputed, hoff⟩ := hprepared
  refine ⟨?_, hoff⟩
  rw [State.beginTry_dose hq htest hdoor hu rfl rfl]
  have htests : (s.doseStarted h rest r).startTests .dose { h with status := .active, started := true } = s.doseTests r := by
    rw [State.startTests]
    dsimp only
    rw [hw]
    change (if r.computed = true then _ else _) = _
    rw [if_pos hcomputed]
    rfl
  rw [htests, hw]

end

/-! ### What a try of DOSE begins with (R130, R134) -/

section
variable {u : State}

theorem State.levelWet_eq {wet : Bool} (h : u.accepted .levelLow = some wet) : u.levelWet = wet := by
  rw [State.levelWet, State.reads, h]
  rfl

/-- R134 and R135: the work of a DOSE starts the dry window where the tub is dry. -/
theorem State.doseWork_waits {r : DoseRec} (hrec : u.dosing.record = some r) (hphase : r.phase ≠ .on)
    (hdry : u.accepted .levelLow = some false) :
    u.doseWork = u.withDose (some { r with phase := .idle, dry := u.timer 2000 }) := by
  have hfix : (if r.phase = .on then r else { r with phase := .idle }) = { r with phase := .idle } := if_neg hphase
  rw [State.doseWork, if_neg (by rw [State.levelWet_eq hdry]; decide), State.modDose_of_record hrec, hfix]
  rfl

end

section
variable {s : State} {h : StepRec} {rest : List StepRec} {r : DoseRec}

theorem State.doseStarted_tried : ((s.doseStarted h rest r).lane .dose).state ≠ .waiting := by
  change LaneState.running ≠ .waiting
  decide

theorem State.takeOutcome_success (s : State) (l : Lane) (w : Work) (door : Bool) (flags : ResultFlags) (v : Option Nat) :
    s.takeOutcome l w door (.success flags v) = s.succeed l flags v := rfl

theorem State.takeOutcome_immediate (s : State) (l : Lane) (w : Work) (door : Bool) (result : StepResult) :
    s.takeOutcome l w door (.immediate result) = s.failImmediate l result := rfl

/-- R130: the dose record of a try that runs. -/
def State.tryTargeted (s : State) (r : DoseRec) : DoseRec :=
  { r with
    tryTarget := r.delivered + (if (s.account r.agent).valid then
      min (r.strokes - r.delivered) (s.stockLimit r.agent) else r.strokes - r.delivered),
    issuedInTry := false }

theorem State.runKind_dose (base : Nat) (a : Agent) :
    (s.doseStarted h rest r).runKind .dose (.dose base a) = (s.doseStarted h rest (s.tryTargeted r)).doseWork := rfl

section
variable (hoff : r.phase ≠ .on)
include hoff

/-- R130 and R131: a try that runs with the tub wet issues its first stroke. -/
theorem State.doseWork_wet (hwet : s.accepted .levelLow = some true) (hfresh : r.issuedInTry = false) :
    (s.doseStarted h rest r).doseWork = (s.doseStarted h rest r).issueStroke r.agent := by
  rw [State.doseWork, if_pos (State.levelWet_eq (u := s.doseStarted h rest r) hwet), State.strokeDue_issues (s := s.doseStarted h rest r) rfl rfl hoff hwet
    (fun h' => nomatch hfresh.symm.trans h')]

end

/-- R130: the tests of a computed dose with strokes left and stock for one. -/
theorem State.doseTests_passes (hsome : r.strokes ≠ 0) (hmore : r.delivered ≠ r.strokes) (hvolume : 0 < s.strokeVolume r.agent)
    (hstock : (s.account r.agent).valid = true → s.strokeVolume r.agent ≤ (s.account r.agent).stock) :
    s.doseTests r = if s.accepted .levelLow = none then .wait else .run := by
  have hlimit : ¬ ((s.account r.agent).valid = true ∧ s.stockLimit r.agent = 0) := by
    rintro ⟨hv, h0⟩
    have := Nat.div_pos (hstock hv) hvolume
    exact absurd h0 (Nat.ne_of_gt this)
  unfold State.doseTests
  dsimp only
  rw [if_neg (by simp [hsome, hmore]), if_neg hlimit]
  cases s.accepted .levelLow with
  | none => rfl
  | some wet => rfl

theorem State.doseTests_noStock (hsome : r.strokes ≠ 0) (hmore : r.delivered ≠ r.strokes) (hv : (s.account r.agent).valid = true)
    (hless : (s.account r.agent).stock < s.strokeVolume r.agent) : s.doseTests r = r.noStock (s.strokeVolume r.agent) := by
  have hlimit : s.stockLimit r.agent = 0 := Nat.div_eq_of_lt hless
  unfold State.doseTests
  dsimp only
  rw [if_neg (by simp [hsome, hmore]), if_pos ⟨hv, hlimit⟩]

theorem State.doseTests_done (hdone : r.strokes = 0 ∨ r.delivered = r.strokes) :
    s.doseTests r = .success ResultFlags.clear (some (r.delivered * s.strokeVolume r.agent)) := if_pos hdone

/-- R79: a DOSE whose try fails for good at its start. -/
theorem State.failImmediate_idle {base : Nat} (hw : h.work = .dose base r.agent) (hoff : r.phase ≠ .on) (result : StepResult) :
    (((s.doseStarted h rest r).failImmediate .dose result).lane .dose).state = .stalled
    ∧ (((s.doseStarted h rest r).failImmediate .dose result).lane .dose).queue
      = { h with status := .failed, started := true, result := result, endTime := some s.time.clock } :: rest := by
  have hin : ((s.doseStarted h rest r).lane .dose).tryInProgress = true := rfl
  obtain ⟨hlane, -⟩ := State.tryEnd_idle (s := s.doseStarted h rest r) (h := { h with status := .active, started := true })
    (rest := rest) State.doseStarted_tried rfl ⟨base, r.agent, hw⟩
    (fun r' hr' => by cases Option.some.inj hr'; exact hoff)
  have hfailed := State.failForGood_lane ((s.doseStarted h rest r).tryEnd .dose) .dose result
    { h with status := .active, started := true } rest (by rw [hlane]; rfl)
  rw [State.failImmediate, if_pos hin, hfailed]
  refine ⟨rfl, ?_⟩
  rw [State.tryEnd_now]
  rfl

end

/-- Settles O47: the residual hardness and the computed dose by their clamps and roundings, the start of a DOSE by what its record
and its tests give. -/
theorem residualAndDoseBounds : Obligations.ResidualAndDoseBounds := by
  refine ⟨fun s => State.residual_le, fun s r hk hv hle => ?_, fun r vref stroke c hstroke => ?_,
    fun h rest base a s hr ha htest hw hdoor hvolume => ⟨fun hfirst hagent hsample => ?_, fun r hagent hrec => ?_⟩⟩
  · exact State.residual_anti hv hv rfl rfl (Nat.div_le_div_right (Nat.mul_le_mul_right _ hle))
  · have hdose : (r.compute vref stroke c).dose = clampDose r.agent r.latched (r.compute vref stroke c).d3 := rfl
    obtain ⟨hlow, hhigh⟩ := clampNat_mem (lo := 700) (hi := 1400) (by decide) (r.vr * 1000 / vref)
    refine ⟨fun ha => ?_, fun ha hle => ?_, le_ceilDiv_mul _ hstroke, ceilDiv_mul_lt _ hstroke, hlow, hhigh, hardnessFactor_le _ _⟩
    · rw [hdose, ha]
      exact (clampNat_mem (Nat.zero_le _) _).2
    · rw [hdose, ha]
      exact clampNat_mem hle _
  · obtain ⟨-, -, hq, -⟩ := id ha
    subst hagent
    refine ⟨_, exec_startDose hr ha hw, ?_⟩
    rw [State.beginTry_awaits hq htest hw hdoor hfirst rfl hsample]
    have hrequest (u : State) : u.requestSample none true = u.withTurb { u.sampler.turb with
        doseReq := true, lit := true, ledTimer := if u.sampler.turb.lit then u.sampler.turb.ledTimer else u.timer 30 } := by
      unfold State.requestSample
      dsimp only
      cases hlit : u.sampler.turb.lit
      · simp
      · simp
    rw [hrequest]
    exact ⟨rfl, rfl, rfl, rfl, rfl, rfl, _, rfl, rfl, rfl, rfl, rfl, rfl, rfl, rfl,
      fun v hv => by simp [State.newDose, hv], rfl⟩
  · obtain ⟨-, -, hq, -⟩ := id ha
    obtain ⟨hbegin, hoff⟩ := State.beginTry_computed hq htest hw hdoor hagent hrec
    subst hagent
    refine ⟨_, exec_startDose hr ha hw, ?_⟩
    have hsurr : (s.beginTry .dose h).surroundings = s.surroundings := State.beginTry_surroundings _ _ _
    have hsucceed (flags : ResultFlags) (v : Nat) := State.succeed_idle (s := s.doseStarted h rest r)
      (h := { h with status := .active, started := true }) (rest := rest) State.doseStarted_tried rfl
      ⟨base, r.agent, hw⟩ (fun r' hr' => by cases Option.some.inj hr'; exact hoff) flags v
    refine ⟨hsurr, fun hdone => ?_, fun hsome hmore hv hless => ⟨fun hpos => ?_, fun hzero => ?_⟩, fun hsome hmore hstock => ?_⟩
    · obtain ⟨hlane, hnone⟩ := hsucceed ResultFlags.clear (r.delivered * s.strokeVolume r.agent)
      rw [hbegin, State.doseTests_done hdone, State.takeOutcome_success]
      refine ⟨congrArg LaneRec.queue hlane, hnone, fun o => State.succeed_withdraws _ .dose _ _ o, congrArg LaneRec.last hlane⟩
    · obtain ⟨hlane, hnone⟩ := hsucceed { ResultFlags.clear with shortSupply := true } (r.delivered * s.strokeVolume r.agent)
      rw [hbegin, State.doseTests_noStock hsome hmore hv hless, DoseRec.noStock, if_pos hpos, State.takeOutcome_success]
      exact ⟨congrArg LaneRec.queue hlane, hnone, congrArg LaneRec.last hlane⟩
    · rw [hbegin, State.doseTests_noStock hsome hmore hv hless, DoseRec.noStock, if_neg (by rw [hzero]; decide), State.takeOutcome_immediate]
      exact State.failImmediate_idle hw hoff .noSupply
    · have htests := State.doseTests_passes hsome hmore hvolume hstock
      cases hlevel : s.accepted .levelLow with
      | none =>
        rw [hbegin, htests, hlevel]
        exact ⟨rfl, rfl, fun _ => ⟨rfl, rfl, rfl⟩, fun _ _ => ⟨nofun, nofun⟩⟩
      | some wet =>
        have hrun : s.beginTry .dose h = (s.doseStarted h rest (s.tryTargeted r)).doseWork := by
          rw [hbegin, htests, hlevel]
          exact State.runKind_dose base r.agent
        rw [hrun]
        cases wet with
        | false =>
          rw [State.doseWork_waits (u := s.doseStarted h rest (s.tryTargeted r)) rfl hoff hlevel]
          refine ⟨rfl, rfl, nofun, fun left hleft => ⟨fun _ => ⟨rfl, rfl, ?_⟩, nofun⟩⟩
          rw [hleft]
          rfl
        | true =>
          rw [State.doseWork_wet (r := s.tryTargeted r) hoff hlevel rfl]
          obtain ⟨-, hsettled, -, hdemands, hlane, haccounts, r', hr', hpumped⟩ := State.issueStroke_spec
            (s := s.doseStarted h rest (s.tryTargeted r)) (r := s.tryTargeted r) rfl State.doseStarted_tried
          refine ⟨haccounts, congrArg LaneRec.queue hlane, nofun, fun left hleft => ⟨nofun, fun _ =>
            ⟨congrArg LaneRec.state hlane, hsettled, hdemands, r', hr', ?_⟩⟩⟩
          rw [hleft]
          exact hpumped.1

end Sys2Proof.Machine
end

-- ==== The start of a try of the WATER lane (R75, R90 to R92, R97, R99, R101, R104, R105, R107) ====
section
namespace Sys2Proof.Machine

/-! ### A step as its kind prepares it (R75) -/

/-- R75: a step as its try begins. -/
def StepRec.activated (h : StepRec) : StepRec := { h with status := .active, started := true }

/-- R75: the head of the WATER lane as its try begins and its kind has prepared it. -/
def State.stepPrepared (s : State) (h : StepRec) : StepRec :=
  match h.work with
  | .fill target _ => if h.started then h.activated else { h.activated with count := 0, countTarget := s.toCounts target }
  | .drain _ => { h.activated with runOn := 0 }
  | .circulate _ _ | .pause _ => if h.started then h.activated else { h.activated with progress := 0 }
  | .autoOpen => { h.activated with autoOpenOn := s.autoOpenSetting }
  | .heat _ _ | .regenerate _ | .dose _ _ => h.activated

/-- R40: the position at which a kind sets the diverter. -/
def Work.position : Work → Option Diverter
  | .circulate _ d | .heat _ d => some d
  | .fill _ _ | .drain _ | .pause _ | .regenerate _ | .autoOpen | .dose _ _ => none

/-- R75: the part as a try of the WATER lane has been prepared, the WATER lane having no DOSE step. -/
def State.startPrepared (s : State) (h : StepRec) (rest : List StepRec) : State :=
  ((s.tryStarted .water h rest).endTest.withLane .water { (s.tryStarted .water h rest).endTest.lane .water with
    queue := s.stepPrepared h :: rest }).setDiverter (h.work.position.getD s.guard.diverter)

/-- R101: `t` is the step `h` apart from the reading of a HEAT that runs. -/
def StepRec.read (h t : StepRec) : Prop := t = { h with lastTemp := t.lastTemp, actual := t.actual }

theorem State.stepPrepared_spec (s : State) (h : StepRec) :
    (s.stepPrepared h).id = h.id ∧ (s.stepPrepared h).work = h.work ∧ (s.stepPrepared h).status = .active
    ∧ (s.stepPrepared h).started = true ∧ (s.stepPrepared h).triesUsed = h.triesUsed ∧ (s.stepPrepared h).result = h.result
    ∧ (s.stepPrepared h).hold = h.hold := by
  unfold State.stepPrepared
  (repeat' split) <;> exact ⟨rfl, rfl, rfl, rfl, rfl, rfl, rfl⟩

theorem State.stepPrepared_counts (s : State) (h : StepRec) :
    (s.stepPrepared h).runOn = (match h.work with | .drain _ => 0 | _ => h.runOn)
    ∧ (h.started = true → (s.stepPrepared h).count = h.count ∧ (s.stepPrepared h).countTarget = h.countTarget
      ∧ (s.stepPrepared h).progress = h.progress)
    ∧ (∀ target levelStop, h.work = .fill target levelStop → h.started = false →
        (s.stepPrepared h).count = 0 ∧ (s.stepPrepared h).countTarget = s.toCounts target) := by
  unfold State.stepPrepared
  cases hw : h.work <;> cases hs : h.started <;> simp [StepRec.activated]

section
variable {s t : State} (hsur : t.surroundings = s.surroundings)
include hsur

theorem State.accepted_of_surroundings (i : Input) : t.accepted i = s.accepted i :=
  congrArg (fun u : Surroundings => (u.inputs.get i).accepted) hsur

theorem State.stepPrepared_congr (h : StepRec) : t.stepPrepared h = s.stepPrepared h := by
  have hcounts (v : Nat) : t.toCounts v = s.toCounts v := by
    rw [State.toCounts, State.kCounts, State.fieldNat_of_surroundings hsur]
    rfl
  have hopen : t.autoOpenSetting = s.autoOpenSetting := by
    rw [State.autoOpenSetting, State.setting_of_surroundings hsur]
    rfl
  simp only [State.stepPrepared, hcounts, hopen]

end

section
variable {e : State} {h : StepRec} {rest : List StepRec}
  (hq : (e.lane .water).queue = h.activated :: rest)
include hq

theorem State.prepare_water (hw : ∀ base a, h.work ≠ .dose base a) : e.prepare .water h (!h.started) =
    (e.withLane .water { e.lane .water with queue := e.stepPrepared h :: rest }).setDiverter
      (h.work.position.getD e.guard.diverter) := by
  have hsame : e.withLane .water { e.lane .water with queue := h.activated :: rest } = e := by
    rw [← hq]
    rfl
  have hfirst (f : StepRec → StepRec) : (if (!h.started) = true then e.modHead .water f else e) =
      e.withLane .water { e.lane .water with queue := (if h.started then h.activated else f h.activated) :: rest } := by
    cases h.started with
    | true => exact hsame.symm
    | false => exact State.modHead_of_queue hq f
  unfold State.prepare State.stepPrepared Work.position
  cases hk : h.work with
  | fill target levelStop => exact hfirst fun t => { t with count := 0, countTarget := e.toCounts target }
  | drain runOn => exact State.modHead_of_queue hq _
  | circulate duration d => exact congrArg (fun u : State => u.setDiverter d) (hfirst fun t => { t with progress := 0 })
  | heat target d => exact congrArg (fun u : State => u.setDiverter d) hsame.symm
  | pause duration => exact hfirst fun t => { t with progress := 0 }
  | regenerate force => exact hsame.symm
  | autoOpen => exact State.modHead_of_queue hq _
  | dose base a => exact absurd hk (hw base a)

end

/-! ### A try of the WATER lane that begins (R75) -/

theorem State.endTest_diverter (s : State) : s.endTest.guard.diverter = s.guard.diverter := by
  unfold State.endTest
  split
  · rfl
  next o ho =>
    exact (congrArg Bystanders.diverter (State.evaluate_bystanders _) :)

section
variable {s : State} {h : StepRec} {rest : List StepRec}

/-- R49 and R75: what the preparation of a try changes, the output test ended. -/
theorem State.startPrepared_spec : (s.startPrepared h rest).surroundings = s.surroundings
    ∧ (s.startPrepared h rest).lane .water = { s.lane .water with
        queue := s.stepPrepared h :: rest, state := .running, waitCause := none, running := 0, attemptDue := false }
    ∧ (s.startPrepared h rest).guard.test = none ∧ (s.startPrepared h rest).sampler = s.sampler
    ∧ (s.startPrepared h rest).guard.diverter = h.work.position.getD s.guard.diverter
    ∧ (∀ o src, src ≠ .test → (s.startPrepared h rest).demands o src = s.demands o src) := by
  have hstart : ((s.tryStarted .water h rest).lane .water).state ≠ .waiting := by
    rw [State.tryStarted_lane]
    exact nofun
  obtain ⟨hlane, htest, hsampler, hdemands, -⟩ := (s.tryStarted .water h rest).endTest_spec hstart
  refine ⟨State.endTest_surroundings _, ?_, htest, hsampler, rfl, hdemands⟩
  refine Eq.trans (b := { (s.tryStarted .water h rest).endTest.lane .water with queue := s.stepPrepared h :: rest }) rfl ?_
  rw [hlane, State.tryStarted_lane]

/-- R75: a try of the WATER lane begins with the outcome of its kind's tests. -/
theorem State.beginTry_water (hq : (s.lane .water).queue = h :: rest) (hw : ∀ base a, h.work ≠ .dose base a) :
    s.beginTry .water h = (s.startPrepared h rest).takeOutcome .water h.work (h.work.doorPauses && !s.doorClosed)
      ((s.startPrepared h rest).startTests .water (s.stepPrepared h)) := by
  obtain ⟨hsur, hlane, -⟩ := State.startPrepared_spec (s := s) (h := h) (rest := rest)
  have hesur : (s.tryStarted .water h rest).endTest.surroundings = s.surroundings := State.endTest_surroundings _
  have hdiverter : (s.tryStarted .water h rest).endTest.guard.diverter = s.guard.diverter := by
    exact State.endTest_diverter (s.tryStarted .water h rest)
  have hstart : ((s.tryStarted .water h rest).lane .water).state ≠ .waiting := by
    rw [State.tryStarted_lane]
    exact nofun
  obtain ⟨helane, -⟩ := (s.tryStarted .water h rest).endTest_spec hstart
  have hu : (s.tryStarted .water h rest).endTest.prepare .water h (!h.started) = s.startPrepared h rest := by
    rw [State.prepare_water (rest := rest) (by rw [helane, State.tryStarted_lane]; rfl) hw, hdiverter, State.stepPrepared_congr hesur]
    rfl
  rw [State.beginTry_eq hq hu (State.head_of_queue (rest := rest) (by rw [hlane])) rfl, (s.stepPrepared_spec h).2.1,
    State.doorClosed, State.reads_congr hsur]
  rfl

theorem exec_startWater (hr : s.resetHeld = false) (ha : s.attemptsWater h rest)
    (hcut : s.aboveCutoff h.work = false) (hfill : h.work.isFill = true → s.headActive .dose = false) :
    exec (.startAttempt .water) s = .next (s.beginTry .water h) := by
  obtain ⟨hst, hdue, hq, hs, hf, hl⟩ := ha
  have hex : s.excluded .water = false := by
    rw [State.excluded, State.headIs, State.head_of_queue hq]
    dsimp only
    cases hisFill : h.work.isFill with
    | false => rfl
    | true => rw [hfill hisFill]; rfl
  rw [exec_startAttempt hr hst hdue nofun, State.attempt_begins hq hs hf hl hcut hex]

/-! ### A try that runs (Table 6-1) -/

/-- R92, R97, R99, R101 and R104: the head of the WATER lane meets no end and no wait at its start, and its demands are `outs`. -/
def State.runsWith (s : State) (h : StepRec) (outs : List Output) : Prop :=
  (∃ target levelStop, h.work = .fill target levelStop ∧ s.headActive .dose = false
      ∧ (if h.started then h.count < h.countTarget else 0 < s.toCounts target)
      ∧ (levelStop = true → s.accepted .levelHigh = some false) ∧ outs = [.inlet])
    ∨ (∃ runOn, h.work = .drain runOn ∧ (runOn ≠ 0 ∨ s.accepted .levelLow ≠ some false) ∧ outs = [.drain])
    ∨ (∃ duration x, h.work = .circulate duration x ∧ s.accepted .levelLow = some true ∧ outs = [.circ])
    ∨ (∃ target x, h.work = .heat target x ∧ target ≤ s.heaterCutoff ∧ s.accepted .levelLow = some true
      ∧ s.sampler.temp.status ≠ .sensorFault
      ∧ (∀ v, s.sampler.temp.status = .valid → s.sampler.temp.value = some v → v < (target : Int))
      ∧ outs = [.circ, .heater])
    ∨ (∃ duration, h.work = .pause duration ∧ outs = [])

theorem State.stepPrepared_fill {target : Nat} {levelStop : Bool} (hw : h.work = .fill target levelStop)
    (hmore : if h.started then h.count < h.countTarget else 0 < s.toCounts target) :
    ¬ (s.stepPrepared h).countTarget ≤ (s.stepPrepared h).count := by
  unfold State.stepPrepared
  rw [hw]
  cases hs : h.started <;> simpa [hs, StepRec.activated, Nat.pos_iff_ne_zero] using hmore

theorem State.runsWith_tests {outs : List Output} (hrun : s.runsWith h outs) {u : State} (hsur : u.surroundings = s.surroundings)
    (hsampler : u.sampler = s.sampler) : u.startTests .water (s.stepPrepared h) = .run := by
  have hwork := (s.stepPrepared_spec h).2.1
  have hacc := State.accepted_of_surroundings hsur
  rcases hrun with ⟨target, levelStop, hw, -, hmore, hlevel, -⟩ | ⟨runOn, hw, hdrain, -⟩ | ⟨duration, x, hw, hwet, -⟩
    | ⟨target, x, hw, -, hwet, hsound, hcold, -⟩ | ⟨duration, hw, -⟩ <;> rw [State.startTests, hwork, hw] <;> dsimp only
  · rw [State.fillTests, if_neg (State.stepPrepared_fill hw hmore)]
    cases levelStop with
    | false => rfl
    | true => rw [hacc, hlevel rfl]; rfl
  · rw [State.drainTests, if_neg]
    rintro ⟨h0, hdry⟩
    rw [hacc] at hdry
    exact hdrain.elim (fun hne => hne h0) (fun hne => hne hdry)
  · rw [State.circulateTests, hacc, hwet]
  · rw [State.heatTests, hacc, hwet]
    dsimp only
    rw [hsampler]
    cases hstatus : s.sampler.temp.status with
    | sensorFault => exact absurd hstatus hsound
    | noneYet | noTable => rfl
    | valid =>
      dsimp only
      cases hvalue : s.sampler.temp.value with
      | none => rfl
      | some v => exact if_neg (Int.not_le.mpr (hcold v hstatus hvalue))

theorem State.runsWith_plain {outs : List Output} (hrun : s.runsWith h outs) :
    h.work.isPlain = true ∧ s.aboveCutoff h.work = false ∧ (h.work.isFill = true → s.headActive .dose = false) := by
  rcases hrun with ⟨target, levelStop, hw, hdose, -⟩ | ⟨runOn, hw, -⟩ | ⟨duration, x, hw, -⟩ | ⟨target, x, hw, hcut, -⟩
    | ⟨duration, hw, -⟩ <;> rw [hw]
  · exact ⟨rfl, rfl, fun _ => hdose⟩
  · exact ⟨rfl, rfl, nofun⟩
  · exact ⟨rfl, rfl, nofun⟩
  · exact ⟨rfl, decide_eq_false (Nat.not_lt.mpr hcut), nofun⟩
  · exact ⟨rfl, rfl, nofun⟩

/-- Table 6-1: the demands of a try that runs. -/
theorem State.enterKind_spec {outs : List Output} (hrun : s.runsWith h outs) {u : State} (hst : (u.lane .water).state ≠ .waiting) :
    (u.enterKind h.work).lane .water = u.lane .water ∧ (u.enterKind h.work).bystanders = u.bystanders
    ∧ (∀ o src, (u.enterKind h.work).demands o src = if o ∈ outs ∧ src = .water then true else u.demands o src) := by
  have henters (os : List Output) : (u.enterDemands .water os).lane .water = u.lane .water
      ∧ (u.enterDemands .water os).bystanders = u.bystanders
      ∧ (∀ o src, (u.enterDemands .water os).demands o src = if o ∈ os ∧ src = .water then true else u.demands o src) := by
    obtain ⟨hlane, hby, hdemands, -⟩ := u.enterDemands_water_spec os hst
    exact ⟨hlane, hby, hdemands⟩
  rcases hrun with ⟨_, _, hw, _, _, _, houts⟩ | ⟨_, hw, _, houts⟩ | ⟨_, _, hw, _, houts⟩ | ⟨_, _, hw, _, _, _, _, houts⟩
    | ⟨_, hw, houts⟩ <;> rw [hw, houts]
  · exact henters _
  · exact henters _
  · exact henters _
  · exact henters _
  · exact ⟨rfl, rfl, fun o src => (if_neg (fun ho => absurd ho.1 (List.not_mem_nil))).symm⟩

/-- R101: only a HEAT reads its temperature when it runs. -/
theorem State.runSetup_plain {u : State} {t : StepRec} (hq : (u.lane .water).queue = t :: rest) {w : Work} (hplain : w.isPlain = true) :
    ∃ t', t.read t' ∧ u.runSetup .water w = u.withLane .water { u.lane .water with queue := t' :: rest } := by
  have hsame : u = u.withLane .water { u.lane .water with queue := t :: rest } := by
    rw [← hq]
    rfl
  cases w with
  | heat target x =>
    rw [State.runSetup]
    dsimp only
    unfold State.heatReading
    split
    next temp _ _ => exact ⟨{ t with lastTemp := some temp, actual := temp.toNat }, rfl, State.modHead_of_queue hq _⟩
    all_goals exact ⟨t, rfl, hsame⟩
  | fill | drain | circulate | pause => exact ⟨t, rfl, hsame⟩
  | regenerate | autoOpen | dose => exact nomatch hplain

/-- R75: a try of the WATER lane that runs, or is paused at once by the open door `door`. -/
def State.waterRuns (s : State) (h : StepRec) (rest : List StepRec) (door : Bool) (t' : StepRec) : State :=
  let u := (s.startPrepared h rest).withLane .water { (s.startPrepared h rest).lane .water with queue := t' :: rest }
  if door then u.pauseAtStart .water false else u.enterKind h.work

theorem State.takeOutcome_run (hplain : h.work.isPlain = true) (door : Bool) :
    ∃ t', (s.stepPrepared h).read t'
      ∧ (s.startPrepared h rest).takeOutcome .water h.work door .run = s.waterRuns h rest door t' := by
  obtain ⟨-, hlane, -⟩ := State.startPrepared_spec (s := s) (h := h) (rest := rest)
  have hrunning : (s.startPrepared h rest).modLane .water (fun r => { r with state := .running, waitCause := none })
      = s.startPrepared h rest := by
    have hfixed : { (s.startPrepared h rest).lane .water with state := .running, waitCause := none }
        = (s.startPrepared h rest).lane .water := by rw [hlane]
    exact congrArg (fun r => (s.startPrepared h rest).withLane .water r) hfixed
  obtain ⟨t', hread, hsetup⟩ := State.runSetup_plain (u := s.startPrepared h rest) (t := s.stepPrepared h) (rest := rest)
    (by rw [hlane]) hplain
  refine ⟨t', hread, ?_⟩
  unfold State.takeOutcome State.runKind State.waterRuns
  dsimp only
  rw [hrunning, hsetup]

theorem State.waterRuns_spec {outs : List Output} (hrun : s.runsWith h outs) (door : Bool) (t' : StepRec) :
    (s.waterRuns h rest door t').guard.test = none
    ∧ (s.waterRuns h rest door t').guard.diverter = h.work.position.getD s.guard.diverter
    ∧ (∃ settle fromWait, (s.waterRuns h rest door t').lane .water = { s.lane .water with
        queue := t' :: rest, state := if door then .paused else .running, waitCause := none, running := 0, attemptDue := false,
        pauseDoor := door || (s.lane .water).pauseDoor, laneSettle := settle, pausedFromWait := fromWait })
    ∧ (∀ o src, src ≠ .test → (s.waterRuns h rest door t').demands o src
        = (s.demands o src || (decide (o ∈ outs ∧ src = .water) && !door))) := by
  obtain ⟨-, hlane, htest, -, hdiverter, hdemands⟩ := State.startPrepared_spec (s := s) (h := h) (rest := rest)
  cases door with
  | true =>
    refine ⟨htest, hdiverter, ⟨none, false, ?_⟩, fun o src hsrc => ?_⟩
    · refine Eq.trans (b := { (s.startPrepared h rest).lane .water with
        queue := t' :: rest, state := .paused, waitCause := none, pauseDoor := true, pausedFromWait := false, laneSettle := none })
        rfl ?_
      rw [hlane]
      rfl
    · rw [Bool.not_true, Bool.and_false, Bool.or_false]
      exact hdemands o src hsrc
  | false =>
    have hst : (((s.startPrepared h rest).withLane .water { (s.startPrepared h rest).lane .water with queue := t' :: rest }).lane
        .water).state ≠ .waiting := by
      change ((s.startPrepared h rest).lane .water).state ≠ .waiting
      rw [hlane]
      exact nofun
    obtain ⟨helane, hby, hedemands⟩ := State.enterKind_spec hrun hst
    refine ⟨(congrArg Bystanders.test hby).trans htest, (congrArg Bystanders.diverter hby).trans hdiverter,
      ⟨(s.lane .water).laneSettle, (s.lane .water).pausedFromWait, ?_⟩, fun o src hsrc => ?_⟩
    · refine helane.trans ?_
      refine Eq.trans (b := { (s.startPrepared h rest).lane .water with queue := t' :: rest }) rfl ?_
      rw [hlane]
      rfl
    · refine (hedemands o src).trans ?_
      have hkept : ((s.startPrepared h rest).withLane .water { (s.startPrepared h rest).lane .water with queue := t' :: rest }).demands
          o src = s.demands o src := hdemands o src hsrc
      rw [hkept]
      by_cases hin : o ∈ outs ∧ src = .water <;> simp [hin]

end

/-! ### A try that waits (R90, R92, R99, R101, R105, R107) -/

section
variable {s : State} {h : StepRec} {rest : List StepRec}

/-- R90: the head of the WATER lane takes a start wait. -/
def State.startWaits (s : State) (h : StepRec) : Prop :=
  (∃ target, h.work = .fill target true ∧ s.headActive .dose = false ∧ s.accepted .levelHigh = none
      ∧ (if h.started then h.count < h.countTarget else 0 < s.toCounts target))
    ∨ (∃ duration x, h.work = .circulate duration x ∧ s.accepted .levelLow = none)
    ∨ (∃ target x, h.work = .heat target x ∧ target ≤ s.heaterCutoff ∧ s.accepted .levelLow = none)
    ∨ (∃ force, h.work = .regenerate force ∧ (s.softener.pendingFlag || force) = true ∧ s.accepted .levelHigh ≠ some false)
    ∨ (h.work = .autoOpen ∧ s.autoOpenSetting = true ∧ (s.accepted .door = none
        ∨ s.accepted .door = some true ∧ (s.accepted .levelLow = none
          ∨ s.accepted .levelLow = some false ∧ s.energised .heater = true)))

theorem State.startWaits_work (hwait : s.startWaits h) : (∀ base a, h.work ≠ .dose base a) ∧ s.aboveCutoff h.work = false
    ∧ (h.work.isFill = true → s.headActive .dose = false) := by
  rcases hwait with ⟨target, hw, hdose, -⟩ | ⟨duration, x, hw, -⟩ | ⟨target, x, hw, hcut, -⟩ | ⟨force, hw, -⟩ | ⟨hw, -⟩ <;> rw [hw]
  · exact ⟨nofun, rfl, fun _ => hdose⟩
  · exact ⟨nofun, rfl, nofun⟩
  · exact ⟨nofun, decide_eq_false (Nat.not_lt.mpr hcut), nofun⟩
  · exact ⟨nofun, rfl, nofun⟩
  · exact ⟨nofun, rfl, nofun⟩

section
variable (htest : s.guard.test = none)
include htest

theorem State.startPrepared_untested : s.startPrepared h rest = ((s.tryStarted .water h rest).withLane .water
    { (s.tryStarted .water h rest).lane .water with queue := s.stepPrepared h :: rest }).setDiverter
      (h.work.position.getD s.guard.diverter) := by
  have hend : (s.tryStarted .water h rest).endTest = s.tryStarted .water h rest := State.endTest_none htest
  rw [State.startPrepared, hend]

theorem State.startWaits_tests (hwait : s.startWaits h) :
    (s.startPrepared h rest).startTests .water (s.stepPrepared h) = .wait := by
  have hwork := (s.stepPrepared_spec h).2.1
  have hacc (i : Input) : (s.startPrepared h rest).accepted i = s.accepted i :=
    State.accepted_of_surroundings (State.startPrepared_spec (s := s)).1 i
  have huntested := State.startPrepared_untested (h := h) (rest := rest) htest
  rcases hwait with ⟨target, hw, -, hlevel, hmore⟩ | ⟨duration, x, hw, hlevel⟩ | ⟨target, x, hw, -, hlevel⟩
    | ⟨force, hw, hneeded, hlevel⟩ | ⟨hw, hset, hlevels⟩ <;> rw [State.startTests, hwork, hw] <;> dsimp only
  · rw [State.fillTests, if_neg (State.stepPrepared_fill hw hmore), hacc, hlevel]
    rfl
  · rw [State.circulateTests, hacc, hlevel]
  · rw [State.heatTests, hacc, hlevel]
  · have hflag : (s.startPrepared h rest).softener = s.softener := by rw [huntested]; rfl
    rw [State.regenTests, hflag, if_neg (by rw [← Bool.not_or, hneeded]; decide), hacc, if_neg hlevel]
  · have hon : (s.stepPrepared h).autoOpenOn = true := by
      rw [State.stepPrepared, hw]
      exact hset
    have henergised : (s.startPrepared h rest).energised .heater = s.energised .heater := by rw [huntested]; rfl
    rw [State.autoOpenTests, if_neg (by rw [hon]; decide), hacc]
    rcases hlevels with hdoor | ⟨hdoor, hlow | ⟨hlow, hhot⟩⟩ <;> rw [hdoor] <;> dsimp only
    · rw [hacc, hlow]
    · rw [hacc, hlow]
      dsimp only
      rw [henergised, if_pos hhot]

end

end

end Sys2Proof.Machine
end

-- ==== A try of the WATER lane that succeeds at once, and the hand-over of a regeneration (R77, R105, R113, R114) ====
section
namespace Sys2Proof.Machine

/-! ### A step that is at its end when it starts (R77) -/

section
variable {s : State} {h : StepRec} {rest : List StepRec}

theorem State.abandonRegen_refVolume (s : State) : s.abandonRegen.engine.refVolume = s.engine.refVolume := by
  unfold State.abandonRegen
  split
  · rfl
  · exact s.withdrawAll_refVolume .softener

theorem State.tryEnd_refVolume (hst : (s.lane .water).state ≠ .waiting) (hq : (s.lane .water).queue = h :: rest)
    (hw : ∀ base a, h.work ≠ .dose base a) : (s.tryEnd .water).engine.refVolume = s.engine.refVolume := by
  have hlane := State.withdrawAll_lane (State.autoOpenWaits_of_state s hst) .water .water
  have hhead : (s.withdrawAll .water).head .water = some h := State.head_of_queue (rest := rest) (by rw [hlane]; exact hq)
  have htold : ((s.withdrawAll .water).tellTryEnd .water).engine.refVolume = (s.withdrawAll .water).engine.refVolume := by
    rw [State.tellTryEnd, hhead]
    dsimp only
    cases hk : h.work with
    | regenerate force => exact State.abandonRegen_refVolume _
    | autoOpen => exact congrArg Engine.refVolume (State.rodTryEnd_engine _)
    | dose base a => exact absurd hk (hw base a)
    | fill | drain | circulate | heat | pause => rfl
  exact htold.trans (s.withdrawAll_refVolume .water)

theorem State.succeed_some_refVolume (hst : (s.lane .water).state ≠ .waiting) (hq : (s.lane .water).queue = h :: rest)
    (hw : ∀ base a, h.work ≠ .dose base a) (flags : ResultFlags) (v : Nat) :
    (s.succeed .water flags (some v)).engine.refVolume = if h.work.isFill then some (fit32 v) else s.engine.refVolume := by
  have hmod := State.modHead_lane hq (fun t => { t with actual := fit32 v })
  have hst' : ((s.modHead .water (fun t => { t with actual := fit32 v })).lane .water).state ≠ .waiting := by
    rw [hmod]
    exact hst
  have hq' : ((s.modHead .water (fun t => { t with actual := fit32 v })).lane .water).queue = { h with actual := fit32 v } :: rest := by
    rw [hmod]
  have hlane := State.tryEnd_water _ hst'
  rw [State.succeed_some, State.succeed, State.concludeSuccess_refVolume (State.head_of_queue (rest := rest) (by rw [hlane]; exact hq')),
    State.tryEnd_refVolume hst' hq' hw]
  rfl

/-- R77, R92, R97, R101, R105 and R107: the head of the WATER lane is at its end when it starts. -/
def State.startEnds (s : State) (h : StepRec) (flags : ResultFlags) (actual : Nat) : Prop :=
  (∃ target levelStop, h.work = .fill target levelStop ∧ s.headActive .dose = false ∧ h.started = true
      ∧ h.countTarget ≤ h.count ∧ flags = ResultFlags.clear ∧ actual = s.toMl h.count)
    ∨ (∃ target, h.work = .fill target true ∧ s.headActive .dose = false ∧ s.accepted .levelHigh = some true
      ∧ (if h.started then h.count < h.countTarget else 0 < s.toCounts target)
      ∧ flags = { ResultFlags.clear with short := true } ∧ actual = if h.started then s.toMl h.count else 0)
    ∨ (h.work = .drain 0 ∧ s.accepted .levelLow = some false ∧ flags = ResultFlags.clear ∧ actual = 0)
    ∨ (∃ target x v, h.work = .heat target x ∧ target ≤ s.heaterCutoff ∧ s.accepted .levelLow = some true
      ∧ s.sampler.temp.status = .valid ∧ s.sampler.temp.value = some v ∧ (target : Int) ≤ v
      ∧ flags = ResultFlags.clear ∧ actual = v.toNat)
    ∨ (h.work = .regenerate false ∧ s.softener.pendingFlag = false
      ∧ flags = { ResultFlags.clear with notNeeded := true } ∧ actual = 0)
    ∨ (h.work = .autoOpen ∧ actual = 0 ∧ (s.autoOpenSetting = false ∧ flags = { ResultFlags.clear with disabled := true }
        ∨ s.autoOpenSetting = true ∧ s.accepted .door = some false
          ∧ flags = { ResultFlags.clear with alreadyOpen := true }))

theorem State.startEnds_work {flags : ResultFlags} {actual : Nat} (hend : s.startEnds h flags actual) :
    (∀ base a, h.work ≠ .dose base a) ∧ s.aboveCutoff h.work = false
    ∧ (h.work.isFill = true → s.headActive .dose = false) := by
  rcases hend with ⟨_, _, hw, hdose, -⟩ | ⟨_, hw, hdose, -⟩ | ⟨hw, -⟩ | ⟨_, _, _, hw, hcut, -⟩ | ⟨hw, -⟩ | ⟨hw, -⟩ <;> rw [hw]
  · exact ⟨nofun, rfl, fun _ => hdose⟩
  · exact ⟨nofun, rfl, fun _ => hdose⟩
  · exact ⟨nofun, rfl, nofun⟩
  · exact ⟨nofun, decide_eq_false (Nat.not_lt.mpr hcut), nofun⟩
  · exact ⟨nofun, rfl, nofun⟩
  · exact ⟨nofun, rfl, nofun⟩

theorem State.toMl_of_surroundings {s t : State} (hsur : t.surroundings = s.surroundings) (n : Nat) : t.toMl n = s.toMl n := by
  rw [State.toMl, State.kCounts, State.fieldNat_of_surroundings hsur]
  rfl

theorem State.startEnds_tests {flags : ResultFlags} {actual : Nat} (hend : s.startEnds h flags actual) (htest : s.guard.test = none) :
    (s.startPrepared h rest).startTests .water (s.stepPrepared h) = .success flags (some actual) := by
  obtain ⟨hsur, hlane, -, hsampler, -⟩ := State.startPrepared_spec (s := s) (h := h) (rest := rest)
  have hwork := (s.stepPrepared_spec h).2.1
  have hacc := State.accepted_of_surroundings hsur
  have huntested := State.startPrepared_untested (h := h) (rest := rest) htest
  have hcount := fun hs => ((s.stepPrepared_counts h).2.1 hs)
  rcases hend with ⟨target, levelStop, hw, -, hs, hfull, hflags, hactual⟩ | ⟨target, hw, -, hhigh, hmore, hflags, hactual⟩
    | ⟨hw, hdry, hflags, hactual⟩ | ⟨target, x, v, hw, -, hwet, hvalid, hvalue, hhot, hflags, hactual⟩
    | ⟨hw, hflag, hflags, hactual⟩ | ⟨hw, hactual, hauto⟩ <;> rw [State.startTests, hwork, hw] <;> dsimp only
  · obtain ⟨hc, htarget, -⟩ := hcount hs
    rw [State.fillTests, hc, htarget, if_pos hfull, State.toMl_of_surroundings hsur, hflags, hactual]
  · have hml : (s.startPrepared h rest).toMl (s.stepPrepared h).count = actual := by
      rw [State.toMl_of_surroundings hsur, hactual]
      cases hs : h.started with
      | true => rw [(hcount hs).1]; rfl
      | false =>
        rw [((s.stepPrepared_counts h).2.2 target true hw hs).1, State.toMl, Nat.zero_mul, Nat.zero_div]
        rfl
    rw [State.fillTests, if_neg (State.stepPrepared_fill hw hmore), hacc, hhigh, hml, hflags]
    rfl
  · rw [State.drainTests, hacc, hdry, hlane, hflags, hactual]
    rfl
  · rw [State.heatTests, hacc, hwet]
    dsimp only
    rw [hsampler, hvalid, hvalue, hflags, hactual]
    exact if_pos hhot
  · have hsoftener : (s.startPrepared h rest).softener = s.softener := by rw [huntested]; rfl
    rw [State.regenTests, hsoftener, hflag, hflags, hactual]
    rfl
  · have hon : (s.stepPrepared h).autoOpenOn = s.autoOpenSetting := by rw [State.stepPrepared, hw]
    rw [State.autoOpenTests, hon, hacc, hactual]
    rcases hauto with ⟨hset, hflags⟩ | ⟨hset, hdoor, hflags⟩
    · rw [hset, hflags]
      rfl
    · rw [hset, hdoor, hflags]
      rfl

end

/-! ### The hand-over of a regeneration (R105, R113, R114) -/

/-- R111 and R112: the Softener's record after the debit of `v` mL. -/
def State.debited (s : State) (v : Nat) : Softener :=
  { s.softener with
    remaining := if s.softener.valid then s.softener.remaining - (s.inletHardness - s.residual) * v / 100
      else s.softener.remaining,
    pendingFlag := s.softener.pendingFlag || (s.softener.valid
      && decide ((s.softener.remaining - (s.inletHardness - s.residual) * v / 100) * 10000 / s.cFull < s.regenThreshold)),
    tally := if s.softener.valid then s.softener.tally
      else min 4294967295 (s.softener.tally + s.inletHardness * v / 100) }

theorem State.pendingTest_spec (s : State) : ∃ ports, s.pendingTest = (s.withSoftener { s.softener with
    pendingFlag := s.softener.pendingFlag || decide (s.resinBp < s.regenThreshold) }).withPorts ports := by
  unfold State.pendingTest
  split
  next hnow =>
    obtain ⟨hclear, hlow⟩ := (Bool.and_eq_true ..).mp hnow
    rw [hlow, Bool.or_true]
    exact ⟨_, rfl⟩
  next hquiet =>
    have hsame : (s.softener.pendingFlag || decide (s.resinBp < s.regenThreshold)) = s.softener.pendingFlag := by
      cases hp : s.softener.pendingFlag with
      | true => rfl
      | false => simpa [hp] using hquiet
    rw [hsame]
    exact ⟨s.ports, rfl⟩

theorem State.debited_valid {s : State} (hv : s.softener.valid = true) (v : Nat) : s.debited v = { s.softener with
    remaining := s.softener.remaining - (s.inletHardness - s.residual) * v / 100,
    pendingFlag := s.softener.pendingFlag
      || decide ((s.softener.remaining - (s.inletHardness - s.residual) * v / 100) * 10000 / s.cFull < s.regenThreshold) } := by
  simp [State.debited, hv]

theorem State.debited_invalid {s : State} (hv : ¬ s.softener.valid = true) (v : Nat) : s.debited v = { s.softener with
    tally := min 4294967295 (s.softener.tally + s.inletHardness * v / 100) } := by
  simp [State.debited, Bool.eq_false_iff.mpr hv]

/-- R111: a debit changes the Softener's record and the ports. -/
theorem State.debit_spec (s : State) (counts : Nat) :
    ∃ ports, s.debit counts = (s.withSoftener (s.debited (s.toMl counts))).withPorts ports := by
  unfold State.debit
  dsimp only
  split
  next hv =>
    obtain ⟨ports, hports⟩ := State.pendingTest_spec (s.withSoftener { s.softener with
      remaining := s.softener.remaining - (s.inletHardness - s.residual) * s.toMl counts / 100 })
    refine ⟨ports, hports.trans ?_⟩
    rw [State.debited_valid hv]
    rfl
  next hv =>
    refine ⟨s.ports, ?_⟩
    rw [State.debited_invalid hv, sat32, Nat.min_comm]
    rfl

/-- R113 and R114: the Softener's record as a regeneration is handed over. -/
def State.handedOver (s : State) : Softener :=
  { s.debited (s.toMl s.pendingCount) with
    exempt := 0, phase := .brine, brine := 0, soak := 0, rinse := 0, brineTarget := s.toCounts (s.fieldNat 13),
    rinseTarget := s.toCounts (s.fieldNat 15) }

theorem State.regenHandOver_spec {s : State} {t : StepRec} {rest : List StepRec} (hq : (s.lane .water).queue = t :: rest) :
    ∃ ports, s.regenHandOver = ((s.withSoftener s.handedOver).withPorts ports).withLane .water
      { s.lane .water with queue := { t with actual := 0 } :: rest } := by
  obtain ⟨ports, hports⟩ := s.debit_spec s.pendingCount
  refine ⟨ports, ?_⟩
  unfold State.regenHandOver
  rw [hports]
  exact State.modHead_of_queue (s := (s.withSoftener s.handedOver).withPorts ports) hq _

/-- The Softener apart from its no-flow window. -/
def Softener.unwindowed (f : Softener) : Softener := { f with noFlow := none }

theorem Softener.unwindowed_of_steady {f g : Softener} (hsteady : f.steady = g.steady) (hexempt : f.exempt = g.exempt) :
    f.unwindowed = g.unwindowed :=
  calc f.unwindowed = { f.steady with exempt := f.exempt } := rfl
    _ = { g.steady with exempt := g.exempt } := by rw [hsteady, hexempt]

theorem State.outputEvent_exempt {s : State} (h : s.softener.phase ≠ .none) (h0 : s.softener.exempt = 0) (o : Output) (on : Bool) :
    (s.outputEvent o on).softener.exempt = 0 := by
  by_cases ho : o = .inlet
  · subst ho
    unfold State.outputEvent
    dsimp only
    split
    · unfold State.inletOpening State.startNoFlow
      dsimp only
      (repeat' split) <;> exact h0
    · have hmark : ((s.checkOutput .inlet on).modTime (fun t => { t with mark := t.flow })).softener.phase ≠ .none := h
      unfold State.inletClosing
      dsimp only
      rw [State.stopNoFlow, State.strayClosing_softener, State.cycleWater, State.cycleEvent_softener, State.softenerClosing]
      rw [if_neg hmark]
      rfl
  · rw [(s.outputEvent_waterless ho on).2.1]
    exact h0

/-- R113: the evaluation of the outputs during a regeneration with no exempt count changes the no-flow window alone. -/
theorem State.evaluate_unwindowed {s : State} (h : s.softener.phase ≠ .none) (h0 : s.softener.exempt = 0) :
    s.evaluate.softener.unwindowed = s.softener.unwindowed :=
  (State.evaluate_keeps_of (fun u => u.softener.unwindowed) (fun u => u.softener.phase ≠ .none ∧ u.softener.exempt = 0)
    (fun _ _ hu => ⟨hu, rfl⟩)
    (fun u o on ⟨hu, hu0⟩ => by
      have hsteady := State.outputEvent_steady hu o on
      have hexempt := State.outputEvent_exempt hu hu0 o on
      exact ⟨⟨by rwa [State.phase_of_steady hsteady], hexempt⟩, Softener.unwindowed_of_steady hsteady (hexempt.trans hu0.symm)⟩)
    s ⟨h, h0⟩).2

theorem State.enterDemands_unwindowed {s : State} (h : s.softener.phase ≠ .none) (h0 : s.softener.exempt = 0) (src : Source)
    (os : List Output) : (s.enterDemands src os).softener.unwindowed = s.softener.unwindowed := by
  have hput := State.putDemands_keeps State.softener (fun _ _ _ _ => rfl) s src true os
  rw [State.enterDemands, State.evaluate_unwindowed (by rwa [hput]) (by rwa [hput]), hput]

section
variable {s : State} {h : StepRec} {rest : List StepRec} (htest : s.guard.test = none)
include htest

theorem State.startPrepared_handedOver : (s.startPrepared h rest).handedOver = s.handedOver := by
  rw [State.startPrepared_untested htest]
  rfl

/-- R114: a REGENERATE that is handed over, and enters its demands or is paused by the open door. -/
theorem State.takeOutcome_handsOver (door : Bool) {force : Bool} :
    ∃ u : State, (s.startPrepared h rest).takeOutcome .water (.regenerate force) door .run
        = (if door then u.pauseAtStart .water false else u.enterDemands .softener [.inlet, .regen])
      ∧ u.surroundings = s.surroundings ∧ u.softener = s.handedOver ∧ (∀ o src, u.demands o src = s.demands o src)
      ∧ u.lane .water = { s.lane .water with
          queue := { s.stepPrepared h with actual := 0 } :: rest, state := .running, waitCause := none, running := 0,
          attemptDue := false } := by
  obtain ⟨hsur, hlane, -⟩ := State.startPrepared_spec (s := s) (h := h) (rest := rest)
  have hrunning : (s.startPrepared h rest).modLane .water (fun r => { r with state := .running, waitCause := none })
      = s.startPrepared h rest := by
    have hfixed : { (s.startPrepared h rest).lane .water with state := .running, waitCause := none }
        = (s.startPrepared h rest).lane .water := by rw [hlane]
    exact congrArg (fun r => (s.startPrepared h rest).withLane .water r) hfixed
  obtain ⟨ports, hports⟩ := State.regenHandOver_spec (s := s.startPrepared h rest) (t := s.stepPrepared h) (rest := rest) (by rw [hlane])
  refine ⟨(s.startPrepared h rest).regenHandOver, ?_, ?_, ?_, fun o src => ?_, ?_⟩
  · unfold State.takeOutcome State.runKind
    dsimp only
    rw [hrunning]
    rfl
  · exact (State.regenHandOver_surroundings _).trans hsur
  · rw [hports]
    exact State.startPrepared_handedOver htest
  · rw [hports, State.startPrepared_untested htest]
    rfl
  · rw [hports]
    refine Eq.trans (b := { (s.startPrepared h rest).lane .water with queue := { s.stepPrepared h with actual := 0 } :: rest }) rfl ?_
    rw [hlane]

theorem State.regenTests_hands {force : Bool} (hw : h.work = .regenerate force) (hneeded : (s.softener.pendingFlag || force) = true)
    (hlow : s.accepted .levelHigh = some false) :
    (s.startPrepared h rest).startTests .water (s.stepPrepared h) = .run := by
  have hacc := State.accepted_of_surroundings (State.startPrepared_spec (s := s) (h := h) (rest := rest)).1 .levelHigh
  have hflag : (s.startPrepared h rest).softener = s.softener := by
    rw [State.startPrepared_untested htest]
    rfl
  rw [State.startTests, (s.stepPrepared_spec h).2.1, hw]
  dsimp only
  rw [State.regenTests, hflag, if_neg (by rw [← Bool.not_or, hneeded]; decide), hacc, if_pos hlow]

end

/-! ### The obligation -/

/-- Settles O38: a try of the WATER lane by the outcome of its kind's tests, which runs, waits, succeeds, or hands a regeneration over. -/
theorem startAttemptBeginsTry : Obligations.StartAttemptBeginsTry := by
  refine ⟨fun h rest outs s hr hst hdue hq hs hf hl hrun => ?_, fun h rest s hr ha htest hwait => ?_,
    fun h rest flags actual s hr ha htest hend => ?_, fun h rest force v left s hr ha htest hw hneeded hlow hv hleft => ?_⟩
  · obtain ⟨hplain, hcut, hfill⟩ := State.runsWith_plain hrun
    have hnodose : ∀ base a, h.work ≠ .dose base a := fun base a hw => by rw [hw] at hplain; exact nomatch hplain
    obtain ⟨hsur, -, -, hsampler, -⟩ := State.startPrepared_spec (s := s) (h := h) (rest := rest)
    have hbegin := State.beginTry_water hq hnodose
    rw [State.runsWith_tests hrun hsur hsampler] at hbegin
    obtain ⟨t', hread, htaken⟩ := State.takeOutcome_run (s := s) (rest := rest) hplain (h.work.doorPauses && !s.doorClosed)
    obtain ⟨htest, hdiverter, ⟨settle, fromWait, hlane⟩, hdemands⟩ := State.waterRuns_spec (rest := rest) hrun
      (h.work.doorPauses && !s.doorClosed) t'
    obtain ⟨hid, hwork, hstatus, hstarted, htries, -⟩ := s.stepPrepared_spec h
    obtain ⟨hrunOn, hcounts, htarget⟩ := s.stepPrepared_counts h
    refine ⟨_, exec_startWater hr ⟨hst, hdue, hq, hs, hf, hl⟩ hcut hfill, State.beginTry_surroundings _ _ _, State.beginTry_settled _ _ _, ?_⟩
    rw [hbegin, htaken, hlane]
    refine ⟨htest, rfl, rfl, rfl, rfl, rfl, fun o => ?_, fun o src hwater htestsrc => ?_, fun d x hk => ?_, t', rfl, ?_⟩
    · rw [hdemands o .water nofun]
      simp
    · rw [hdemands o src htestsrc]
      simp [hwater]
    · rw [hdiverter]
      rcases hk with hk | hk <;> rw [hk] <;> rfl
    · rw [hread]
      exact ⟨hid, hwork, hstatus, hstarted, htries, hrunOn, hcounts, htarget⟩
  · obtain ⟨hnodose, hcut, hfill⟩ := State.startWaits_work hwait
    have hq := ha.2.2.1
    have hbegin := State.beginTry_water hq hnodose
    rw [State.startWaits_tests htest hwait] at hbegin
    obtain ⟨hid, hwork, hstatus, hstarted, htries, hresult, -⟩ := s.stepPrepared_spec h
    refine ⟨_, exec_startWater hr ha hcut hfill, State.beginTry_surroundings _ _ _, ?_⟩
    rw [hbegin, State.startPrepared_untested htest]
    have hpos (d : Diverter) (x : Diverter) (hk : (∃ n, h.work = .circulate n x) ∨ (∃ n, h.work = .heat n x)) :
        h.work.position.getD d = x := by
      rcases hk with ⟨n, hk⟩ | ⟨n, hk⟩ <;> rw [hk] <;> rfl
    cases hdoor : (h.work.doorPauses && !s.doorClosed) with
    | true =>
      obtain ⟨hpauses, hopen⟩ := (Bool.and_eq_true ..).mp hdoor
      refine ⟨fun _ _ => ⟨rfl, rfl, rfl⟩, fun hno => ?_, rfl, rfl, rfl, rfl, rfl, rfl, rfl, fun d x hk => ?_,
        _, rfl, hid, hwork, hstatus, hstarted, htries, hresult⟩
      · rcases hno with hno | hno
        · exact nomatch hno.symm.trans hpauses
        · rw [hno] at hopen
          exact nomatch hopen
      · exact hpos _ x (hk.imp (fun hk => ⟨d, hk⟩) (fun hk => ⟨d, hk⟩))
    | false =>
      refine ⟨fun hpauses hopen => ?_, fun _ => ⟨rfl, rfl⟩, rfl, rfl, rfl, rfl, rfl, rfl, rfl, fun d x hk => ?_,
        _, rfl, hid, hwork, hstatus, hstarted, htries, hresult⟩
      · rw [hpauses, hopen] at hdoor
        exact nomatch hdoor
      · exact hpos _ x (hk.imp (fun hk => ⟨d, hk⟩) (fun hk => ⟨d, hk⟩))
  · obtain ⟨hnodose, hcut, hfill⟩ := State.startEnds_work hend
    have hq := ha.2.2.1
    obtain ⟨hsur, hlane, -⟩ := State.startPrepared_spec (s := s) (h := h) (rest := rest)
    have hbegin := State.beginTry_water hq hnodose
    rw [State.startEnds_tests hend htest, State.takeOutcome_success] at hbegin
    obtain ⟨hid, hwork, hstatus, hstarted, -, -, hhold⟩ := s.stepPrepared_spec h
    have hrunning : ((s.startPrepared h rest).lane .water).state ≠ .waiting := by
      rw [hlane]
      exact nofun
    have hqueue : ((s.startPrepared h rest).lane .water).queue = s.stepPrepared h :: rest := by rw [hlane]
    have hdone := State.succeed_some_lane hrunning hqueue flags actual
    have hvolume := State.succeed_some_refVolume hrunning hqueue (by rw [hwork]; exact hnodose) flags actual
    rw [hwork] at hvolume
    have hbefore : (s.startPrepared h rest).engine.refVolume = s.engine.refVolume := by
      rw [State.startPrepared_untested htest]
      rfl
    refine ⟨_, exec_startWater hr ha hcut hfill, State.beginTry_surroundings _ _ _, ?_⟩
    rw [hbegin, hdone, hvolume, hlane, State.now_of_surroundings hsur, hbefore]
    refine ⟨State.succeed_settled _ _ _ _, fun o => State.succeed_withdraws _ .water _ _ o, rfl, ?_, rfl, _, rfl, hid, hwork, rfl,
      hstarted, rfl, rfl, rfl, rfl⟩
    rw [LaneRec.succeeded]
    dsimp only
    rw [hhold]
  · have hcut : s.aboveCutoff h.work = false := by rw [hw]; rfl
    have hq := ha.2.2.1
    have hbegin := State.beginTry_water hq (by rw [hw]; exact nofun)
    obtain ⟨u, htaken, husur, husoftener, hudemands, hulane⟩ := State.takeOutcome_handsOver (h := h) (rest := rest) htest
      (!s.doorClosed) (force := force)
    rw [State.regenTests_hands htest hw hneeded hlow, hw, show (Work.regenerate force).doorPauses = true from rfl, Bool.true_and,
      htaken] at hbegin
    obtain ⟨hid, hwork, hstatus, hstarted, htries, -⟩ := s.stepPrepared_spec h
    have hphase : u.softener.phase ≠ .none := by rw [husoftener]; exact nofun
    have hexempt : u.softener.exempt = 0 := by rw [husoftener]; rfl
    have hsoftener (f : Softener) (hf : f.unwindowed = s.handedOver.unwindowed) : f = { s.softener with
        phase := .brine, brine := 0, soak := 0, rinse := 0, exempt := 0, noFlow := f.noFlow,
        brineTarget := s.toCounts (s.fieldNat 13), rinseTarget := s.toCounts (s.fieldNat 15),
        remaining := if s.softener.valid then left else s.softener.remaining,
        pendingFlag := s.softener.pendingFlag
          || (s.softener.valid && decide (left * 10000 / s.cFull < s.regenThreshold)),
        tally := if s.softener.valid then s.softener.tally
                 else min 4294967295 (s.softener.tally + s.inletHardness * v / 100) } := by
      subst hv hleft
      calc f = { f.unwindowed with noFlow := f.noFlow } := rfl
        _ = { s.handedOver.unwindowed with noFlow := f.noFlow } := by rw [hf]
        _ = _ := rfl
    refine ⟨_, exec_startWater hr ha hcut (by rw [hw]; exact nofun), State.beginTry_surroundings _ _ _, ?_⟩
    rw [hbegin]
    cases hclosed : s.doorClosed with
    | false =>
      rw [Bool.not_false, if_pos rfl]
      refine ⟨hsoftener _ (congrArg Softener.unwindowed husoftener), rfl, fun o src => ?_, { s.stepPrepared h with actual := 0 }, ?_,
        hid, hwork, hstatus, hstarted, rfl, htries⟩
      · rw [Bool.false_and, Bool.or_false]
        exact hudemands o src
      · exact congrArg LaneRec.queue hulane
    | true =>
      have hst : (u.lane .water).state ≠ .waiting := by
        rw [hulane]
        exact nofun
      have hlane := State.lane_eq_of_lanes .water (State.enterDemands_lanes u .softener [.inlet, .regen] (State.autoOpenWaits_of_state u hst))
      rw [Bool.not_true, if_neg Bool.false_ne_true]
      refine ⟨hsoftener _ ?_, ?_, fun o src => ?_, { s.stepPrepared h with actual := 0 }, ?_,
        hid, hwork, hstatus, hstarted, rfl, htries⟩
      · exact (State.enterDemands_unwindowed hphase hexempt _ _).trans (congrArg Softener.unwindowed husoftener)
      · rw [hlane, hulane]
        rfl
      · rw [State.enterDemands_demands, hudemands]
        by_cases hin : o ∈ [Output.inlet, .regen] ∧ Source.softener = src
        · obtain ⟨hin, rfl⟩ := hin
          simp [hin]
        · rw [if_neg hin, Bool.true_and, decide_eq_false fun hsrc => hin ⟨hsrc.2, hsrc.1.symm⟩, Bool.or_false]
      · rw [hlane, hulane]

end Sys2Proof.Machine
end

-- ==== The retry timer and the end of a pause (R78, R81, R120, R131, R135) ====
section
namespace Sys2Proof.Machine

/-! ### What acts elsewhere leave of a WATER lane that does not wait -/

/-- `t` is `s` as far as a WATER lane at work goes: its record, its dry window, and a regeneration apart from its inlet's windows. -/
def State.waterKept (s t : State) : Prop :=
  t.lane .water = s.lane .water ∧ t.engine.waterDry = s.engine.waterDry
  ∧ (s.softener.phase ≠ .none → t.softener.steady = s.softener.steady)

theorem State.waterKept_refl (s : State) : s.waterKept s := ⟨rfl, rfl, fun _ => rfl⟩

theorem State.waterKept_trans {s t u : State} (h : s.waterKept t) (h' : t.waterKept u) : s.waterKept u := by
  obtain ⟨hlane, hdry, hsteady⟩ := h
  obtain ⟨hlane', hdry', hsteady'⟩ := h'
  refine ⟨hlane'.trans hlane, hdry'.trans hdry, fun hphase => ?_⟩
  have hkept := hsteady hphase
  exact (hsteady' (by rwa [State.phase_of_steady hkept])).trans hkept

theorem State.outputEvent_waterDry {s : State} (h : s.autoOpenWaits = false) (o : Output) (on : Bool) :
    (s.outputEvent o on).engine.waterDry = s.engine.waterDry := by
  cases o
  case inlet =>
    unfold State.outputEvent
    dsimp only
    split
    · unfold State.inletOpening State.startNoFlow; dsimp only; (repeat' split) <;> rfl
    · unfold State.inletClosing State.softenerClosing State.debit State.pendingTest State.cycleWater State.cycleEvent
        State.strayClosing
      dsimp only
      (repeat' split) <;> rfl
  case heater =>
    have hoff : (s.checkOutput .heater on).autoOpenHeater = s.checkOutput .heater on := State.autoOpenHeater_of_not _ h
    unfold State.outputEvent State.heaterEvent State.extendGuard
    dsimp only
    rw [hoff]
    (repeat' split) <;> rfl
  case doseD => exact congrArg Engine.waterDry (State.modDose_engine _ _)
  case doseR => exact congrArg Engine.waterDry (State.modDose_engine _ _)
  all_goals rfl

theorem State.evaluate_waterDry {s : State} (h : s.autoOpenWaits = false) : s.evaluate.engine.waterDry = s.engine.waterDry :=
  (State.evaluate_keeps_of (fun u => u.engine.waterDry) (fun u => u.autoOpenWaits = false)
    (fun _ _ hu => ⟨(State.autoOpenWaits_congr rfl).trans hu, rfl⟩)
    (fun u o on hu => ⟨(State.autoOpenWaits_congr (u.outputEvent_lanes o on hu)).trans hu, State.outputEvent_waterDry hu o on⟩)
    s h).2

section
variable {s : State} (hst : (s.lane .water).state ≠ .waiting)
include hst

theorem State.evaluate_waterKept : s.waterKept s.evaluate := by
  have hwaits := State.autoOpenWaits_of_state s hst
  exact ⟨State.lane_eq_of_lanes .water (s.evaluate_lanes hwaits), State.evaluate_waterDry hwaits, State.evaluate_steady⟩

theorem State.putDemands_waterKept (src : Source) (v : Bool) (os : List Output) : s.waterKept (s.putDemands src v os).evaluate := by
  have hlane : (s.putDemands src v os).lane .water = s.lane .water := by rw [State.lane, State.putDemands_lanes]; rfl
  have hput : s.waterKept (s.putDemands src v os) := by
    refine ⟨hlane, congrArg Engine.waterDry (State.putDemands_lanes s src v os), fun _ => ?_⟩
    rw [State.putDemands_keeps State.softener (fun _ _ _ _ => rfl)]
  exact State.waterKept_trans hput (State.evaluate_waterKept (by rw [hlane]; exact hst))

theorem State.endTest_waterKept : s.waterKept s.endTest := by
  unfold State.endTest
  split
  · exact s.waterKept_refl
  next o _ => exact State.evaluate_waterKept (s := (s.withGuard { s.guard with test := none, testTimer := none }).putDemand .test false o) hst

end

/-! ### The end of a pause (R81) -/

/-- R81: the part as a pause of a lane that was RUNNING is over, before its step resumes. -/
def State.pauseOver (s : State) (l : Lane) : State := ((s.withLane l (s.lane l).unpaused).endTest).redivert l

section
variable {s : State} {l : Lane} {h : StepRec} {rest : List StepRec}

theorem State.pauseEnds_resumes (hwait : (s.lane l).pausedFromWait = false) (hq : ((s.pauseOver l).lane l).queue = h :: rest) :
    s.pauseEnds l = (s.pauseOver l).resumeKind h := by
  have hmod : s.modLane l (fun r => { r with
      laneSettle := none, pausedFromWait := false, state := .running, waitCause := none }) = s.withLane l (s.lane l).unpaused := rfl
  unfold State.pauseEnds
  simp only [hwait, Bool.false_eq_true, if_false]
  rw [hmod, show ((s.withLane l (s.lane l).unpaused).endTest.redivert l).head l = some h from State.head_of_queue hq,
    State.pauseOver]

theorem State.redivert_of_head {u : State} (hh : u.head l = some h) :
    u.redivert l = u.setDiverter (h.work.position.getD u.guard.diverter) := by
  rw [State.redivert, hh]
  dsimp only
  cases h.work <;> rfl

theorem exec_retry (hr : s.resetHeld = false) (hst : (s.lane l).state = .retryWait) (hdue : s.due (s.lane l).retry = true) :
    exec (.retryTimerExpiry l) s = .next (s.withLane l
      { s.lane l with state := .ready, waitCause := none, retry := none, attemptDue := false }) := by
  refine (exec_event rfl hr).trans ?_
  rw [if_pos ⟨hst, hdue⟩]
  rfl

end

section
variable {s : State} {h : StepRec} {rest : List StepRec} (hq : (s.lane .water).queue = h :: rest)
include hq

/-- R49 and R81: what the end of a pause of the WATER lane changes before its step resumes. -/
theorem State.pauseOver_water : (s.pauseOver .water).surroundings = s.surroundings
    ∧ (s.pauseOver .water).lane .water = (s.lane .water).unpaused
    ∧ (s.pauseOver .water).guard.test = none
    ∧ (s.pauseOver .water).guard.diverter = h.work.position.getD s.guard.diverter
    ∧ (s.pauseOver .water).engine.waterDry = s.engine.waterDry
    ∧ (s.softener.phase ≠ .none → (s.pauseOver .water).softener.steady = s.softener.steady)
    ∧ (∀ o src, src ≠ .test → (s.pauseOver .water).demands o src = s.demands o src)
    ∧ (s.settled = true → (s.pauseOver .water).settled = true) := by
  have hunpaused : (s.withLane .water (s.lane .water).unpaused).lane .water = (s.lane .water).unpaused := State.withLane_lane s .water _
  have hst : ((s.withLane .water (s.lane .water).unpaused).lane .water).state ≠ .waiting := by
    rw [hunpaused]
    exact nofun
  obtain ⟨hlane, htest, -, hdemands, hsettled⟩ := (s.withLane .water (s.lane .water).unpaused).endTest_spec hst
  obtain ⟨-, hdry, hsteady⟩ := State.endTest_waterKept hst
  have hdiverter := (s.withLane .water (s.lane .water).unpaused).endTest_diverter
  have hhead : (s.withLane .water (s.lane .water).unpaused).endTest.head .water = some h :=
    State.head_of_queue (rest := rest) (by rw [hlane, hunpaused]; exact hq)
  rw [State.pauseOver, State.redivert_of_head hhead, hdiverter]
  exact ⟨State.endTest_surroundings _, hlane.trans hunpaused, htest, rfl, hdry, hsteady, hdemands, hsettled⟩

end

/-! ### The resume of a step of the WATER lane (Table 6-1, R99, R101, R120) -/

/-- Table 6-1: the head of the WATER lane resumes with the demands `outs`. -/
def State.resumesWith (s : State) (h : StepRec) (outs : List Output) : Prop :=
  (∃ target levelStop, h.work = .fill target levelStop ∧ (levelStop = true → s.highReached = false) ∧ outs = [.inlet])
    ∨ (∃ runOn, h.work = .drain runOn ∧ outs = [.drain])
    ∨ (∃ duration x, h.work = .circulate duration x ∧ outs = [.circ])
    ∨ (∃ target x, h.work = .heat target x ∧ outs = [.circ, .heater])
    ∨ (∃ duration, h.work = .pause duration ∧ outs = [])

section
variable {u : State} {h : StepRec}

/-- What the entry of demands of the WATER lane's work changes. -/
def State.enteredFor (u t : State) (src : Source) (outs : List Output) : Prop :=
  t.surroundings = u.surroundings ∧ (u.settled = true → t.settled = true) ∧ u.waterKept t
  ∧ t.guard.test = u.guard.test ∧ t.guard.diverter = u.guard.diverter
  ∧ (∀ o k, t.demands o k = (u.demands o k || decide (k = src ∧ o ∈ outs)))

theorem State.enterDemands_enteredFor (hst : (u.lane .water).state ≠ .waiting) (src : Source) (outs : List Output) :
    u.enteredFor (u.enterDemands src outs) src outs := by
  have hby := u.enterDemands_bystanders src outs
  refine ⟨State.enterDemands_surroundings _ _ _, fun _ => State.enterDemands_settled _ _ _, State.putDemands_waterKept hst src true outs,
    congrArg Bystanders.test hby, congrArg Bystanders.diverter hby, fun o k => ?_⟩
  rw [State.enterDemands_demands]
  by_cases hc : o ∈ outs ∧ src = k
  · obtain ⟨hin, rfl⟩ := hc
    simp [hin]
  · rw [if_neg hc, decide_eq_false fun hk => hc ⟨hk.2, hk.1.symm⟩, Bool.or_false]

theorem State.enteredFor_none (src : Source) : u.enteredFor u src [] :=
  ⟨rfl, id, u.waterKept_refl, rfl, rfl, fun o k => by simp⟩

/-- R99 and R101: the dry window of a resumed CIRCULATE or HEAT starts where LEVEL_LOW reads DRY. -/
theorem State.resumePumping_eq {w : Work} {outs : List Output} (hw : u.enterKind w = u.enterDemands .water outs) :
    u.resumePumping w = (u.enterDemands .water outs).withEngine { (u.enterDemands .water outs).engine with
      waterDry := if u.levelWet then (u.enterDemands .water outs).engine.waterDry else u.timer 2000 } := by
  have hsur : (u.enterDemands .water outs).surroundings = u.surroundings := State.enterDemands_surroundings _ _ _
  have hlevel : (u.enterDemands .water outs).levelWet = u.levelWet := State.reads_congr hsur .levelLow
  rw [State.resumePumping, hw]
  dsimp only
  rw [hlevel]
  cases u.levelWet with
  | true => rfl
  | false =>
    rw [State.startWaterDry, State.timer_of_surroundings hsur]
    rfl

/-- R81: what the resume of a plain step of the WATER lane changes. -/
theorem State.resumeKind_spec {outs : List Output} (hst : (u.lane .water).state ≠ .waiting) (hres : u.resumesWith h outs) :
    (u.resumeKind h).surroundings = u.surroundings ∧ (u.settled = true → (u.resumeKind h).settled = true)
    ∧ (u.resumeKind h).lane .water = u.lane .water
    ∧ (u.resumeKind h).guard.test = u.guard.test ∧ (u.resumeKind h).guard.diverter = u.guard.diverter
    ∧ (∀ o k, (u.resumeKind h).demands o k = (u.demands o k || decide (k = .water ∧ o ∈ outs)))
    ∧ (∀ d x, h.work = .circulate d x ∨ h.work = .heat d x →
        (u.resumeKind h).engine.waterDry = if u.levelWet then u.engine.waterDry else u.timer 2000) := by
  have henters (os : List Output) := State.enterDemands_enteredFor hst .water os
  have hpumping {w : Work} {os : List Output} (hw : u.enterKind w = u.enterDemands .water os) :
      (u.resumePumping w).surroundings = u.surroundings ∧ (u.settled = true → (u.resumePumping w).settled = true)
      ∧ (u.resumePumping w).lane .water = u.lane .water
      ∧ (u.resumePumping w).guard.test = u.guard.test ∧ (u.resumePumping w).guard.diverter = u.guard.diverter
      ∧ (∀ o k, (u.resumePumping w).demands o k = (u.demands o k || decide (k = .water ∧ o ∈ os)))
      ∧ (u.resumePumping w).engine.waterDry = if u.levelWet then u.engine.waterDry else u.timer 2000 := by
    obtain ⟨hsur, hsettled, ⟨hlane, hdry, -⟩, htest, hdiverter, hdemands⟩ := henters os
    rw [State.resumePumping_eq hw, ← hdry]
    exact ⟨hsur, hsettled, hlane, htest, hdiverter, hdemands, rfl⟩
  unfold State.resumeKind
  rcases hres with ⟨target, levelStop, hw, hlevel, rfl⟩ | ⟨runOn, hw, rfl⟩ | ⟨duration, x, hw, rfl⟩ | ⟨target, x, hw, rfl⟩
    | ⟨duration, hw, rfl⟩ <;> rw [hw] <;> dsimp only
  · obtain ⟨hsur, hsettled, ⟨hlane, -⟩, htest, hdiverter, hdemands⟩ := henters [.inlet]
    have hgoes : ¬ (levelStop && u.highReached) = true := by
      cases levelStop with
      | false => exact nofun
      | true => rw [hlevel rfl]; exact nofun
    rw [if_neg hgoes]
    exact ⟨hsur, hsettled, hlane, htest, hdiverter, hdemands, fun d x hk => by rcases hk with hk | hk <;> exact nomatch hk⟩
  · obtain ⟨hsur, hsettled, ⟨hlane, -⟩, htest, hdiverter, hdemands⟩ := henters [.drain]
    exact ⟨hsur, hsettled, hlane, htest, hdiverter, hdemands, fun d x hk => by rcases hk with hk | hk <;> exact nomatch hk⟩
  · obtain ⟨hsur, hsettled, hlane, htest, hdiverter, hdemands, hdry⟩ := hpumping (w := .circulate duration x) (os := [.circ]) rfl
    exact ⟨hsur, hsettled, hlane, htest, hdiverter, hdemands, fun _ _ _ => hdry⟩
  · obtain ⟨hsur, hsettled, hlane, htest, hdiverter, hdemands, hdry⟩ := hpumping (w := .heat target x) (os := [.circ, .heater]) rfl
    exact ⟨hsur, hsettled, hlane, htest, hdiverter, hdemands, fun _ _ _ => hdry⟩
  · obtain ⟨hsur, hsettled, ⟨hlane, -⟩, htest, hdiverter, hdemands⟩ := State.enteredFor_none (u := u) .water
    exact ⟨hsur, hsettled, hlane, htest, hdiverter, hdemands, fun d x hk => by rcases hk with hk | hk <;> exact nomatch hk⟩

end

end Sys2Proof.Machine
end

-- ==== The resume of a regeneration, of a start wait and of a dose (R81, R90, R120, R131, R135) ====
section
namespace Sys2Proof.Machine

/-! ### A lane that returns to its start wait (R81, R90) -/

/-- R81: a lane at the end of a pause that began in a start wait. -/
def LaneRec.backToWait (r : LaneRec) : LaneRec :=
  { r with state := .waiting, waitCause := some .start, laneSettle := none, pausedFromWait := false }

section
variable {s : State} {l : Lane} {h : StepRec} {rest : List StepRec}

/-- R90: the end of a pause that began in a start wait makes the start tests again. -/
theorem State.pauseEnds_waits (htest : s.guard.test = none) (hwait : (s.lane l).pausedFromWait = true)
    (hq : (s.lane l).queue = h :: rest) {u : State} (hu : (s.withLane l (s.lane l).backToWait).redivert l = u) :
    s.pauseEnds l = u.takeOutcome l h.work false (u.startTests l h) := by
  have hend : (s.withLane l (s.lane l).backToWait).endTest = s.withLane l (s.lane l).backToWait := State.endTest_none htest
  have hmod : s.modLane l (fun r => { r with
      laneSettle := none, pausedFromWait := false, state := .waiting, waitCause := some .start })
      = s.withLane l (s.lane l).backToWait := rfl
  have hlane : u.lane l = (s.lane l).backToWait := by
    rw [← hu, State.lane, State.redivert_engine]
    exact State.withLane_lane s l _
  have hstart : (u.lane l).startWait = true := by rw [hlane]; rfl
  unfold State.pauseEnds
  simp only [hwait, if_true]
  rw [hmod, hend, hu, State.retest, if_pos hstart, State.head_of_queue (h := h) (rest := rest) (by rw [hlane]; exact hq)]

/-- R40 and R90: a CIRCULATE or HEAT that returns to its start wait. -/
theorem State.pauseEnds_pumping {x : Diverter} (htest : s.guard.test = none) (hwait : (s.lane .water).pausedFromWait = true)
    (hq : (s.lane .water).queue = h :: rest) (hw : h.work.position = some x) :
    s.pauseEnds .water = ((s.withLane .water (s.lane .water).backToWait).setDiverter x).takeOutcome .water h.work false
      (((s.withLane .water (s.lane .water).backToWait).setDiverter x).startTests .water h) := by
  refine State.pauseEnds_waits htest hwait hq ?_
  rw [State.redivert_of_head (u := s.withLane .water (s.lane .water).backToWait) (l := .water) (h := h)
    (State.head_of_queue (rest := rest) hq), hw]
  rfl

end

/-! ### The resume of a regeneration (R120) -/

theorem Softener.eq_of_steady {f g : Softener} (h : f.steady = g.steady) : f = { g with exempt := f.exempt, noFlow := f.noFlow } :=
  calc f = { f.steady with exempt := f.exempt, noFlow := f.noFlow } := rfl
    _ = { g.steady with exempt := f.exempt, noFlow := f.noFlow } := by rw [h]

theorem State.sameResin_of_steady {s u : State} (hsur : u.surroundings = s.surroundings)
    (h : u.softener.steady = s.softener.steady) : s.sameResin u := by
  refine State.sameResin_of_surroundings hsur ?_
  rw [State.resinAccount, Softener.eq_of_steady h]
  rfl

theorem State.regenerated_congr {s u t : State} {h : StepRec} {rest : List StepRec} {counts : Nat} {short : Bool}
    (hsame : s.sameResin u) (hsur : u.surroundings = s.surroundings) (hu : u.regenerated t h rest counts short) :
    s.regenerated t h rest counts short := by
  have hclock : u.time.clock = s.time.clock := congrArg Surroundings.clock hsur
  obtain ⟨haccount, hsalt, hfull, hthreshold⟩ := hsame
  simp only [State.resinAccount, Prod.mk.injEq] at haccount
  obtain ⟨hvalid, hremaining, hflag, htally⟩ := haccount
  unfold State.regenerated at hu ⊢
  rwa [hvalid, hremaining, hflag, htally, hsalt, hfull, hthreshold, hclock, State.toMl_of_surroundings hsur] at hu

/-- R120: the demands with which a regeneration resumes by its phase. -/
def State.regenResumesWith (s : State) (outs : List Output) : Prop :=
  s.softener.phase = .brine ∧ outs = [.inlet, .regen]
    ∨ s.softener.phase = .soak ∧ outs = []
    ∨ s.softener.phase = .rinse ∧ s.highReached = false ∧ outs = [.inlet]

/-- R120: a regeneration resumes with the demands of its phase. -/
theorem State.regenResume_entered {u : State} {outs : List Output} (hst : (u.lane .water).state ≠ .waiting)
    (hres : u.regenResumesWith outs) : u.enteredFor u.regenResume .softener outs := by
  unfold State.regenResume
  rcases hres with ⟨hphase, rfl⟩ | ⟨hphase, rfl⟩ | ⟨hphase, hlow, rfl⟩ <;> rw [hphase] <;> dsimp only
  · exact State.enterDemands_enteredFor hst .softener _
  · exact State.enteredFor_none .softener
  · rw [State.rinseOrComplete, if_neg (by rw [hlow]; decide)]
    exact State.enterDemands_enteredFor hst .softener _

/-! ### The end of an output test, as far as the DOSE lane goes (R49) -/

theorem State.endTest_guard (s : State) : s.endTest.guard.test = none
    ∧ ∀ o src, src ≠ .test → s.endTest.demands o src = s.demands o src := by
  cases htest : s.guard.test with
  | none =>
    rw [State.endTest_none htest]
    exact ⟨htest, fun _ _ _ => rfl⟩
  | some k =>
    refine ⟨?_, fun o src hsrc => ?_⟩
    · rw [State.endTest, htest]
      exact (congrArg Bystanders.test (State.evaluate_bystanders _) :)
    · rw [State.endTest_demands htest, if_neg fun hk => hsrc hk.2.symm]

theorem State.endTest_pumped (s : State) : s.dosing.pumped s.endTest.dosing := by
  unfold State.endTest
  split
  · exact Dosing.pumped_refl _
  next o _ => exact State.evaluate_pumped ((s.withGuard { s.guard with test := none, testTimer := none }).putDemand .test false o)

theorem State.endTest_dose {s : State} (hst : (s.lane .dose).state ≠ .waiting) : s.endTest.lane .dose = s.lane .dose := by
  unfold State.endTest
  split
  · rfl
  next o _ => exact State.evaluate_dose ((s.withGuard { s.guard with test := none, testTimer := none }).putDemand .test false o) hst

theorem State.redivert_dose {u : State} {h : StepRec} {rest : List StepRec} {base : Nat} {a : Agent}
    (hq : (u.lane .dose).queue = h :: rest) (hw : h.work = .dose base a) : u.redivert .dose = u := by
  rw [State.redivert_of_head (State.head_of_queue hq), hw]
  rfl

section
variable {s : State} {h : StepRec} {rest : List StepRec} {base : Nat} {a : Agent}
  (hq : (s.lane .dose).queue = h :: rest) (hw : h.work = .dose base a)
include hq hw

/-- R81: what the end of a pause of the DOSE lane changes before its step resumes. -/
theorem State.pauseOver_dose : (s.pauseOver .dose).surroundings = s.surroundings
    ∧ (s.pauseOver .dose).lane .dose = (s.lane .dose).unpaused
    ∧ (s.pauseOver .dose).guard.test = none
    ∧ (∀ o src, src ≠ .test → (s.pauseOver .dose).demands o src = s.demands o src)
    ∧ s.dosing.pumped (s.pauseOver .dose).dosing := by
  have hlane := State.endTest_dose (s := s.withLane .dose (s.lane .dose).unpaused) nofun
  obtain ⟨htest, hdemands⟩ := (s.withLane .dose (s.lane .dose).unpaused).endTest_guard
  have hover : s.pauseOver .dose = (s.withLane .dose (s.lane .dose).unpaused).endTest :=
    State.redivert_dose (h := h) (rest := rest) (by rw [hlane]; exact hq) hw
  rw [hover]
  exact ⟨State.endTest_surroundings _, hlane, htest, hdemands, State.endTest_pumped (s.withLane .dose (s.lane .dose).unpaused)⟩

theorem State.pauseOver_untested (htest : s.guard.test = none) : s.pauseOver .dose = s.withLane .dose (s.lane .dose).unpaused := by
  have hend : (s.withLane .dose (s.lane .dose).unpaused).endTest = s.withLane .dose (s.lane .dose).unpaused := State.endTest_none htest
  rw [State.pauseOver, hend]
  exact State.redivert_dose (h := h) (rest := rest) hq hw

/-- R131 and R135: a DOSE that was RUNNING resumes its work. -/
theorem State.pauseEnds_dose (hwait : (s.lane .dose).pausedFromWait = false) : s.pauseEnds .dose = (s.pauseOver .dose).doseWork := by
  obtain ⟨-, hlane, -⟩ := State.pauseOver_dose hq hw
  rw [State.pauseEnds_resumes hwait (h := h) (rest := rest) (by rw [hlane]; exact hq), State.resumeKind, hw]
  rfl

end

/-! ### The work of a DOSE that resumes (R131, R135) -/

section
variable {u : State} {r : DoseRec} (hrec : u.dosing.record = some r)
include hrec

theorem State.doseWork_strokeOn (hphase : r.phase = .on) (hwet : u.accepted .levelLow = some true) : u.doseWork = u := by
  rw [State.doseWork, if_pos (State.levelWet_eq hwet), State.strokeDue, hrec]
  exact if_pos (.inr hphase)

end

theorem State.endDose_success (u : State) (flags : ResultFlags) (v : Option Nat) :
    u.endDose (.success flags v) = u.succeed .dose flags v := rfl

theorem State.endDose_immediate (u : State) (result : StepResult) : u.endDose (.immediate result) = u.failImmediate .dose result := rfl

/-- R131: what the lane does where the stroke that is due has no stock. -/
def State.doseStockless (u t : State) (r : DoseRec) (h : StepRec) (rest : List StepRec) : Prop :=
  (∀ o, t.demands o .dose = false)
  ∧ (0 < r.delivered → (t.lane .dose).queue = rest
      ∧ (t.lane .dose).last = some { manner := .done, step := { h with
          status := .done, result := .ok, endTime := some u.time.clock, actual := fit32 (r.delivered * u.strokeVolume r.agent),
          flags := { ResultFlags.clear with shortSupply := true } } })
  ∧ (r.delivered = 0 → (t.lane .dose).state = .stalled
      ∧ (t.lane .dose).queue = { h with status := .failed, result := .noSupply, endTime := some u.time.clock } :: rest)

section
variable {u : State} {r : DoseRec} {h : StepRec} {rest : List StepRec} {base : Nat} {a : Agent} (hrec : u.dosing.record = some r)
  (hrun : (u.lane .dose).state = .running) (hphase : r.phase ≠ .on) (hwet : u.accepted .levelLow = some true)
include hrec hrun hphase hwet

theorem State.doseWork_issues
    (hstock : r.issuedInTry = true → (u.account r.agent).valid = true → u.strokeVolume r.agent ≤ (u.account r.agent).stock) :
    u.doseWork = u.issueStroke r.agent := by
  rw [State.doseWork, if_pos (State.levelWet_eq hwet), State.strokeDue_issues hrec hrun hphase hwet hstock]

theorem State.doseWork_stockless (hissued : r.issuedInTry = true) (hvalid : (u.account r.agent).valid = true)
    (hless : (u.account r.agent).stock < u.strokeVolume r.agent) (hq : (u.lane .dose).queue = h :: rest) (hw : h.work = .dose base a) :
    u.doseStockless u.doseWork r h rest := by
  have hwait : (u.lane .dose).state ≠ .waiting := by rw [hrun]; exact nofun
  have hidle : ∀ r', u.dosing.record = some r' → r'.phase ≠ .on := fun r' hr' => by
    cases Option.some.inj (hrec.symm.trans hr')
    exact hphase
  rw [State.doseWork, if_pos (State.levelWet_eq hwet), State.strokeDue_ends hrec hrun hphase hwet hissued hvalid hless, DoseRec.noStock]
  by_cases hpos : 0 < r.delivered
  · obtain ⟨hlane, -⟩ := State.succeed_idle hwait hq ⟨base, a, hw⟩ hidle { ResultFlags.clear with shortSupply := true }
      (r.delivered * u.strokeVolume r.agent)
    rw [if_pos hpos, State.endDose_success]
    refine ⟨fun o => State.succeed_withdraws _ .dose _ _ o, fun _ => ?_, fun h0 => absurd hpos (by rw [h0]; decide)⟩
    exact ⟨congrArg LaneRec.queue hlane, congrArg LaneRec.last hlane⟩
  · obtain ⟨hlane, -⟩ := State.tryEnd_idle hwait hq ⟨base, a, hw⟩ hidle
    have hin : (u.lane .dose).tryInProgress = true := by simp [LaneRec.tryInProgress, LaneRec.inTry, hrun]
    have hfailed := State.failForGood_lane (u.tryEnd .dose) .dose .noSupply h rest (by rw [hlane]; exact hq)
    rw [State.tryEnd_now] at hfailed
    rw [if_neg hpos, State.endDose_immediate, State.failImmediate, if_pos hin]
    refine ⟨fun o => ?_, fun hpos' => absurd hpos' hpos, fun _ => ?_⟩
    · exact (State.demands_of_guardCore (State.failForGood_guardCore _ _ _) _ _).trans (State.tryEnd_withdraws u .dose o)
    · rw [hfailed]
      exact ⟨rfl, rfl⟩

end

end Sys2Proof.Machine
end

-- ==== What acts of the WATER lane leave of a dose (R34, R37, R74, R76 to R81, R132) ====
section
namespace Sys2Proof.Machine

/-! ### The dose of a lane that does not wait -/

/-- `t` is `s` as far as a dose goes: the DOSE lane, the Dosing Unit under events of its pumps, the DOSE demands, the surroundings, and a
pump that is energised under its DOSE demand while its base terms hold. -/
def State.doseKept (s t : State) : Prop :=
  t.lane .dose = s.lane .dose ∧ s.dosing.pumped t.dosing ∧ (∀ o, t.demands o .dose = s.demands o .dose)
  ∧ t.surroundings = s.surroundings
  ∧ ∀ a : Agent, s.demands a.pump .dose = true → s.pumpBase a.pump = true → s.energised a.pump = true → t.energised a.pump = true

theorem State.pumpBase_of_surroundings {s t : State} (h : t.surroundings = s.surroundings) (a : Agent) :
    t.pumpBase a.pump = s.pumpBase a.pump := by
  have hflood : t.guard.flood = s.guard.flood := congrArg Surroundings.flood h
  have hlatched : t.guard.latched = s.guard.latched := congrArg Surroundings.latched h
  have hlocked : t.store.configured = s.store.configured := congrArg Surroundings.configured h
  have hfitted : t.fitted a.pump = s.fitted a.pump := by
    cases a <;> simp only [State.fitted, Agent.pump, State.absent, State.fieldNat_of_surroundings h, hlocked]
  rw [State.pumpBase, State.supplyReady_congr h, hflood, hlatched, hfitted]
  rfl

theorem State.doseKept_refl (s : State) : s.doseKept s := ⟨rfl, Dosing.pumped_refl _, fun _ => rfl, rfl, fun _ _ _ h => h⟩

theorem State.doseKept_trans {s t u : State} (h : s.doseKept t) (h' : t.doseKept u) : s.doseKept u := by
  obtain ⟨hlane, hpumped, hdemands, hsur, hon⟩ := h
  obtain ⟨hlane', hpumped', hdemands', hsur', hon'⟩ := h'
  refine ⟨hlane'.trans hlane, Dosing.pumped_trans hpumped hpumped', fun o => (hdemands' o).trans (hdemands o), hsur'.trans hsur,
    fun a hd hb he => hon' a ?_ ?_ (hon a hd hb he)⟩
  · rw [hdemands]
    exact hd
  · rw [State.pumpBase_of_surroundings hsur]
    exact hb

/-- An act that touches neither the DOSE lane, nor the Dosing Unit, nor the outputs. -/
theorem State.doseKept_of_same {s t : State} (hlane : t.lane .dose = s.lane .dose) (hdosing : t.dosing = s.dosing)
    (hguard : t.guardCore = s.guardCore) (hsur : t.surroundings = s.surroundings) : s.doseKept t := by
  have houts : t.guard.outs = s.guard.outs := congrArg Prod.fst hguard
  refine ⟨hlane, hdosing ▸ Dosing.pumped_refl _, fun o => State.demands_of_guardCore hguard o .dose, hsur, fun a _ _ he => ?_⟩
  rw [State.energised, State.out, houts]
  exact he

/-! ### Under an evaluation (R34, R37) -/

/-- R37: a pump that is energised under its DOSE demand stays so while its base terms hold. -/
def State.pumping (s : State) (a : Agent) : Prop :=
  s.demands a.pump .dose = true ∧ s.pumpBase a.pump = true ∧ s.energised a.pump = true

theorem State.pumping_wanted {s : State} {a : Agent} (h : s.pumping a) : s.wanted a.pump = true := by
  obtain ⟨hd, hb, he⟩ := h
  have hwanted : s.wanted a.pump = s.pumpWanted a.pump := by cases a <;> rfl
  rw [hwanted, State.pumpWanted, hd, hb, he]
  simp

theorem State.evaluate_pumping {s : State} {a : Agent} (h : s.pumping a) : s.evaluate.pumping a := by
  refine (State.evaluate_keeps_of (fun _ => ()) (fun u => u.pumping a) (fun u o hu => ⟨?_, rfl⟩) (fun u o on hu => ⟨?_, rfl⟩) s h).1
  · refine ⟨?_, ?_, ?_⟩
    · rw [State.demands, State.settleOutput_demands]
      exact hu.1
    · rw [State.pumpBase_of_surroundings (u.settleOutput_surroundings o)]
      exact hu.2.1
    · by_cases ho : a.pump = o
      · rw [← ho, State.settleOutput_energised]
        exact State.pumping_wanted hu
      · rw [State.settleOutput_energised_ne _ _ _ ho]
        exact hu.2.2
  · have hguard := u.outputEvent_guardCore o on
    have houts : (u.outputEvent o on).guard.outs = u.guard.outs := congrArg Prod.fst hguard
    refine ⟨(State.demands_of_guardCore hguard _ _).trans hu.1, ?_, ?_⟩
    · rw [State.pumpBase_of_surroundings (u.outputEvent_surroundings o on)]
      exact hu.2.1
    · rw [State.energised, State.out, houts]
      exact hu.2.2

section
variable {s : State} (hst : (s.lane .dose).state ≠ .waiting)
include hst

theorem State.evaluate_doseKept : s.doseKept s.evaluate :=
  ⟨State.evaluate_dose s hst, s.evaluate_pumped, fun o => State.demands_evaluate s o .dose, s.evaluate_surroundings,
    fun _ hd hb he => (State.evaluate_pumping ⟨hd, hb, he⟩).2.2⟩

/-- R34 and R35: demands of another source. -/
theorem State.putDemands_doseKept (src : Source) (hsrc : src ≠ .dose) (v : Bool) (os : List Output) :
    s.doseKept (s.putDemands src v os).evaluate := by
  have hlane : (s.putDemands src v os).lane .dose = s.lane .dose := by rw [State.lane, State.putDemands_lanes]; rfl
  have hput : s.doseKept (s.putDemands src v os) := by
    refine ⟨hlane, ?_, fun o => ?_, State.putDemands_surroundings _ _ _ _, fun a _ _ he => ?_⟩
    · rw [State.putDemands_keeps State.dosing (fun _ _ _ _ => rfl)]
      exact Dosing.pumped_refl _
    · rw [State.putDemands_demands, if_neg fun hk => hsrc hk.2]
    · rw [State.putDemands_energised]
      exact he
  exact State.doseKept_trans hput (State.evaluate_doseKept (by rw [hlane]; exact hst))

/-! ### Under the end of a step of the WATER lane (R74, R76 to R79) -/

theorem State.concludeSuccess_doseKept (flags : ResultFlags) : s.doseKept (s.concludeSuccess .water flags) :=
  State.doseKept_of_same (s.concludeSuccess_water_dose flags hst) (State.dosing_of_apart (s.concludeSuccess_water_apart flags))
    (s.concludeSuccess_guardCore .water flags) (s.concludeSuccess_surroundings .water flags)

theorem State.failForGood_doseKept (r : StepResult) : s.doseKept (s.failForGood .water r) :=
  State.doseKept_of_same (s.failForGood_water_dose r hst) (State.dosing_of_apart (s.failForGood_apart .water r))
    (s.failForGood_guardCore .water r) (s.failForGood_surroundings .water r)

theorem State.concludeCounted_doseKept (r : StepResult) : s.doseKept (s.concludeCounted .water r) :=
  State.doseKept_of_same (s.concludeCounted_water_dose r hst) (State.dosing_of_apart (s.concludeCounted_apart .water r))
    (s.concludeCounted_guardCore .water r) (s.concludeCounted_surroundings .water r)

theorem State.abandonRegen_doseKept : s.doseKept s.abandonRegen := by
  unfold State.abandonRegen
  split
  · exact s.doseKept_refl
  · have hdrawn : s.doseKept (s.withdrawAll .softener) := State.putDemands_doseKept hst .softener nofun false Output.evalOrder
    generalize s.withdrawAll .softener = u at *
    exact State.doseKept_trans hdrawn (State.doseKept_of_same rfl rfl rfl rfl)

end

theorem State.rodTryEnd_door (s : State) : ∃ d, s.rodTryEnd = s.withDoor d := by
  unfold State.rodTryEnd
  dsimp only
  (repeat' split) <;> exact ⟨_, rfl⟩

theorem State.rodHandOver_door (s : State) : ∃ d, s.rodHandOver = s.withDoor d := by
  unfold State.rodHandOver State.beginExtend
  dsimp only
  (repeat' split) <;> exact ⟨_, rfl⟩

theorem State.rodSupplyLost_door (s : State) : ∃ d, s.rodSupplyLost = s.withDoor d := by
  unfold State.rodSupplyLost
  split <;> exact ⟨_, rfl⟩

theorem State.withDoor_doseKept (s : State) (d : DoorUnit) : s.doseKept (s.withDoor d) := State.doseKept_of_same rfl rfl rfl rfl

section
variable {s : State} (hst : (s.lane .dose).state ≠ .waiting) (hb : s.bounded = true)
include hst hb

theorem State.tryEnd_doseKept : s.doseKept (s.tryEnd .water) := by
  have hdrawn : s.doseKept (s.withdrawAll .water) := State.putDemands_doseKept hst .water nofun false Output.evalOrder
  have hst' : ((s.withdrawAll .water).lane .dose).state ≠ .waiting := by rw [hdrawn.1]; exact hst
  have htold : (s.withdrawAll .water).doseKept ((s.withdrawAll .water).tellTryEnd .water) := by
    unfold State.tellTryEnd
    split
    · exact State.doseKept_refl _
    next t ht =>
      have hlane := State.lane_work _ (s.withdrawAll_bounded .water hb) .water t (List.mem_of_head? ht)
      cases hw : t.work with
      | regenerate force => exact State.abandonRegen_doseKept hst'
      | autoOpen =>
        obtain ⟨d, hd⟩ := State.rodTryEnd_door (s.withdrawAll .water)
        dsimp only
        rw [hd]
        exact State.withDoor_doseKept _ d
      | dose base a => rw [hw] at hlane; exact nomatch hlane
      | fill | drain | circulate | heat | pause => exact State.doseKept_refl _
  exact State.doseKept_trans (State.doseKept_trans hdrawn htold) (State.doseKept_of_same rfl rfl rfl rfl)

theorem State.succeed_doseKept (flags : ResultFlags) (v : Option Nat) : s.doseKept (s.succeed .water flags v) := by
  have hends {u : State} (hu : s.doseKept u) (hub : u.bounded = true) : s.doseKept ((u.tryEnd .water).concludeSuccess .water flags) := by
    have hut : (u.lane .dose).state ≠ .waiting := by rw [hu.1]; exact hst
    have hend := State.tryEnd_doseKept hut hub
    exact State.doseKept_trans hu (State.doseKept_trans hend (State.concludeSuccess_doseKept (by rw [hend.1]; exact hut) flags))
  unfold State.succeed
  cases v with
  | none => exact hends s.doseKept_refl hb
  | some v => exact hends (State.doseKept_of_same rfl rfl rfl rfl) (s.modHead_bounded .water _ hb fun _ => rfl)

theorem State.endCounted_doseKept (r : StepResult) : s.doseKept (s.endCounted .water r) := by
  have hend := State.tryEnd_doseKept hst hb
  exact State.doseKept_trans hend (State.concludeCounted_doseKept (by rw [hend.1]; exact hst) r)

theorem State.failImmediate_doseKept (r : StepResult) : s.doseKept (s.failImmediate .water r) := by
  unfold State.failImmediate
  split
  · have hend := State.tryEnd_doseKept hst hb
    exact State.doseKept_trans hend (State.failForGood_doseKept (by rw [hend.1]; exact hst) r)
  · exact State.failForGood_doseKept hst r

end

/-! ### Under a try of the WATER lane that goes on or pauses (R75, R80, R90) -/

theorem State.runSetup_doseKept (s : State) {w : Work} (hw : w.lane = .water) : s.doseKept (s.runSetup .water w) := by
  cases w with
  | heat target x =>
    unfold State.runSetup State.heatReading
    dsimp only
    split <;> exact State.doseKept_of_same rfl rfl rfl rfl
  | regenerate force =>
    obtain ⟨ports, hports⟩ := s.debit_spec s.pendingCount
    refine State.doseKept_of_same ?_ ?_ ?_ s.regenHandOver_surroundings <;> rw [State.runSetup, State.regenHandOver, hports] <;> rfl
  | autoOpen =>
    obtain ⟨d, hd⟩ := s.rodHandOver_door
    rw [State.runSetup, hd]
    exact State.withDoor_doseKept _ d
  | dose base a => exact nomatch hw
  | fill | drain | circulate | pause => exact State.doseKept_refl _

section
variable {s : State} (hst : (s.lane .dose).state ≠ .waiting)
include hst

theorem State.enterKind_doseKept {w : Work} (hw : w.lane = .water) : s.doseKept (s.enterKind w) := by
  cases w with
  | pause | autoOpen => exact State.doseKept_refl _
  | dose base a => exact nomatch hw
  | regenerate force => exact State.putDemands_doseKept hst .softener nofun true _
  | fill | drain | circulate | heat => exact State.putDemands_doseKept hst .water nofun true _

theorem State.runKind_doseKept {w : Work} (hw : w.lane = .water) : s.doseKept (s.runKind .water w) := by
  have hlane : s.doseKept (s.modLane .water (fun r => { r with state := .running, waitCause := none })) :=
    State.doseKept_of_same rfl rfl rfl rfl
  have hset := State.doseKept_trans hlane (State.runSetup_doseKept _ hw)
  exact State.doseKept_trans hset (State.enterKind_doseKept (by rw [hset.1]; exact hst) hw)

theorem State.retest_doseKept (hb : s.bounded = true) : s.doseKept (s.retest .water) := by
  unfold State.retest
  split
  · split
    · exact s.doseKept_refl
    next t ht =>
      have hlane := s.lane_work hb .water t (List.mem_of_head? ht)
      unfold State.takeOutcome
      split
      · exact State.succeed_doseKept hst hb _ _
      · exact State.endCounted_doseKept hst hb _
      · exact State.failImmediate_doseKept hst hb _
      · exact State.doseKept_of_same rfl rfl rfl rfl
      · exact State.runKind_doseKept hst hlane
  · exact s.doseKept_refl

theorem State.pauseKind_doseKept (hb : s.bounded = true) (supply : Bool) : s.doseKept (s.pauseKind .water supply) := by
  have hdrawn (src : Source) (hsrc : src ≠ .dose) : s.doseKept (s.withdrawAll src) :=
    State.putDemands_doseKept hst src hsrc false Output.evalOrder
  unfold State.pauseKind
  split
  · exact s.doseKept_refl
  next t ht =>
    have hlane := s.lane_work hb .water t (List.mem_of_head? ht)
    cases hw : t.work with
    | fill | drain | pause => exact hdrawn .water nofun
    | circulate | heat => exact State.doseKept_trans (hdrawn .water nofun) (State.doseKept_of_same rfl rfl rfl rfl)
    | regenerate force => exact hdrawn .softener nofun
    | autoOpen =>
      obtain ⟨d, hd⟩ := s.rodSupplyLost_door
      dsimp only
      split
      · rw [hd]
        exact State.withDoor_doseKept s d
      · exact s.doseKept_refl
    | dose base a => rw [hw] at hlane; exact nomatch hlane

theorem State.addCause_doseKept (hb : s.bounded = true) (supply : Bool) : s.doseKept (s.addCause .water supply) := by
  unfold State.addCause
  dsimp only
  split
  · refine State.doseKept_trans ?_ (State.pauseKind_doseKept ?_ ?_ supply)
    · exact State.doseKept_of_same rfl rfl rfl rfl
    · exact hst
    · exact s.modLane_bounded .water _ hb List.suffix_rfl
  · exact s.doseKept_refl

end

end Sys2Proof.Machine
end

-- ==== The begin of a pause (R80, R120, R135) ====
section
namespace Sys2Proof.Machine

/-! ### Deliveries with one receiver that acts -/

/-- A delivery in which the receiver `r0` turns `Before` into `After`, and every other receiver keeps both. -/
theorem deliver_marks {Before After : State → Prop} {act : Receiver → State → State} {left : List Receiver} {r0 : Receiver}
    (hnodup : left.Nodup) (h0 : ∀ u, Before u → After (act r0 u))
    (h : ∀ r ∈ left, r ≠ r0 → ∀ u, (Before u → Before (act r u)) ∧ (After u → After (act r u))) (order : List Receiver) {s : State}
    (hs : Before s) (hl : r0 ∈ left) : After (deliver act order left s) := by
  obtain ⟨l, hperm, heq⟩ := deliver_eq_foldl act order left s
  have hmem : ∀ r ∈ l, r ∈ left := fun r hr => hperm.subset hr
  have hin : r0 ∈ l := hperm.symm.subset hl
  have honce : l.Nodup := hperm.nodup_iff.mpr hnodup
  rw [heq]
  clear heq hperm hl
  have hafter : ∀ k : List Receiver, (∀ r ∈ k, r ∈ left) → r0 ∉ k → ∀ u, After u → After (k.foldl (fun u r => act r u) u) := by
    intro k
    induction k with
    | nil => exact fun _ _ _ hu => hu
    | cons r k ih =>
      intro hk hr0 u hu
      rw [List.mem_cons, not_or] at hr0
      exact ih (fun x hx => hk x (List.mem_cons_of_mem _ hx)) hr0.2 _ ((h r (hk r List.mem_cons_self) (Ne.symm hr0.1) u).2 hu)
  induction l generalizing s with
  | nil => exact nomatch hin
  | cons r l ih =>
    rw [List.nodup_cons] at honce
    rw [List.foldl_cons]
    by_cases hr : r = r0
    · subst hr
      exact hafter l (fun x hx => hmem x (List.mem_cons_of_mem _ hx)) honce.1 _ (h0 s hs)
    · exact ih ((h r (hmem r List.mem_cons_self) hr s).1 hs) (fun x hx => hmem x (List.mem_cons_of_mem _ hx))
        ((List.mem_cons.mp hin).resolve_left (Ne.symm hr)) honce.2

/-! ### An event that pauses the lanes (R80) -/

/-- R80: the Step Engine takes the cause of a pause, for both lanes. -/
def State.pausesLanes (s : State) (supply : Bool) : State :=
  if supply then (s.addCause .water true).addCause .dose true
  else ((((s.addCause .water false).addCause .dose false).retest .water).retest .dose)

/-- What a block beside the Step Engine does with the event: the Output Guard evaluates, the others touch no output, lane, dose or account. -/
def State.besideEngine (s t : State) : Prop :=
  t = s.evaluate ∨ (t.engine = s.engine ∧ t.softener = s.softener ∧ t.dosing = s.dosing ∧ t.guard = s.guard
    ∧ t.surroundings = s.surroundings)

/-- R80: what the receivers of an event that pauses the lanes do with it. -/
structure Pausing (act : Receiver → State → State) (left : List Receiver) (supply : Bool) : Prop where
  nodup : left.Nodup
  engine_mem : Receiver.engine ∈ left
  bounded : ∀ (r : Receiver) (u : State), u.bounded = true → (act r u).bounded = true
  engine : ∀ u : State, act .engine u = u.pausesLanes supply
  beside : ∀ r ∈ left, r ≠ .engine → ∀ u : State, u.besideEngine (act r u)

theorem State.doorUnitDoor_others (s : State) (closed isEvent : Bool) : (s.doorUnitDoor closed isEvent).softener = s.softener
    ∧ (s.doorUnitDoor closed isEvent).dosing = s.dosing ∧ (s.doorUnitDoor closed isEvent).guard = s.guard := by
  unfold State.doorUnitDoor State.setAjar
  dsimp only
  (repeat' split) <;> exact ⟨rfl, rfl, rfl⟩

theorem pausing_door : Pausing (State.inputTo .door false true) (Receiver.ofInput .door) false where
  nodup := by decide
  engine_mem := by decide
  bounded := fun r u hu => u.inputTo_bounded .door false true r hu
  engine := fun u => rfl
  beside := by
    intro r hr hne u
    cases r with
    | guard => exact .inl rfl
    | engine => exact absurd rfl hne
    | door =>
      obtain ⟨hsoftener, hdosing, hguard⟩ := u.doorUnitDoor_others false true
      exact .inr ⟨u.doorUnitDoor_engine false true, hsoftener, hdosing, hguard, u.doorUnitDoor_surroundings false true⟩
    | ports => exact .inr ⟨rfl, rfl, rfl, rfl, u.raiseInputChanged_surroundings .door false⟩
    | softener | cycle => exact absurd hr (by decide)

theorem pausing_supply (cause : LossCause) : Pausing (State.supplyTo (some cause)) Receiver.ofSupply true where
  nodup := by decide
  engine_mem := by decide
  bounded := fun r u hu => u.supplyTo_bounded (some cause) r hu
  engine := fun u => rfl
  beside := by
    intro r hr hne u
    cases r with
    | guard => exact .inl rfl
    | engine => exact absurd rfl hne
    | door =>
      obtain ⟨d, hd⟩ := u.rodSupplyLost_door
      refine .inr ?_
      change u.rodSupplyLost.engine = _ ∧ u.rodSupplyLost.softener = _ ∧ u.rodSupplyLost.dosing = _ ∧ u.rodSupplyLost.guard = _
        ∧ u.rodSupplyLost.surroundings = _
      rw [hd]
      exact ⟨rfl, rfl, rfl, rfl, rfl⟩
    | ports => exact .inr ⟨rfl, rfl, rfl, rfl, u.raiseByClass_surroundings _⟩
    | softener | cycle => exact absurd hr (by decide)

/-- R80: the record of a lane that was RUNNING and is paused by a cause. -/
def LaneRec.pausedBy (r : LaneRec) (supply : Bool) : LaneRec :=
  { r with state := .paused, waitCause := none, pausedFromWait := false, laneSettle := none, pauseDoor := r.pauseDoor || !supply,
           pauseSupply := r.pauseSupply || supply }

theorem State.addCause_running {u : State} {l : Lane} {h : StepRec} {supply : Bool} (hrun : (u.lane l).state = .running)
    (hh : u.head l = some h) (hactive : h.status = .active) (hcause : supply = true ∨ h.work.doorPauses = true) :
    u.addCause l supply = (u.withLane l ((u.lane l).pausedBy supply)).pauseKind l supply := by
  have hin : (u.lane l).tryInProgress = true := by simp [LaneRec.tryInProgress, LaneRec.inTry, hrun]
  have hwork : u.activeWork l (fun w => supply || w.doorPauses) = true := by
    rw [State.activeWork, State.headIs, hh]
    simpa [hactive] using hcause
  have hrec : { u.lane l with
      state := .paused, waitCause := none,
      pausedFromWait := if decide ((u.lane l).state = .paused) then (u.lane l).pausedFromWait else (u.lane l).startWait,
      pauseDoor := (u.lane l).pauseDoor || !supply, pauseSupply := (u.lane l).pauseSupply || supply, laneSettle := none }
      = (u.lane l).pausedBy supply := by
    have hfrom : (if decide ((u.lane l).state = .paused) then (u.lane l).pausedFromWait else (u.lane l).startWait) = false := by
      simp [hrun, LaneRec.startWait]
    rw [hfrom]
    rfl
  rw [State.addCause, if_pos (by rw [hin, hwork]; rfl), ← hrec]
  rfl

/-! ### The WATER lane (R80, R120) -/

/-- `t` is `s` as far as a WATER lane at work and the demands beside DOSE go. -/
def State.waterLeft (s t : State) : Prop :=
  s.waterKept t ∧ ∀ o src, src ≠ .dose → t.demands o src = s.demands o src

theorem State.waterLeft_trans {s t u : State} (h : s.waterLeft t) (h' : t.waterLeft u) : s.waterLeft u :=
  ⟨State.waterKept_trans h.1 h'.1, fun o src hsrc => (h'.2 o src hsrc).trans (h.2 o src hsrc)⟩

theorem State.waterLeft_of_same {s t : State} (hlane : t.lane .water = s.lane .water) (hdry : t.engine.waterDry = s.engine.waterDry)
    (hsoftener : t.softener = s.softener) (hguard : t.guardCore = s.guardCore) : s.waterLeft t :=
  ⟨⟨hlane, hdry, fun _ => by rw [hsoftener]⟩, fun o src _ => State.demands_of_guardCore hguard o src⟩

theorem State.besideEngine_waterLeft {s t : State} (hst : (s.lane .water).state ≠ .waiting) (h : s.besideEngine t) : s.waterLeft t := by
  rcases h with rfl | ⟨hengine, hsoftener, -, hguard, -⟩
  · exact ⟨State.evaluate_waterKept hst, fun o src _ => State.demands_evaluate s o src⟩
  · refine State.waterLeft_of_same ?_ (congrArg Engine.waterDry hengine) hsoftener ?_
    · rw [State.lane, hengine]
      rfl
    · rw [State.guardCore, hguard]
      rfl

theorem State.doseActs.waterLeft {s t : State} (h : s.doseActs t) (hst : (s.lane .water).state ≠ .waiting) : s.waterLeft t := by
  induction h with
  | keeps h =>
    refine State.waterLeft_of_same (State.lane_of_besideDose h) (State.waterDry_of_besideDose h) (State.softener_of_besideDose h) ?_
    rw [State.guardCore, State.guard_of_besideDose h]
    rfl
  | release s =>
    have hapart := s.releaseExclusion_apart
    refine State.waterLeft_of_same (s.releaseExclusion_lane .water hst) ?_ (State.softener_of_apart hapart) s.releaseExclusion_guardCore
    unfold State.releaseExclusion State.releaseLane
    (repeat' split) <;> rfl
  | demands s v os =>
    refine ⟨State.putDemands_waterKept hst .dose v os, fun o src hsrc => ?_⟩
    rw [State.demands_evaluate, State.putDemands_demands, if_neg fun hk => hsrc hk.2.symm]
  | trans _ _ ih ih' =>
    have hfirst := ih hst
    exact State.waterLeft_trans hfirst (ih' (by rw [hfirst.1.1]; exact hst))

/-- R80 and R120: `t` is `s` with the head `h` of its WATER lane paused and its demands withdrawn. -/
def State.waterPaused (s t : State) (h : StepRec) (supply : Bool) : Prop :=
  t.lane .water = (s.lane .water).pausedBy supply
  ∧ (h.work ≠ .autoOpen → (∀ force, h.work ≠ .regenerate force) → ∀ o, t.demands o .water = false)
  ∧ (∀ force, h.work = .regenerate force → (∀ o, t.demands o .softener = false)
      ∧ (s.softener.phase ≠ .none → t.softener.steady = s.softener.steady))
  ∧ (∀ d x, h.work = .circulate d x ∨ h.work = .heat d x → t.engine.waterDry = none)

section
variable {s t u : State} {h : StepRec} {supply : Bool}

theorem State.waterPaused_of_left (hleft : s.waterLeft t) (hpaused : t.waterPaused u h supply) : s.waterPaused u h supply := by
  obtain ⟨⟨hlane, -, hsteady⟩, -⟩ := hleft
  obtain ⟨hrec, hplain, hregen, hdry⟩ := hpaused
  refine ⟨by rw [hrec, hlane], hplain, fun force hw => ?_, hdry⟩
  obtain ⟨hdemands, hkept⟩ := hregen force hw
  refine ⟨hdemands, fun hphase => ?_⟩
  have hsame := hsteady hphase
  exact (hkept (by rwa [State.phase_of_steady hsame])).trans hsame

theorem State.waterPaused_then (hpaused : s.waterPaused t h supply) (hleft : t.waterLeft u) : s.waterPaused u h supply := by
  obtain ⟨⟨hlane, hdryleft, hsteady⟩, hdemands⟩ := hleft
  obtain ⟨hrec, hplain, hregen, hdry⟩ := hpaused
  refine ⟨hlane.trans hrec, fun hopen hno o => (hdemands o .water nofun).trans (hplain hopen hno o), fun force hw => ?_,
    fun d x hk => hdryleft.trans (hdry d x hk)⟩
  obtain ⟨hdrawn, hkept⟩ := hregen force hw
  refine ⟨fun o => (hdemands o .softener nofun).trans (hdrawn o), fun hphase => ?_⟩
  have hsame := hkept hphase
  exact (hsteady (by rwa [State.phase_of_steady hsame])).trans hsame

/-- R80 and R120: the pause of the WATER lane's work. -/
theorem State.pauseKind_waterPaused (hb : s.bounded = true) (hh : s.head .water = some h) :
    s.waterPaused ((s.withLane .water ((s.lane .water).pausedBy supply)).pauseKind .water supply) h supply := by
  have hlanework := s.lane_work hb .water h (List.mem_of_head? hh)
  have hrec : (s.withLane .water ((s.lane .water).pausedBy supply)).lane .water = (s.lane .water).pausedBy supply :=
    State.withLane_lane s .water _
  have hhead : (s.withLane .water ((s.lane .water).pausedBy supply)).head .water = some h := hh
  have hsoftener : (s.withLane .water ((s.lane .water).pausedBy supply)).softener = s.softener := rfl
  rw [State.pauseKind, hhead]
  dsimp only
  generalize s.withLane .water ((s.lane .water).pausedBy supply) = v at *
  have hdrawn (src : Source) := State.putDemands_waterKept (s := v) (by rw [hrec]; exact nofun) src false Output.evalOrder
  have hgone (src : Source) (o : Output) : (v.withdrawAll src).demands o src = false := by
    rw [State.withdrawAll_demands, if_pos rfl]
  cases hw : h.work with
  | fill | drain | pause =>
    refine ⟨(hdrawn .water).1.trans hrec, fun _ _ => hgone .water, fun force hk => (nomatch hw.symm.trans hk), fun d x hk => ?_⟩
    rcases hk with hk | hk <;> exact nomatch hw.symm.trans hk
  | circulate | heat =>
    exact ⟨(hdrawn .water).1.trans hrec, fun _ _ => hgone .water, fun force hk => (nomatch hw.symm.trans hk), fun _ _ _ => rfl⟩
  | regenerate force =>
    refine ⟨(hdrawn .softener).1.trans hrec, fun _ hno => absurd hw (hno force), fun _ _ => ⟨hgone .softener, fun hphase => ?_⟩,
      fun d x hk => ?_⟩
    · exact ((hdrawn .softener).2.2 (by rwa [hsoftener])).trans (congrArg Softener.steady hsoftener)
    · rcases hk with hk | hk <;> exact nomatch hw.symm.trans hk
  | autoOpen =>
    obtain ⟨d, hd⟩ := v.rodSupplyLost_door
    have hlane : (if supply = true then v.rodSupplyLost else v).lane .water = (s.lane .water).pausedBy supply := by
      split
      · rw [hd]
        exact hrec
      · exact hrec
    refine ⟨hlane, fun hopen => absurd hw hopen, fun force hk => (nomatch hw.symm.trans hk), fun d x hk => ?_⟩
    rcases hk with hk | hk <;> exact nomatch hw.symm.trans hk
  | dose base a => rw [hw] at hlanework; exact nomatch hlanework

end

/-- R80 and R120: an event that pauses the lanes pauses a RUNNING WATER lane. -/
theorem pausing_water {act : Receiver → State → State} {left : List Receiver} {supply : Bool} (hact : Pausing act left supply)
    {s : State} {h : StepRec} (hb : s.bounded = true) (hrun : (s.lane .water).state = .running) (hh : s.head .water = some h)
    (hactive : h.status = .active) (hcause : supply = true ∨ h.work.doorPauses = true) (order : List Receiver) :
    s.waterPaused (deliver act order left s) h supply := by
  refine (deliver_marks (Before := fun u => u.bounded = true ∧ s.waterLeft u)
    (After := fun u => u.bounded = true ∧ s.waterPaused u h supply) hact.nodup ?_ ?_ order ⟨hb, s.waterKept_refl, fun _ _ _ => rfl⟩
    hact.engine_mem).2
  · rintro u ⟨hub, hleft⟩
    refine ⟨hact.bounded .engine u hub, ?_⟩
    obtain ⟨⟨hlane, -⟩, -⟩ := id hleft
    have hhead : u.head .water = some h := by
      rw [State.head, hlane]
      exact hh
    have hpaused : s.waterPaused (u.addCause .water supply) h supply := by
      rw [State.addCause_running (h := h) (by rw [hlane]; exact hrun) hhead hactive hcause]
      exact State.waterPaused_of_left hleft (State.pauseKind_waterPaused hub hhead)
    have hcb := u.addCause_bounded .water supply hub
    have hdose : (u.addCause .water supply).doseActs ((u.addCause .water supply).addCause .dose supply) :=
      State.doseActs.addCause hcb supply
    have hstopped {v : State} (hv : s.waterPaused v h supply) : (v.lane .water).state ≠ .waiting := by
      rw [hv.1]
      exact nofun
    have hboth := State.waterPaused_then hpaused (hdose.waterLeft (hstopped hpaused))
    rw [hact.engine, State.pausesLanes]
    cases supply with
    | true => exact hboth
    | false =>
      have hwait : ((((u.addCause .water false).addCause .dose false).lane .water).startWait) = false := by
        rw [hboth.1]
        rfl
      rw [if_neg Bool.false_ne_true, State.retest_unwaiting hwait]
      have hretest := State.doseActs.retest (State.addCause_bounded _ .dose false hcb)
      exact State.waterPaused_then hboth (hretest.waterLeft (hstopped hboth))
  · refine fun r hr hne u => ⟨fun ⟨hub, hleft⟩ => ⟨hact.bounded r u hub, ?_⟩, fun ⟨hub, hpaused⟩ => ⟨hact.bounded r u hub, ?_⟩⟩
    · refine State.waterLeft_trans hleft (State.besideEngine_waterLeft ?_ (hact.beside r hr hne u))
      rw [hleft.1.1, hrun]
      exact nofun
    · refine State.waterPaused_then hpaused (State.besideEngine_waterLeft ?_ (hact.beside r hr hne u))
      rw [hpaused.1]
      exact nofun

/-! ### The DOSE lane (R80, R135) -/

/-- R135: a dose record whose pause begins. -/
def DoseRec.suspended (r : DoseRec) : DoseRec := { r with offTimer := none, dry := none }

theorem DoseRec.pumped_suspended {r r' : DoseRec} (h : r.pumped r') : r.suspended.pumped r'.suspended := by
  obtain ⟨heq, hoff⟩ := h
  refine ⟨?_, fun hphase => by rw [hoff hphase]⟩
  rw [heq]
  rfl

/-- R80 and R135: `t` is `s` with its DOSE lane and the dose `r` paused. -/
def State.dosePaused (s t : State) (r : DoseRec) (supply : Bool) : Prop :=
  t.lane .dose = (s.lane .dose).pausedBy supply
  ∧ (∃ r', t.dosing.record = some r' ∧ r.suspended.pumped r')
  ∧ t.surroundings = s.surroundings
  ∧ (supply = true → ∀ o, t.demands o .dose = false)
  ∧ (supply = false → (∀ o, t.demands o .dose = s.demands o .dose)
      ∧ ∀ a : Agent, s.demands a.pump .dose = true → s.pumpBase a.pump = true → s.energised a.pump = true → t.energised a.pump = true)

section
variable {s t u : State} {r : DoseRec} {supply : Bool}

theorem State.dosePaused_then (hpaused : s.dosePaused t r supply) (hkept : t.doseKept u) : s.dosePaused u r supply := by
  obtain ⟨hlane, ⟨r', hr', hmarked⟩, hsur, hlost, hdoor⟩ := hpaused
  obtain ⟨hlane', hpumped, hdemands, hsur', hon⟩ := hkept
  obtain ⟨r'', hr'', hmarked'⟩ := Dosing.pumped_some hpumped hr'
  refine ⟨hlane'.trans hlane, ⟨r'', hr'', DoseRec.pumped_trans hmarked hmarked'⟩, hsur'.trans hsur,
    fun hs o => (hdemands o).trans (hlost hs o), fun hs => ?_⟩
  obtain ⟨hsame, hpump⟩ := hdoor hs
  refine ⟨fun o => (hdemands o).trans (hsame o), fun a hd hb he => hon a ?_ ?_ (hpump a hd hb he)⟩
  · rw [hsame]
    exact hd
  · rw [State.pumpBase_of_surroundings hsur]
    exact hb

theorem State.dosePaused_of_kept (hkept : s.doseKept t) (hr : ∃ r', t.dosing.record = some r' ∧ r.pumped r')
    (hpaused : ∀ r', t.dosing.record = some r' → t.dosePaused u r' supply) : s.dosePaused u r supply := by
  obtain ⟨hlane, -, hdemands, hsur, hon⟩ := hkept
  obtain ⟨r', hr', hmarked⟩ := hr
  obtain ⟨hlane', ⟨r'', hr'', hmarked'⟩, hsur', hlost, hdoor⟩ := hpaused r' hr'
  refine ⟨by rw [hlane', hlane], ⟨r'', hr'', DoseRec.pumped_trans (DoseRec.pumped_suspended hmarked) hmarked'⟩, hsur'.trans hsur, hlost,
    fun hs => ?_⟩
  obtain ⟨hsame, hpump⟩ := hdoor hs
  refine ⟨fun o => (hsame o).trans (hdemands o), fun a hd hb he => hpump a ?_ ?_ (hon a hd hb he)⟩
  · rw [hdemands]
    exact hd
  · rw [State.pumpBase_of_surroundings hsur]
    exact hb

/-- R80 and R135: the pause of a dose. -/
theorem State.pauseKind_dosePaused {h : StepRec} {base : Nat} {a : Agent} (hh : s.head .dose = some h) (hw : h.work = .dose base a)
    (hrec : s.dosing.record = some r) :
    s.dosePaused ((s.withLane .dose ((s.lane .dose).pausedBy supply)).pauseKind .dose supply) r supply := by
  have hhead : (s.withLane .dose ((s.lane .dose).pausedBy supply)).head .dose = some h := hh
  have hrecord : (s.withLane .dose ((s.lane .dose).pausedBy supply)).dosing.record = some r := hrec
  have hkind : (s.withLane .dose ((s.lane .dose).pausedBy supply)).pauseKind .dose supply
      = (if supply then ((s.withLane .dose ((s.lane .dose).pausedBy supply)).withDose (some r.suspended)).withdrawAll .dose
        else (s.withLane .dose ((s.lane .dose).pausedBy supply)).withDose (some r.suspended)) := by
    rw [State.pauseKind, hhead]
    dsimp only
    rw [hw]
    dsimp only
    rw [State.dosePause, State.modDose_of_record hrecord]
    rfl
  rw [hkind]
  cases supply with
  | false => exact ⟨rfl, ⟨_, rfl, DoseRec.pumped_refl _⟩, rfl, nofun, fun _ => ⟨fun _ => rfl, fun _ _ _ he => he⟩⟩
  | true =>
    rw [if_pos rfl]
    have hpumped := State.withdrawAll_pumped ((s.withLane .dose ((s.lane .dose).pausedBy true)).withDose (some r.suspended)) .dose
    refine ⟨State.withdrawAll_dose ((s.withLane .dose ((s.lane .dose).pausedBy true)).withDose (some r.suspended)) .dose nofun,
      Dosing.pumped_some hpumped rfl, State.withdrawAll_surroundings _ _, fun _ o => ?_, nofun⟩
    rw [State.withdrawAll_demands, if_pos rfl]

end

theorem State.besideEngine_doseKept {s t : State} (hst : (s.lane .dose).state ≠ .waiting) (h : s.besideEngine t) : s.doseKept t := by
  rcases h with rfl | ⟨hengine, -, hdosing, hguard, hsur⟩
  · exact State.evaluate_doseKept hst
  · refine State.doseKept_of_same ?_ hdosing ?_ hsur
    · rw [State.lane, hengine]
      rfl
    · rw [State.guardCore, hguard]
      rfl

/-- R80 and R135: an event that pauses the lanes pauses a RUNNING DOSE lane and its dose. -/
theorem pausing_dose {act : Receiver → State → State} {left : List Receiver} {supply : Bool} (hact : Pausing act left supply)
    {s : State} {h : StepRec} {base : Nat} {a : Agent} {r : DoseRec} (hb : s.bounded = true) (hrun : (s.lane .dose).state = .running)
    (hh : s.head .dose = some h) (hactive : h.status = .active) (hw : h.work = .dose base a) (hrec : s.dosing.record = some r)
    (order : List Receiver) : s.dosePaused (deliver act order left s) r supply := by
  refine (deliver_marks (Before := fun u => u.bounded = true ∧ s.doseKept u)
    (After := fun u => u.bounded = true ∧ s.dosePaused u r supply) hact.nodup ?_ ?_ order ⟨hb, s.doseKept_refl⟩ hact.engine_mem).2
  · rintro u ⟨hub, hkept⟩
    refine ⟨hact.bounded .engine u hub, ?_⟩
    have hdose : (u.lane .dose).state ≠ .waiting := by
      rw [hkept.1, hrun]
      exact nofun
    have hcause := State.doseKept_trans hkept (State.addCause_doseKept hdose hub supply)
    have hcb := u.addCause_bounded .water supply hub
    have hlane := hcause.1
    have hboth : s.dosePaused ((u.addCause .water supply).addCause .dose supply) r supply := by
      have hhead : (u.addCause .water supply).head .dose = some h := by
        rw [State.head, hlane]
        exact hh
      rw [State.addCause_running (h := h) (by rw [hlane]; exact hrun) hhead hactive (.inr (by rw [hw]; rfl))]
      exact State.dosePaused_of_kept hcause (Dosing.pumped_some hcause.2.1 hrec)
        (fun r' hr' => State.pauseKind_dosePaused hhead hw hr')
    rw [hact.engine, State.pausesLanes]
    cases supply with
    | true => exact hboth
    | false =>
      have hstopped : ((((u.addCause .water false).addCause .dose false).lane .dose).state) ≠ .waiting := by
        rw [hboth.1]
        exact nofun
      have hretest := State.dosePaused_then hboth (State.retest_doseKept hstopped (State.addCause_bounded _ .dose false hcb))
      rw [if_neg Bool.false_ne_true, State.retest_unwaiting (by rw [hretest.1]; rfl)]
      exact hretest
  · refine fun k hk hne u => ⟨fun ⟨hub, hkept⟩ => ⟨hact.bounded k u hub, ?_⟩, fun ⟨hub, hpaused⟩ => ⟨hact.bounded k u hub, ?_⟩⟩
    · refine State.doseKept_trans hkept (State.besideEngine_doseKept ?_ (hact.beside k hk hne u))
      rw [hkept.1, hrun]
      exact nofun
    · refine State.dosePaused_then hpaused (State.besideEngine_doseKept ?_ (hact.beside k hk hne u))
      rw [hpaused.1]
      exact nofun

end Sys2Proof.Machine
end

-- ==== Retries and pauses (R78, R80, R81) ====
section
namespace Sys2Proof.Machine

/-! ### The resume of a step of the WATER lane -/

section
variable {s : State} {h : StepRec} {rest : List StepRec} {outs : List Output} (hwait : (s.lane .water).pausedFromWait = false)
  (hq : (s.lane .water).queue = h :: rest)
include hwait hq

/-- R81: a plain step of the WATER lane that was RUNNING resumes. -/
theorem State.pauseEnds_plain (hres : s.resumesWith h outs) :
    (s.pauseEnds .water).surroundings = s.surroundings ∧ (s.settled = true → (s.pauseEnds .water).settled = true)
    ∧ (s.pauseEnds .water).guard.test = none ∧ (s.pauseEnds .water).lane .water = (s.lane .water).unpaused
    ∧ (∀ o src, src ≠ .test → (s.pauseEnds .water).demands o src = (s.demands o src || decide (src = .water ∧ o ∈ outs)))
    ∧ (∀ d x, h.work = .circulate d x ∨ h.work = .heat d x → (s.pauseEnds .water).guard.diverter = x
        ∧ (s.pauseEnds .water).engine.waterDry = if s.levelWet then s.engine.waterDry else s.timer 2000) := by
  obtain ⟨hsur, hlane, htest, hdiverter, hdry, -, hdemands, hsettled⟩ := State.pauseOver_water hq
  have hends := State.pauseEnds_resumes hwait (h := h) (rest := rest) (by rw [hlane]; exact hq)
  have hres' : (s.pauseOver .water).resumesWith h outs := by
    have hhigh : (s.pauseOver .water).highReached = s.highReached := State.reads_congr hsur .levelHigh
    unfold State.resumesWith
    rw [hhigh]
    exact hres
  have hlevel : (s.pauseOver .water).levelWet = s.levelWet := State.reads_congr hsur .levelLow
  obtain ⟨hksur, hksettled, hklane, hktest, hkdiverter, hkdemands, hkdry⟩ :=
    State.resumeKind_spec (u := s.pauseOver .water) (by rw [hlane]; exact nofun) hres'
  rw [hends]
  refine ⟨hksur.trans hsur, fun hs => hksettled (hsettled hs), hktest.trans htest, hklane.trans hlane, fun o src hsrc => ?_,
    fun d x hk => ⟨?_, ?_⟩⟩
  · rw [hkdemands, hdemands o src hsrc]
  · rw [hkdiverter, hdiverter]
    rcases hk with hk | hk <;> rw [hk] <;> rfl
  · rw [hkdry d x hk, hlevel, hdry, State.timer_of_surroundings hsur]

variable {force : Bool} (hw : h.work = .regenerate force) (hphase : s.softener.phase ≠ .none)
include hw hphase

/-- R120: a regeneration resumes with the demands of its phase. -/
theorem State.pauseEnds_regen (hres : s.regenResumesWith outs) :
    (s.pauseEnds .water).surroundings = s.surroundings ∧ (s.settled = true → (s.pauseEnds .water).settled = true)
    ∧ (s.pauseEnds .water).guard.test = none ∧ (s.pauseEnds .water).lane .water = (s.lane .water).unpaused
    ∧ (∀ o src, src ≠ .test → (s.pauseEnds .water).demands o src = (s.demands o src || decide (src = .softener ∧ o ∈ outs)))
    ∧ (s.pauseEnds .water).softener.steady = s.softener.steady := by
  obtain ⟨hsur, hlane, htest, -, -, hsteady, hdemands, hsettled⟩ := State.pauseOver_water hq
  have hends := State.pauseEnds_resumes hwait (h := h) (rest := rest) (by rw [hlane]; exact hq)
  have hsame := hsteady hphase
  have hphase' : (s.pauseOver .water).softener.phase = s.softener.phase := State.phase_of_steady hsame
  have hres' : (s.pauseOver .water).regenResumesWith outs := by
    have hhigh : (s.pauseOver .water).highReached = s.highReached := State.reads_congr hsur .levelHigh
    unfold State.regenResumesWith
    rw [hhigh, hphase']
    exact hres
  have hkind : (s.pauseOver .water).resumeKind h = (s.pauseOver .water).regenResume := by rw [State.resumeKind, hw]
  obtain ⟨hksur, hksettled, ⟨hklane, -, hksteady⟩, hktest, -, hkdemands⟩ :=
    State.regenResume_entered (u := s.pauseOver .water) (by rw [hlane]; exact nofun) hres'
  rw [hends, hkind]
  refine ⟨hksur.trans hsur, fun hs => hksettled (hsettled hs), hktest.trans htest, hklane.trans hlane, fun o src hsrc => ?_,
    (hksteady (by rw [hphase']; exact hphase)).trans hsame⟩
  rw [hkdemands, hdemands o src hsrc]

/-- R120: a RINSE that resumes under a high level is complete. -/
theorem State.pauseEnds_completes (hrinse : s.softener.phase = .rinse) (hhigh : s.highReached = true)
    (hd : ∀ o, s.demands o .water = false) : (s.pauseEnds .water).surroundings = s.surroundings
      ∧ s.regenerated (s.pauseEnds .water) h rest (s.softener.brine + s.softener.rinse) true := by
  obtain ⟨hsur, hlane, -, -, -, hsteady, hdemands, -⟩ := State.pauseOver_water hq
  have hqueue : ((s.pauseOver .water).lane .water).queue = h :: rest := by
    rw [hlane]
    exact hq
  have hends := State.pauseEnds_resumes hwait hqueue
  have hsame := hsteady hphase
  have hphase' : (s.pauseOver .water).softener.phase = s.softener.phase := State.phase_of_steady hsame
  have hreached : (s.pauseOver .water).highReached = true := (State.reads_congr hsur .levelHigh).trans hhigh
  have hkind : (s.pauseOver .water).resumeKind h = (s.pauseOver .water).regenComplete true := by
    rw [State.resumeKind, hw]
    dsimp only
    rw [State.regenResume, hphase', hrinse]
    exact if_pos hreached
  have hdone := State.regenComplete_regenerated (s := s.pauseOver .water) true (by rw [hlane]; exact nofun) hqueue hw
    (by rw [hphase']; exact hphase) (fun o => (hdemands o .water nofun).trans (hd o))
  have hbrine : (s.pauseOver .water).softener.brine = s.softener.brine := (congrArg Softener.brine hsame :)
  have hrinsed : (s.pauseOver .water).softener.rinse = s.softener.rinse := (congrArg Softener.rinse hsame :)
  rw [hbrine, hrinsed] at hdone
  rw [hends, hkind]
  exact ⟨(State.regenComplete_surroundings _ _).trans hsur,
    State.regenerated_congr (State.sameResin_of_steady hsur hsame) hsur hdone⟩

end

/-! ### The part as an event pauses its lanes -/

/-- R80: an event of DOOR to OPEN and a supply loss are delivered to receivers of a pausing event. -/
theorem exec_pausing {c : Instr} {order : List Receiver} {supply : Bool} {s : State} (hr : s.resetHeld = false) (hb : s.bounded = true)
    (hc : c = .debounceTimerExpiry .door order ∧ (s.inputs.get .door).candidate = some false
        ∧ s.due (s.inputs.get .door).debounce = true ∧ (s.accepted .door).isSome = true ∧ supply = false
      ∨ c = .lossWindowExpiry order ∧ s.time.supply = .ready ∧ s.due s.time.lossWindow = true ∧ supply = true) :
    ∃ (u : State) (act : Receiver → State → State) (left : List Receiver), Pausing act left supply
      ∧ exec c s = .next (deliver act order left u) ∧ u.engine = s.engine ∧ u.softener = s.softener ∧ u.guard = s.guard
      ∧ u.dosing = s.dosing ∧ u.bounded = true ∧ (supply = false → ∀ o, u.pumpBase o = s.pumpBase o) := by
  rcases hc with ⟨rfl, hcand, hdue, hev, rfl⟩ | ⟨rfl, hready, hdue, rfl⟩
  · refine ⟨s.accepting .door false, _, _, pausing_door, ?_, rfl, rfl, rfl, rfl, hb, fun _ _ => rfl⟩
    rw [exec_debounce hr hcand hdue, State.accept_eq, hev]
  · exact ⟨_, _, _, pausing_supply .zeroCross, exec_lossWindow_ready hr hready hdue, rfl, rfl, rfl, rfl, hb, nofun⟩

/-- Settles O40: the retry timer directly, the end of a pause by the resume of the head's kind, the begin of a pause by what every
receiver of its event leaves of the lane it pauses. -/
theorem retryAndPauseEnd : Obligations.RetryAndPauseEnd := by
  refine ⟨fun l s hr hst hdue => exec_retry hr hst hdue, fun h rest outs s hr hp hwait hdue hq hres => ?_,
    fun h rest x s hr htest hp hwait hdue hq hw => ?_, fun h rest force s hr hp hwait hdue hq hw hphase => ?_,
    fun h rest base agent r s hr hp hdue hq hw hrec => ?_, fun c order supply s hr hb hc => ?_⟩
  · obtain ⟨hsur, hsettled, htest, hlane, hdemands, hpumping⟩ := State.pauseEnds_plain hwait hq hres
    refine ⟨_, exec_pauseSettle hr hp hdue, hsur, hsettled, htest, hlane, fun o => ?_, fun o src hwater hsrc => ?_, hpumping⟩
    · rw [hdemands o .water nofun]
      simp
    · rw [hdemands o src hsrc]
      simp [hwater]
  · have hposition : h.work.position = some x := by
      obtain ⟨d, hk | hk⟩ := hw <;> rw [hk] <;> rfl
    rw [exec_pauseSettle hr hp hdue, State.pauseEnds_pumping htest hwait hq hposition]
    refine ⟨fun hnone => ?_, fun hwet ⟨d, hk⟩ => ?_⟩
    · have htests : ((s.withLane .water (s.lane .water).backToWait).setDiverter x).startTests .water h = .wait := by
        have hacc : ((s.withLane .water (s.lane .water).backToWait).setDiverter x).accepted .levelLow = none := hnone
        rw [State.startTests]
        obtain ⟨d, hk | hk⟩ := hw <;> rw [hk] <;> dsimp only
        · rw [State.circulateTests, hacc]
        · rw [State.heatTests, hacc]
      rw [htests]
      rfl
    · have htests : ((s.withLane .water (s.lane .water).backToWait).setDiverter x).startTests .water h = .run := by
        have hacc : ((s.withLane .water (s.lane .water).backToWait).setDiverter x).accepted .levelLow = some true := hwet
        rw [State.startTests, hk]
        dsimp only
        rw [State.circulateTests, hacc]
      obtain ⟨hsur, -, ⟨hlane, -⟩, -, hdiverter, hdemands⟩ := State.enterDemands_enteredFor
        (u := (s.withLane .water (s.lane .water).unpaused).setDiverter x) nofun .water [.circ]
      rw [htests, hk]
      refine ⟨((s.withLane .water (s.lane .water).unpaused).setDiverter x).enterDemands .water [.circ], rfl, hsur,
        State.enterDemands_settled _ _ _, hlane, hdiverter, fun o src => ?_⟩
      rw [hdemands o src]
      refine congrArg (s.demands o src || ·) (decide_eq_decide.mpr ?_)
      rw [List.mem_singleton]
      exact and_comm
  · refine ⟨fun outs hres => ?_, fun hrinse hhigh hd => ?_⟩
    · obtain ⟨hsur, hsettled, htest, hlane, hdemands, hsteady⟩ := State.pauseEnds_regen hwait hq hw hphase hres
      refine ⟨_, exec_pauseSettle hr hp hdue, hsur, hsettled, htest, hlane, fun o => ?_, fun o src hsoftener hsrc => ?_,
        Softener.eq_of_steady hsteady⟩
      · rw [hdemands o .softener nofun]
        simp
      · rw [hdemands o src hsrc]
        simp [hsoftener]
    · exact ⟨_, exec_pauseSettle hr hp hdue, State.pauseEnds_completes hwait hq hw hphase hrinse hhigh hd⟩
  · rw [exec_pauseSettle hr hp hdue]
    obtain ⟨hsur, hlane, htest, hdemands, hpumped⟩ := State.pauseOver_dose hq hw
    have hacc := State.accepted_of_surroundings hsur .levelLow
    have hrun : ((s.pauseOver .dose).lane .dose).state = .running := by rw [hlane]; rfl
    have hsame (hphase : r.phase ≠ .on) : (s.pauseOver .dose).dosing.record = some r := by
      obtain ⟨r', hr', -, hoff⟩ := Dosing.pumped_some hpumped hrec
      rw [hr', hoff hphase]
    have haccount (a : Agent) : (s.pauseOver .dose).account a = s.account a := by
      rw [State.account, hpumped.1]
      rfl
    refine ⟨fun hwait hno hnotest => ?_, fun hwait hphase hwet hnotest => ?_, fun hwait hphase hdry hnotest => ?_,
      fun hwait hphase hwet hstock => ?_, fun hwait hphase hwet hissued hvalid hless => ?_⟩
    · have hback : (s.withLane .dose (s.lane .dose).backToWait).redivert .dose = s.withLane .dose (s.lane .dose).backToWait :=
        State.redivert_dose (h := h) (rest := rest) hq hw
      have hawaits : (s.withLane .dose (s.lane .dose).backToWait).startTests .dose h = .wait := by
        have hrecord : (s.withLane .dose (s.lane .dose).backToWait).dosing.record = some r := hrec
        rw [State.startTests, hw]
        dsimp only
        rw [hrecord]
        exact if_neg (by rw [hno]; decide)
      rw [State.pauseEnds_waits hnotest hwait hq hback, hawaits]
      rfl
    · rw [State.pauseEnds_dose hq hw hwait, State.pauseOver_untested hq hw hnotest,
        State.doseWork_strokeOn (u := s.withLane .dose (s.lane .dose).unpaused) hrec hphase hwet]
      rfl
    · rw [State.pauseEnds_dose hq hw hwait, State.pauseOver_untested hq hw hnotest,
        State.doseWork_waits (u := s.withLane .dose (s.lane .dose).unpaused) hrec hphase hdry]
      rfl
    · have hissues := State.doseWork_issues (hsame hphase) hrun hphase (hacc.trans hwet)
        (by rw [haccount, State.strokeVolume_of_surroundings hsur]; exact hstock)
      obtain ⟨hisur, hsettled, hitest, hidemands, hilane, haccounts, r', hr', hissued⟩ :=
        State.issueStroke_spec (hsame hphase) (by rw [hrun]; exact nofun)
      rw [State.timer_of_surroundings hsur, State.strokePeriod_of_surroundings hsur] at hissued
      rw [State.pauseEnds_dose hq hw hwait, hissues]
      refine ⟨_, rfl, hisur.trans hsur, hsettled, hitest.trans htest, hilane.trans hlane, fun o => ?_, fun o src hdose hsrc => ?_,
        haccounts.trans hpumped.1, r', hr', hissued.1⟩
      · rw [hidemands, hdemands o .dose nofun]
        simp
      · rw [hidemands, hdemands o src hsrc]
        simp [hdose]
    · have hends := State.doseWork_stockless (rest := rest) (hsame hphase) hrun hphase (hacc.trans hwet) hissued
        (by rw [haccount]; exact hvalid) (by rw [haccount, State.strokeVolume_of_surroundings hsur]; exact hless)
        (by rw [hlane]; exact hq) hw
      have hclock : (s.pauseOver .dose).time.clock = s.time.clock := congrArg Surroundings.clock hsur
      unfold State.doseStockless at hends
      rw [hclock, State.strokeVolume_of_surroundings hsur] at hends
      rw [State.pauseEnds_dose hq hw hwait]
      exact ⟨_, rfl, (State.doseWork_surroundings _).trans hsur, hends⟩
  · obtain ⟨u, act, left, hact, hexec, hengine, hsoftener, hguard, hdosing, hub, hbase⟩ := exec_pausing hr hb hc
    have hulane (l : Lane) : u.lane l = s.lane l := by
      rw [State.lane, hengine]
      rfl
    have hudemands (o : Output) (src : Source) : u.demands o src = s.demands o src := by
      rw [State.demands, State.out, hguard]
      rfl
    have huhead (l : Lane) : u.head l = s.head l := by
      rw [State.head, hulane]
      rfl
    refine ⟨_, hexec, fun h hrun hh hactive hcause => ?_, fun h base agent r hrun hh hactive hw hrec => ?_⟩
    · obtain ⟨hlane, hplain, hregen, hdry⟩ := pausing_water hact hub (by rw [hulane]; exact hrun) ((huhead .water).trans hh) hactive
        hcause order
      rw [hulane] at hlane
      rw [hsoftener] at hregen
      refine ⟨hlane, hplain, fun force hw => ?_, hdry⟩
      obtain ⟨hdrawn, hkept⟩ := hregen force hw
      exact ⟨hdrawn, fun hphase => Softener.eq_of_steady (hkept hphase)⟩
    · obtain ⟨hlane, ⟨r', hr', hmarked⟩, -, hlost, hdoor⟩ := pausing_dose hact hub (by rw [hulane]; exact hrun)
        ((huhead .dose).trans hh) hactive hw (by rw [hdosing]; exact hrec) order
      rw [hulane] at hlane
      refine ⟨hlane, ⟨r', hr', hmarked.1⟩, hlost, fun hs => ?_⟩
      obtain ⟨hsame, hpump⟩ := hdoor hs
      refine ⟨fun o => (hsame o).trans (hudemands o .dose), fun a hsettled hd he => hpump a ?_ ?_ ?_⟩
      · rw [hudemands]
        exact hd
      · rw [hbase hs]
        exact State.pumpBase_of_energised hsettled a he
      · rw [State.energised, State.out, hguard]
        exact he

end Sys2Proof.Machine
end
